-- ==== Sys2Proof/Word.lean ====
section
/-! DEFINITION. The word types of the messages and records (R4, R437, R459): 32-bit little-endian words and bytes,
and their bit fields. -/
namespace Sys2Proof

/-- One 32-bit word of a message, a record or a register. -/
abbrev Word := BitVec 32

/-- One byte. -/
abbrev Byte := BitVec 8

/-- A sparse table: pairs of a key and an entry, keys strictly ascending. -/
abbrev Tab (α : Type) := List (Nat × α)

/-- The number a Word's bits hi to lo spell. -/
def Word.fld (w : Word) (hi lo : Nat) : Nat := (w.toNat >>> lo) % 2 ^ (hi + 1 - lo)

/-- The bit n of a word. -/
def Word.bit (w : Word) (n : Nat) : Bool := w.fld n n == 1

/-- The natural number that a list of (value, width) spells, the first pair in the lowest bits; each value is cut to
its width. -/
def packNat : List (Nat × Nat) → Nat
  | [] => 0
  | (v, n) :: r => v % 2 ^ n + 2 ^ n * packNat r

/-- A word from its fields, lowest bits first. -/
def pack (fs : List (Nat × Nat)) : Word := BitVec.ofNat 32 (packNat fs)

/-- A word from a number, cut to 32 bits. -/
def w32 (n : Nat) : Word := BitVec.ofNat 32 n

/-- 1 for true, 0 for false. -/
def b2n (b : Bool) : Nat := if b then 1 else 0

/-- The signed number that the low n bits of a field spell (two's complement). -/
def sgn (n v : Nat) : Int := if v % 2 ^ n < 2 ^ (n - 1) then (v % 2 ^ n : Nat) else ((v % 2 ^ n : Nat) : Int) - 2 ^ n

/-- The low n bits of a number in two's complement, as a field. -/
def unsgn (n : Nat) (i : Int) : Nat := (i % (2 ^ n : Nat)).toNat

end Sys2Proof
end

