-- ==== Sys2Proof/Syntax.lean ====
section
/-! DEFINITION. The commands that the block takes: one constructor per row of spec/opcode_table.json. A Skeic command's
operand is the mailbox m that holds its placed message (R459); the other operands are what comes from outside the block
(codes, levels, measured values) or name the instance (channel, block, region, slot). -/
namespace Sys2Proof

/-- Ethernet port A or B. -/
inductive Port where
  | a | b
  deriving DecidableEq, Repr, Inhabited

/-- Number of a port: 0 A, 1 B. -/
def Port.n : Port → Nat
  | .a => 0
  | .b => 1

/-- The other port. -/
def Port.other : Port → Port
  | .a => .b
  | .b => .a

/-- An IP address: version and bits (IPv4 in the low 32). -/
structure Addr where
  v6 : Bool := false
  bits : BitVec 128 := 0
  deriving DecidableEq, Repr, Inhabited

/-- A Skeic datagram as it arrives at a port (R452, R456): port, source address, UDP source port, VID of the frame, UDP
payload. -/
structure Arrival where
  port : Port
  src : Addr
  udp : Nat
  vid : Nat
  bytes : List Byte
  deriving DecidableEq, Repr, Inhabited

/-- A write-CRC error of a memory channel (R274), and whether its one retry failed too. -/
structure CrcError where
  ch : Fin 8
  retryFails : Bool
  deriving DecidableEq, Repr, Inhabited

/-- A received 802.1AS message (R100): the fields that the end station uses. Times at the peer in ns; correction field in
2⁻¹⁶ ns; rx = port timestamp of its arrival in ticks, with fraction. -/
inductive Gptp where
  /-- Sync: sequence, two-step flag, origin time (one-step), correction. -/
  | sync (seq : Nat) (twoStep : Bool) (origin : Int) (corr : Int) (rx : Rat)
  /-- Follow_Up: sequence, precise origin time, correction. -/
  | followUp (seq : Nat) (origin : Int) (corr : Int)
  /-- Pdelay_Req: sequence. -/
  | pdelayReq (seq : Nat) (rx : Rat)
  /-- Pdelay_Resp: sequence, request receipt time at the peer. -/
  | pdelayResp (seq : Nat) (reqAt : Rat) (rx : Rat)
  /-- Pdelay_Resp_Follow_Up: sequence, response origin time at the peer. -/
  | pdelayRespFollowUp (seq : Nat) (respAt : Rat)
  /-- Announce: priority1, the rest of the priority vector as a number, grandmasterIdentity. -/
  | announce (prio1 rest gm : Nat)
  /-- Signaling. -/
  | signaling
  deriving DecidableEq, Repr, Inhabited

/-- The 802.1AS interval timers of a port (R100). -/
inductive GptpTimer where
  | pdelay | sync | announce | announceReceipt
  deriving DecidableEq, Repr, Inhabited

/-- A frame as a port receives it (R418). -/
structure RxFrame where
  /-- Frame check sequence is right. -/
  fcsOk : Bool
  /-- Destination MAC address, 48 bits. -/
  mac : Nat
  /-- VID, none when untagged. -/
  vid : Option Nat
  /-- EtherType. -/
  etype : Nat
  /-- IP version 4, 6, or 0 for a frame that is not IP. -/
  ip : Nat
  /-- IPv4 options or fragments, or IPv6 extension headers. -/
  odd : Bool
  /-- IP protocol or next header. -/
  proto : Nat
  /-- Destination IP address. -/
  dst : BitVec 128
  /-- UDP destination port. -/
  udp : Nat
  /-- UDP payload. -/
  bytes : List Byte
  /-- A router advertisement: router, preference and whether its lifetime is not 0. -/
  router : Option (BitVec 128 × Int × Bool)
  /-- Its length in bytes, from the destination address to the FCS. -/
  size : Nat := 64
  /-- A request to this device that its protocol has answered (ARP request, echo request, neighbour solicitation), and the
  address it comes from. -/
  asks : Bool := false
  from_ : BitVec 128 := 0
  deriving DecidableEq, Repr, Inhabited

/-- A member's state report, or the conductor's (R515). -/
structure ChainReport where
  /-- Chain address of its origin. -/
  from_ : Nat
  /-- Armed. -/
  armed : Bool
  /-- Image identifier of the armed bank. -/
  image : Word
  /-- Thermal scale and ladder scale. -/
  sT : Nat
  sL : Nat
  /-- Aligned. -/
  aligned : Bool
  /-- Device state code. -/
  dev : Nat
  /-- Conductor's warm flag, spin state, scan lock, chain complete. -/
  warm : Bool
  spin : Nat
  lock : Bool
  complete : Bool
  deriving DecidableEq, Repr, Inhabited

/-- A datagram that a follower forwards (R517): chain address, queue, class, port code, destination, priority, DSCP,
sequence, discarded count, records. -/
structure FwdDgram where
  chain : Nat
  queue : Nat
  cls : Nat
  port : Nat
  dest : Nat
  pcp : Nat
  dscp : Nat
  seq : Nat
  lost : Nat
  recs : List (List Word)
  deriving DecidableEq, Repr, Inhabited

/-- What an encoder does: one count up or down (an edge of ENC_A or ENC_B), both lines changing at once, or a rising edge
of ENC_Z (R332, R384). -/
inductive EncEdge where
  | up | down | both | index
  deriving DecidableEq, Repr, Inhabited

/-- What the synchronisers of the island's two channels see at the encoder inputs: the same edge, but for a channel that sees
it earlier, later or not at all (R366, R384). -/
structure EncEdges where
  a : Option EncEdge
  b : Option EncEdge
  deriving DecidableEq, Repr, Inhabited

/-- One sample as a converter gives it (R128): channel, raw code before correction, and the peak current in nA of an
overload pulse that has just ended, as the servo's clamp sense measures it (R125). -/
structure SampleIn where
  ch : Fin 512
  code : Nat
  clamp : Option Nat
  deriving DecidableEq, Repr, Inhabited

/-- What a calibration pass measures on one channel (R557 to R565): mean interval of a pair in 0.1 ps; q0 and S in 1/16 code;
skew_cal in 1/16 fine-time unit; walk tables of both gains, saturated-walk and saturated-intensity tables; gain ratio in
1/256; all with fraction. -/
structure CalMeas where
  ch : Fin 512
  interval : Rat
  q0 : Rat
  slope : Rat
  skew : Rat
  theta : Rat
  walkHi : List Rat
  walkLo : List Rat
  satHi : List Rat
  satLo : List Rat
  intHi : List Rat
  intLo : List Rat
  ratio : Rat
  deriving DecidableEq, Repr, Inhabited

/-- The commands, in the order of spec/opcode_table.json. -/
inductive Instr where
  /-- SKEIC_MESSAGE_ARRIVAL, R453: A Skeic message arrives as one UDP datagram and hardware tests and places it in
  order. -/
  | skeicMessageArrival (d : Arrival)
  /-- FORWARDED_MESSAGE_ARRIVAL, R516: A forwarded Skeic message or response arrives from a neighbouring device. -/
  | forwardedMessageArrival (down : Bool) (msg : List Word)
  /-- RESPONSE_HANDOFF, R456: A ready response is handed to the port of its command, or discarded as lost without
  link. -/
  | responseHandoff (m : Fin 64)
  /-- SESSION_PENDING_EXPIRY, R467: A pending session with no accepted message within 1 s is freed. -/
  | sessionPendingExpiry (n : Fin 8)
  /-- SESSION_IDLE_EXPIRY, R468: A session idle for SKE_IDLE_S seconds closes. -/
  | sessionIdleExpiry (n : Fin 8)
  /-- WAKE_FRAME, R69: A wake frame on the wake port in SLEEP wakes the device. -/
  | wakeFrame (mac dport : Nat) (d : Arrival)
  /-- WAKE_AUTHENTICATION, R70: After a wake the firmware authenticates the wake message and continues or returns to
  SLEEP. -/
  | wakeAuthentication
  /-- SP_MBX_ADDR_WRITE, R483: A write of SP_MBX_ADDR claims the named mailbox for the service port and sets the
  window. -/
  | spMbxAddrWrite (v : Word)
  /-- SP_MBX_DATA_ACCESS, R483: An access to SP_MBX_DATA reads or writes one mailbox word and advances the window
  offset. -/
  | spMbxDataAccess (read : Bool) (v : Word)
  /-- SP_RING_WRITE, R483: A write of SP_RING submits the claimed mailbox's message to the placement tests. -/
  | spRingWrite (v : Word)
  /-- SP_DOORBELL_WRITE, R483: Writing 1 to a doorbell bit frees the service-port mailbox. -/
  | spDoorbellWrite (hi : Bool) (v : Word)
  /-- SP_BOOT_RECOVERY_START, R484: Writing 6 to SP_BOOT in stage 5 erases slot 0 and starts recovery. -/
  | spBootRecoveryStart
  /-- SP_BOOT_RECOVERY_END, R484: Writing 7 to SP_BOOT ends recovery, checks slot 0 and starts it or returns to
  stage 5. -/
  | spBootRecoveryEnd
  /-- SP_REGISTER_WRITE, R481: A transaction of the service port: its first byte, and the bytes that the host sends after it; a
  write to a register with no behaviour of its own stores the value. -/
  | spRegisterWrite (first : BitVec 8) (bytes : List (BitVec 8))
  /-- ID_GET, R2: Returns identity, serial, firmware version and chain role. -/
  | idGet (m : Fin 64)
  /-- SES_OPEN, R467: Allocates the lowest free session as pending and returns the device nonce and proof. -/
  | sesOpen (m : Fin 64)
  /-- SES_CLOSE, R485: Closes the sender's or a named session. -/
  | sesClose (m : Fin 64)
  /-- SES_STATUS, R470: Returns the state of all eight sessions. -/
  | sesStatus (m : Fin 64)
  /-- MBX_STATUS, R470: Returns mailbox states, discard counts and lost responses. -/
  | mbxStatus (m : Fin 64)
  /-- ECHO, R486: Returns its payload unchanged. -/
  | echo (m : Fin 64)
  /-- DEV_RESET, R486: Schedules a Skeic device reset 1 ms after the response is ready. -/
  | devReset (m : Fin 64)
  /-- SKE_PARAM_WRITE, R468: Writes a Skeic parameter. -/
  | skeParamWrite (m : Fin 64)
  /-- SKE_PARAM_READ, R470: Reads a Skeic parameter. -/
  | skeParamRead (m : Fin 64)
  /-- FW_STATUS_GET, R470: Returns slot, trial and image check status. -/
  | fwStatusGet (m : Fin 64)
  /-- FW_ERASE, R487: Erases the whole standby slot. -/
  | fwErase (m : Fin 64)
  /-- FW_ERASE_COMPLETE, R487: The flash erase of the standby slot completes and the slot result becomes 6. -/
  | fwEraseComplete
  /-- FW_IMAGE_WRITE, R487: Writes words into the standby slot and sets its result to 7. -/
  | fwImageWrite (m : Fin 64)
  /-- FW_IMAGE_CHECK, R488: Checks the standby slot under the image tests and returns the result. -/
  | fwImageCheck (m : Fin 64)
  /-- FW_BOOT_SELECT, R489: Changes the journal's boot record for the next boot. -/
  | fwBootSelect (m : Fin 64)
  /-- PWR_STATE_GET, R470: Returns the present and target device state, warm flag and supply readings. -/
  | pwrStateGet (m : Fin 64) (mv ma : Nat)
  /-- PWR_STATE_SET, R67: Starts or queues a transition toward the target device state. -/
  | pwrStateSet (m : Fin 64)
  /-- PWR_DOMAIN_SET, R74: Updates the domain configuration and switches domains with their parents or dependants.
  -/
  | pwrDomainSet (m : Fin 64)
  /-- PWR_DOMAIN_GET, R74: Returns the on-mask and the domain configuration. -/
  | pwrDomainGet (m : Fin 64)
  /-- PWR_RAIL_READ, R470: Returns rail voltages, currents and package power. -/
  | pwrRailRead (m : Fin 64) (rails : List (Nat × Nat)) (power : Nat)
  /-- PWR_PARAM_WRITE, R73: Writes a power parameter; rail set-points take effect at the next power-up. -/
  | pwrParamWrite (m : Fin 64)
  /-- PWR_PARAM_READ, R72: Reads a power parameter. -/
  | pwrParamRead (m : Fin 64)
  /-- TB_STATUS_GET, R470: Returns time-base state and status. -/
  | tbStatusGet (m : Fin 64) (encErr : Int)
  /-- TB_TIME_GET, R470: Returns the tick count and mapped time at one instant. -/
  | tbTimeGet (m : Fin 64)
  /-- TB_FIT_GET, R470: Returns the fitted rate, residual and remaining offset. -/
  | tbFitGet (m : Fin 64)
  /-- TB_TIME_SET, R110: Sets the time by slew or step, or is ignored under 802.1AS. -/
  | tbTimeSet (m : Fin 64)
  /-- TB_PARAM_WRITE, R109: Writes a time-base parameter. -/
  | tbParamWrite (m : Fin 64)
  /-- TB_PARAM_READ, R109: Reads a time-base parameter. -/
  | tbParamRead (m : Fin 64)
  /-- FE_STATUS_GET, R470: Returns per-channel gain, quarantine, servo current and capacitance. -/
  | feStatusGet (m : Fin 64)
  /-- FE_PARAM_WRITE, R152: Writes a front-end parameter for a channel range or device-wide. -/
  | feParamWrite (m : Fin 64)
  /-- FE_PARAM_READ, R152: Reads a front-end parameter. -/
  | feParamRead (m : Fin 64)
  /-- FE_BIAS_TEST, R154: Runs a capacitance measurement and DC evaluation on named channels. -/
  | feBiasTest (m : Fin 64)
  /-- BIAS_TEST_TIMEOUT, R154: After 100 ms an FE_BIAS_TEST responds with untested channels. -/
  | biasTestTimeout
  /-- FE_QUARANTINE_CLEAR, R155: Ends the quarantine of named channels. -/
  | feQuarantineClear (m : Fin 64)
  /-- FE_INTERLEAVE_GET, R470: Returns a channel's interleave corrections and residuals. -/
  | feInterleaveGet (m : Fin 64)
  /-- FE_INTERLEAVE_SAVE, R156: Saves the corrections in use as start values. -/
  | feInterleaveSave (m : Fin 64)
  /-- FE_CQ_START, R151: Ends any capture and arms or starts a converter-queue capture. -/
  | feCqStart (m : Fin 64)
  /-- FE_CQ_STOP, R157: Ends converter-queue capture at each channel's next entry boundary. -/
  | feCqStop (m : Fin 64)
  /-- FE_CQ_STATUS, R157: Returns converter-queue state and counts. -/
  | feCqStatus (m : Fin 64)
  /-- DET_STATUS_GET, R470: Returns per-channel baseline, noise, threshold and fade state. -/
  | detStatusGet (m : Fin 64)
  /-- DET_PARAM_WRITE, R198: Writes a detection parameter. -/
  | detParamWrite (m : Fin 64)
  /-- DET_PARAM_READ, R197: Reads a detection parameter. -/
  | detParamRead (m : Fin 64)
  /-- DET_COEF_LOAD, R165: Loads a coefficient set for cross-fade or replacement at the next frame boundary. -/
  | detCoefLoad (m : Fin 64)
  /-- DET_COEF_GET, R470: Returns a channel's coefficient sets and fade state. -/
  | detCoefGet (m : Fin 64)
  /-- DET_COINC_SET, R199: Writes a coincidence pattern for blocks. -/
  | detCoincSet (m : Fin 64)
  /-- DET_COINC_GET, R199: Returns one coincidence pattern. -/
  | detCoincGet (m : Fin 64)
  /-- DET_TIMING_TABLE_LOAD, R200: Loads a timing table for a channel. -/
  | detTimingTableLoad (m : Fin 64)
  /-- DET_TIMING_TABLE_GET, R201: Returns a channel's timing table. -/
  | detTimingTableGet (m : Fin 64)
  /-- SHOT_STATUS_GET, R470: Returns sequencer and bank status. -/
  | shotStatusGet (m : Fin 64)
  /-- SHOT_PARAM_WRITE, R247: Writes a shot-sequencer parameter. -/
  | shotParamWrite (m : Fin 64)
  /-- SHOT_PARAM_READ, R247: Reads a shot-sequencer parameter. -/
  | shotParamRead (m : Fin 64)
  /-- SHOT_BANK_WRITE, R248: Writes words into the inactive bank, disarming it. -/
  | shotBankWrite (m : Fin 64)
  /-- SHOT_BANK_ARM, R249: Computes the image check and arms the inactive bank if it matches. -/
  | shotBankArm (m : Fin 64)
  /-- SHOT_BANK_DISARM, R249: Disarms the inactive bank. -/
  | shotBankDisarm (m : Fin 64)
  /-- SHOT_SEQ_START, R215: Schedules the first frame of the sequencer. -/
  | shotSeqStart (m : Fin 64)
  /-- SHOT_SEQ_STOP, R216: Stops the sequencer at the next boundary or at once. -/
  | shotSeqStop (m : Fin 64)
  /-- SHOT_EMITTER_GET, R470: Returns a string's state, health, heat and ageing counts. -/
  | shotEmitterGet (m : Fin 64)
  /-- SHOT_EMITTER_SET, R250: Sets emitter health or re-enables a string. -/
  | shotEmitterSet (m : Fin 64)
  /-- SHOT_PROOF_RUN, R251: Makes a proof pending for named strings. -/
  | shotProofRun (m : Fin 64)
  /-- PROOF_RUN_TIMEOUT, R251: After 1 s SHOT_PROOF_RUN responds with proofs not run. -/
  | proofRunTimeout
  /-- CAP_STATUS_GET, R470: Returns ladder, recorder and capture status. -/
  | capStatusGet (m : Fin 64)
  /-- CAP_PARAM_WRITE, R288: Writes a capture parameter. -/
  | capParamWrite (m : Fin 64)
  /-- CAP_PARAM_READ, R288: Reads a capture parameter. -/
  | capParamRead (m : Fin 64)
  /-- CAP_PROFILE_SET, R253: Writes a capture profile for the next frame. -/
  | capProfileSet (m : Fin 64)
  /-- CAP_PROFILE_GET, R289: Returns a stored capture profile. -/
  | capProfileGet (m : Fin 64)
  /-- MEM_STATUS_GET, R470: Returns a memory channel's state and error counts. -/
  | memStatusGet (m : Fin 64)
  /-- LB_FREEZE, R290: Starts a look-back freeze if the recorder is live. -/
  | lbFreeze (m : Fin 64)
  /-- LB_RELEASE, R283: Ends any dump and freeze and returns the recorder to live. -/
  | lbRelease (m : Fin 64)
  /-- LB_DUMP, R282: Starts a dump of protected segments in the frozen state. -/
  | lbDump (m : Fin 64)
  /-- REJ_STATUS_GET, R470: Returns rejection status and verdict counts. -/
  | rejStatusGet (m : Fin 64)
  /-- REJ_PARAM_WRITE, R327: Writes a rejection parameter. -/
  | rejParamWrite (m : Fin 64)
  /-- REJ_PARAM_READ, R327: Reads a rejection parameter. -/
  | rejParamRead (m : Fin 64)
  /-- REJ_TRAIN_LIST, R470: Returns the tracked foreign trains. -/
  | rejTrainList (m : Fin 64)
  /-- REJ_TRAIN_DROP, R329: Drops named trains and discards their stamps. -/
  | rejTrainDrop (m : Fin 64)
  /-- MC_STATUS_GET, R470: Returns motion status. -/
  | mcStatusGet (m : Fin 64)
  /-- MC_PARAM_WRITE, R362: Writes a motion parameter. -/
  | mcParamWrite (m : Fin 64)
  /-- MC_PARAM_READ, R362: Reads a motion parameter. -/
  | mcParamRead (m : Fin 64)
  /-- MC_INJECT_START, R355: Starts a test signal injection and response capture on one axis. -/
  | mcInjectStart (m : Fin 64)
  /-- MC_INJECT_STOP, R363: Ends a running injection. -/
  | mcInjectStop (m : Fin 64)
  /-- MC_CAPTURE_READ, R356: Returns captured response samples. -/
  | mcCaptureRead (m : Fin 64)
  /-- MC_AXIS_RESTART, R364: Restarts named axes that are off. -/
  | mcAxisRestart (m : Fin 64)
  /-- SAF_STATUS_GET, R470: Returns the island status block and counts. -/
  | safStatusGet (m : Fin 64)
  /-- SAF_PARAM_WRITE, R410: Writes a parameter into the staged safety set. -/
  | safParamWrite (m : Fin 64)
  /-- SAF_PARAM_READ, R410: Reads a staged, active, fused or effective safety parameter. -/
  | safParamRead (m : Fin 64)
  /-- SAF_PARAM_COMMIT, R410: Activates the staged safety set if its check matches and the device is not in RUN. -/
  | safParamCommit (m : Fin 64)
  /-- SAF_ACK, R412: Clears acknowledged latches whose cause has gone. -/
  | safAck (m : Fin 64) (good : BitVec 6)
  /-- SAF_BRAKE_TEST, R396: Starts the brake test in PARK or returns result 3. -/
  | safBrakeTest (m : Fin 64)
  /-- SAF_ENERGY_GET, R470: Returns sector energy sums. -/
  | safEnergyGet (m : Fin 64)
  /-- SAF_VEHICLE_MSG, R407: A vehicle safety message copy reaches the island and acts on demands and pairing. -/
  | safVehicleMsg (p : Port) (w0 w1 w2 w3 : Word)
  /-- ETH_STATUS_GET, R470: Returns port status and counts. -/
  | ethStatusGet (m : Fin 64)
  /-- ETH_PARAM_WRITE, R449: Writes a port parameter. -/
  | ethParamWrite (m : Fin 64)
  /-- ETH_PARAM_READ, R449: Reads a port parameter. -/
  | ethParamRead (m : Fin 64)
  /-- ETH_DEST_SET, R450: Writes a destination entry. -/
  | ethDestSet (m : Fin 64)
  /-- ETH_DEST_GET, R450: Returns a destination entry and its resolution. -/
  | ethDestGet (m : Fin 64)
  /-- ETH_Q_BIND, R424: Writes a binding to a range of queues, closing open datagrams. -/
  | ethQBind (m : Fin 64)
  /-- ETH_Q_GET, R470: Returns a queue's binding and counts. -/
  | ethQGet (m : Fin 64)
  /-- CH_STATUS_GET, R470: Returns chain status. -/
  | chStatusGet (m : Fin 64)
  /-- CH_PARAM_WRITE, R526: Writes a chain parameter. -/
  | chParamWrite (m : Fin 64)
  /-- CH_PARAM_READ, R526: Reads a chain parameter or link board-table field. -/
  | chParamRead (m : Fin 64)
  /-- CH_SYNC_MEASURE, R527: Measures and aligns each chain hop from the conductor downward. -/
  | chSyncMeasure (m : Fin 64)
  /-- CH_LINK_GET, R470: Returns a chain link's state and counts. -/
  | chLinkGet (m : Fin 64)
  /-- HK_STATUS_GET, R470: Returns housekeeping scan status. -/
  | hkStatusGet (m : Fin 64) (sync : Bool)
  /-- HK_PARAM_WRITE, R555: Writes a housekeeping parameter. -/
  | hkParamWrite (m : Fin 64)
  /-- HK_PARAM_READ, R555: Reads a housekeeping parameter. -/
  | hkParamRead (m : Fin 64)
  /-- HK_SLOT_SET, R532: Writes scan-table slot entries. -/
  | hkSlotSet (m : Fin 64)
  /-- HK_SLOT_GET, R470: Returns scan-table slot entries. -/
  | hkSlotGet (m : Fin 64)
  /-- HK_CURVE_LOAD, R538: Loads a user curve table. -/
  | hkCurveLoad (m : Fin 64)
  /-- HK_RESULT_GET, R470: Returns the latest results of named slots. -/
  | hkResultGet (m : Fin 64)
  /-- THERM_STATUS_GET, R470: Returns the latest thermal record and the highest T_h. -/
  | thermStatusGet (m : Fin 64)
  /-- CAL_STATUS_GET, R470: Returns calibration run status. -/
  | calStatusGet (m : Fin 64) (refPresent : Bool) (khz mv : Nat)
  /-- CAL_PARAM_WRITE, R574: Writes a calibration parameter. -/
  | calParamWrite (m : Fin 64)
  /-- CAL_PARAM_READ, R574: Reads a calibration parameter. -/
  | calParamRead (m : Fin 64)
  /-- CAL_RUN, R559: Starts a calibration run of the named regions and housekeeping part. -/
  | calRun (m : Fin 64)
  /-- CAL_ABORT, R562: Interrupts the calibration run. -/
  | calAbort (m : Fin 64)
  /-- CAL_CHANNEL_GET, R470: Returns per-channel calibration status. -/
  | calChannelGet (m : Fin 64)
  /-- FUSE_READ, R569: Returns a fuse field's generations and value in use. -/
  | fuseRead (m : Fin 64)
  /-- FUSE_PROGRAM, R571: Programs the lowest free generation of a fuse field and reads it back. -/
  | fuseProgram (m : Fin 64)
  /-- JNL_STATUS_GET, R470: Returns journal, scrub and fuse-shadow status. -/
  | jnlStatusGet (m : Fin 64)
  /-- JNL_PARAM_WRITE, R602: Writes a journal or observation parameter. -/
  | jnlParamWrite (m : Fin 64)
  /-- JNL_PARAM_READ, R602: Reads a journal or observation parameter. -/
  | jnlParamRead (m : Fin 64)
  /-- JNL_COMPACT, R583: Starts a journal compaction. -/
  | jnlCompact (m : Fin 64)
  /-- BT_WRITE, R604: Replaces or removes the board table. -/
  | btWrite (m : Fin 64)
  /-- BT_READ, R604: Returns the board table. -/
  | btRead (m : Fin 64)
  /-- WEAR_RESET, R592: Sets named emitters' ageing counts to zero. -/
  | wearReset (m : Fin 64)
  /-- PERF_CONFIG, R600: Configures and clears performance counters. -/
  | perfConfig (m : Fin 64)
  /-- PERF_READ, R600: Samples performance counters, optionally clearing them. -/
  | perfRead (m : Fin 64)
  /-- POWER_ON_RELEASE, R60: VSUP_SNS above 4.40 V for 2 ms starts the power-up sequence. -/
  | powerOnRelease
  /-- RAIL_SOFT_START_COMPLETE, R61: A rail completes its soft-start and the next rail of the sequence starts. -/
  | railSoftStartComplete
  /-- POWER_FAIL_WARNING, R57: VSUP_SNS below 4.30 V for 2 us starts the power-fail sequence. -/
  | powerFailWarning
  /-- POWER_FAIL_COMMIT_DONE, R57: The power-fail journal commit completes and the device issues its brownout reset
  if VSUP recovered. -/
  | powerFailCommitDone (recovered : Bool)
  /-- BROWNOUT_RESET, R606: VSUP_SNS below 3.80 V resets the whole device. -/
  | brownoutReset
  /-- OVERVOLTAGE, R55: VSUP_SNS above 5.75 V for 10 us is a supply fault. -/
  | overvoltage
  /-- SENSE_MISMATCH, R55: VSUP and VSUP_SNS differing by 0.25 V for 100 us is a supply fault. -/
  | senseMismatch
  /-- RAIL_OUT_OF_BAND, R63: A regulated rail outside +-5 % for 5 us is a supply fault. -/
  | railOutOfBand (rail : Fin 5)
  /-- STATE_TRANSITION_COMPLETE, R67: A device-state transition completes, its response is sent and any queued
  transition starts. -/
  | stateTransitionComplete
  /-- PARK_QUIET_SETTLE, R644: The 100 ms speed or rest condition completes PARK to QUIET where hand-over cannot
  proceed. -/
  | parkQuietSettle
  /-- DOMAIN_SETTLED, R75: A switched domain settles and takes effect for the next shot. -/
  | domainSettled (d : Fin 96)
  /-- CLOVE_WARM_SET, R77: Enclosure temperature within 0.1 C for 5 s sets the warm flag. -/
  | cloveWarmSet
  /-- CLOVE_WARM_CLEAR, R77: Enclosure temperature outside 0.5 C for 1 s clears the warm flag. -/
  | cloveWarmClear
  /-- TIMING_PLL_LOCK, R81: The timing PLL locks and the tick counter starts from zero. -/
  | timingPllLock
  /-- TIMING_PLL_LOSS, R82: Phase error beyond 100 ps for 50 ns declares loss of the sample clock. -/
  | timingPllLoss
  /-- TREE_DESKEW_STEP, R83: A region tree's delay line steps by 1 ps at most once per 10 us. -/
  | treeDeskewStep (r : Fin 8) (later : Bool)
  /-- REGION_TREE_LOST, R84: A region tree's monitor declares the tree lost. -/
  | regionTreeLost (r : Fin 8)
  /-- REFERENCE_CHECK_WINDOW, R86: At the end of each 100 us window the cross-check counts are compared. -/
  | referenceCheckWindow (island reference : Nat × Nat)
  /-- GPTP_MESSAGE, R100: An 802.1AS message is received and processed, delivering stamp pairs. -/
  | gptpMessage (p : Port) (g : Gptp)
  /-- PPS_IN_EDGE, R91: A PPS_IN rising edge delivers a stamp pair. -/
  | ppsInEdge
  /-- FIT_TIMEOUT, R95: No valid stamp for TB_FIT_TIMEOUT_MS enters HOLDOVER. -/
  | fitTimeout
  /-- PPS_OUT_EDGE, R103: PPS_OUT rises at a whole second of mapped time. -/
  | ppsOutEdge
  /-- PPS_OUT_WIDTH_END, R104: PPS_OUT falls after its width. -/
  | ppsOutWidthEnd
  /-- SAMPLE_TICK, R128: Each tick every cell corrects a sample and runs tracking, filtering and detection. -/
  | sampleTick (xs : List SampleIn)
  /-- DETECTION_FORCED_CLOSE, R169: A detection is closed 64 tk after its crossing with low confidence. -/
  | detectionForcedClose (c : Fin 512)
  /-- BASELINE_OVERRIDE, R159: After 1,024 excluded ticks the baseline updates regardless. -/
  | baselineOverride (c : Fin 512)
  /-- TRACKER_HOLD_END, R161: 2,048 ticks after the first used sample the configured shifts apply and windows may
  open. -/
  | trackerHoldEnd (c : Fin 512)
  /-- FRONT_END_SETTLED, R115: 150 us after domain switch-on the front end has settled. -/
  | frontEndSettled (b : Fin 32)
  /-- LISTEN_WINDOW_CLOSE, R121: A listen window closes after its length and the gain decision is taken. -/
  | listenWindowClose (c : Fin 512) (fire : Nat)
  /-- SUB_PULSE_SEARCH_END, R173: The search for later sub-pulses ends the code span after the close. -/
  | subPulseSearchEnd (c : Fin 512) (fire : Nat)
  /-- PERMITTED_INSTANT, R117: At a permitted instant pending per-channel changes are applied. -/
  | permittedInstant (c : Fin 512)
  /-- GAIN_CHANGE_COMPLETE, R119: The range change completes within 8 tk. -/
  | gainChangeComplete (c : Fin 512)
  /-- INPUT_BIAS_CHANGE, R138: A pending FE_INPUT_BIAS_MV change is applied in a long enough gap. -/
  | inputBiasChange (c : Fin 512)
  /-- OVERLOAD_RECOVERY_END, R125: The recovery interval after an overload ends. -/
  | overloadRecoveryEnd (c : Fin 512)
  /-- INTERLEAVE_ESTIMATOR_STEP, R130: Every 10 ms the estimator moves each correction by at most one step. -/
  | interleaveEstimatorStep (c : Fin 512) (dOffA dOffB dGainA dGainB dSkew : Int) (resO resG resS : Nat)
  /-- INTERLEAVE_MISMATCH, R133: A residual above tolerance for 1 s flags the cell. -/
  | interleaveMismatch (c : Fin 512)
  /-- STUCK_CONVERTER, R134: 4,096 identical codes while the partner varies silence the cell. -/
  | stuckConverter (c : Fin 512)
  /-- BIAS_DC_EVALUATION, R135: Every 1 ms the servo current average is checked for a shorted detector. -/
  | biasDcEvaluation (c : Fin 512) (avg : Int) (limit : Bool)
  /-- CAPACITANCE_MEASUREMENT_START, R136: A capacitance measurement starts in a gap of the channel. -/
  | capacitanceMeasurementStart (c : Fin 512)
  /-- CAPACITANCE_MEASUREMENT_END, R136: The measurement completes and an open detector is judged. -/
  | capacitanceMeasurementEnd (c : Fin 512) (tenthPf : Nat)
  /-- BIAS_TEST_INTERVAL, R137: A periodic measurement interval ends, recording untested if no gap came. -/
  | biasTestInterval (c : Fin 512)
  /-- CQ_CAPTURE_START, R150: Converter-queue capture begins at the named tick. -/
  | cqCaptureStart
  /-- CQ_ENTRY_CLOSE, R146: A converter-queue entry closes full or early and is passed on. -/
  | cqEntryClose (taken : Bool)
  /-- CQ_CAPTURE_END, R150: Capture ends when each channel has its sample count. -/
  | cqCaptureEnd
  /-- TIMING_COMPARATOR_CROSSING, R175: The timing filter crosses the comparator level and the converter charges
  until the next tick edge. -/
  | timingComparatorCrossing (c : Fin 512) (q : BitVec 8)
  /-- TAC_REFINEMENT, R177: Every 65,536 stamps the converter offset and slope are refined. -/
  | tacRefinement (c : Fin 512)
  /-- CODE_CORRELATION, R170: Once later sub-pulses can be found, detections are correlated against open shots'
  codes. -/
  | codeCorrelation (c : Fin 512)
  /-- COINCIDENCE_TEST, R187: After the coincidence window the block applies its patterns to a return. -/
  | coincidenceTest (b : Fin 32)
  /-- BLOCK_MERGER_GRANT, R19: The block merger grants one waiting return in round-robin. -/
  | blockMergerGrant (b : Fin 32)
  /-- REGION_FIFO_GRANT, R26: The region grants its blocks into the point FIFO by weighted round-robin. -/
  | regionFifoGrant (r : Fin 8)
  /-- FADE_COMPLETE, R165: At the 64th counted shot the old coefficient bank is released. -/
  | fadeComplete (c : Fin 512)
  /-- NO_RETURN_RECORD, R193: A channel-shot ending with no confirmed point produces a no-return record. -/
  | noReturnRecord (c : Fin 512) (fire : Nat)
  /-- FRAME_LATCH_TICK, R210: At F - 4,096 tk the bank, rate scale and RUN decision of the next frame are latched.
  -/
  | frameLatchTick
  /-- FRAME_BOUNDARY, R208: A frame ends, banks may swap, the frame sequence increments. -/
  | frameBoundary
  /-- FIRST_FRAME_START, R215: The sequencer starts its first frame at the scheduled tick. -/
  | firstFrameStart
  /-- SCHEDULE_READ_AHEAD, R118: The sequencer reads an entry ahead and announces its window to the cells. -/
  | scheduleReadAhead
  /-- BLANKING_START, R223: The last sub-pulse falls and blanking begins with threshold loading and heat check. -/
  | blankingStart
  /-- PATTERN_TRANSFER, R222: A bypass pattern word is shifted out to end before the fire tick. -/
  | patternTransfer
  /-- SHOT_FIRE, R218: At the fire tick the entry fires or runs dark and is announced. -/
  | shotFire
  /-- DIAGNOSIS_STROBE, R227: The diagnosis comparators are strobed and the sub-pulse judged. -/
  | diagnosisStrobe (sns emv : Rat)
  /-- HEAT_DECAY, R238: Every 1,600 tk each emitter's heat estimate decays. -/
  | heatDecay
  /-- EMISSION_INHIBIT_ARRIVAL, R243: The island's inhibit reaches the sequencer and entries run dark. -/
  | emissionInhibitArrival
  /-- SHOT_ANGLES_REPORT, R353: The engine returns a shot's spin and mirror angles. -/
  | shotAnglesReport (fire : Nat)
  /-- SHOT_RECORD_ENQUEUE, R441: The collector enqueues a shot record. -/
  | shotRecordEnqueue
  /-- FRAME_RECORD_ENQUEUE, R212: A frame record is enqueued after all its shots' records are placed. -/
  | frameRecordEnqueue
  /-- SEGMENT_CAPTURE_END, R258: A segment completes its L samples or ends at a gain change. -/
  | segmentCaptureEnd (c : Fin 512)
  /-- SEGMENT_DRAINED, R256: A segment has drained from its buffer to the block and region. -/
  | segmentDrained (c : Fin 512)
  /-- HISTOGRAM_GROUP_CLOSE, R263: An accumulation group completes or closes early. -/
  | histogramGroupClose (c : Fin 512)
  /-- HISTOGRAM_BANK_SWAP, R266: Banks swap once the group is complete and the readout bank is empty. -/
  | histogramBankSwap (b : Fin 32)
  /-- HISTOGRAM_READOUT_COMPLETE, R266: A bank's readout completes and histogram records are staged. -/
  | histogramReadoutComplete (b : Fin 32)
  /-- MEMORY_TRAINING_COMPLETE, R270: Channel training completes or the channel is marked failed. -/
  | memoryTrainingComplete (ch : Fin 8) (ok : Bool) (temp : Int)
  /-- STROBE_DRIFT_TRACK, R271: Every 50 ms the controller tracks strobe drift. -/
  | strobeDriftTrack (ch : Fin 8)
  /-- MEMORY_RETRAIN, R271: A channel retrains after a 15 C temperature move. -/
  | memoryRetrain (ch : Fin 8) (temp : Int) (ok : Bool)
  /-- REFRESH_RATE_READ, R272: Every 4 ms the controller reads the devices' refresh rate. -/
  | refreshRateRead (ch : Fin 8) (mult : Fin 4) (hot : Bool)
  /-- MEMORY_READ_ERROR, R275: A read error is corrected and counted or drops the record. -/
  | memoryReadError (ch : Fin 8) (symbols : Nat) (area : Fin 8) (index : Nat)
  /-- WRITE_CRC_ERROR, R274: A write-CRC error is retried once, a second failure is a home-channel fault. -/
  | writeCrcError (e : CrcError)
  /-- LB_POST_EXPIRY, R280: After CAP_LB_POST_MS the recorder becomes frozen. -/
  | lbPostExpiry
  /-- LB_DUMP_SEGMENT, R282: The dump sends its next protected segment at the named rate. -/
  | lbDumpSegment
  /-- LADDER_SAMPLE, R284: Every 10 us the ladder samples pressure. -/
  | ladderSample (writeFill : Nat)
  /-- SUNLIT_EVALUATION, R302: Every 1 ms each cell's sunlit state is evaluated. -/
  | sunlitEvaluation (c : Fin 512)
  /-- PROVISIONAL_ENTRY, R297: A provisional return enters its region's confirmation engine. -/
  | provisionalEntry (r : Fin 8)
  /-- PROVISIONAL_RECORD_ENQUEUE, R298: A provisional record is enqueued with its identifier and verdict
  reservation. -/
  | provisionalRecordEnqueue (r : Fin 8)
  /-- CHANNEL_SHOT_FINAL, R318: A channel-shot becomes final and group checks of earlier returns are evaluated. -/
  | channelShotFinal (c : Fin 512) (fire : Nat)
  /-- WEATHER_CLASSIFY, R305: Once the channel-shot and its neighbours are final, echoes are classified. -/
  | weatherClassify (c : Fin 512) (fire : Nat)
  /-- FOREIGN_CHECK, R319: At entry plus the hold the foreign check runs. -/
  | foreignCheck (r : Fin 8)
  /-- DECISION_TIMEOUT, R320: No decision 56 us after entry retracts with cause timeout. -/
  | decisionTimeout (r : Fin 8)
  /-- VERDICT_ENQUEUE, R321: A verdict is enqueued in identifier order. -/
  | verdictEnqueue
  /-- COLLECTOR_DRAIN, R196: The collector places records in order once a shot's verdicts are in. -/
  | collectorDrain
  /-- FOREIGN_STAMP, R313: A stamp reaches the estimator and is assigned to a train or kept. -/
  | foreignStamp
  /-- TRAIN_GATE_EXPIRY, R314: Stamps ageing beyond the gate make a train coast or drop. -/
  | trainGateExpiry (j : Fin 32)
  /-- TRAIN_REPORT, R317: A periodic foreign-train telemetry record is enqueued. -/
  | trainReport (j : Fin 32)
  /-- MIRROR_LOOP_INSTANT, R343: Every 10 us the mirror loop computes its output. -/
  | mirrorLoopInstant
  /-- SPIN_LOOP_INSTANT, R345: Every 40 us the spin loop computes its set-point and sends a motor-link frame. -/
  | spinLoopInstant
  /-- HANDOVER_RETRY_EXPIRY, R350: 100 ms after an abort a new hand-over attempt is permitted. -/
  | handoverRetryExpiry
  /-- MOTOR_LINK_RESPONSE, R336: A response word completes and is validated. -/
  | motorLinkResponse (w : BitVec 80)
  /-- ENCODER_EDGE, R332: An encoder edge is counted and stamped. -/
  | encoderEdge (e : EncEdge)
  /-- ENCODER_INDEX, R332: An ENC_Z rising edge sets or checks the count. -/
  | encoderIndex
  /-- INJECTION_END, R355: The injected test signal ends at its duration. -/
  | injectionEnd
  /-- SAFE_STOP_COMMAND, R360: The island's safe-stop command reaches the engine. -/
  | safeStopCommand
  /-- BRAKE_RELEASED_REPORT, R359: The island's brake-released report starts the engine. -/
  | brakeReleasedReport
  /-- ISLAND_SELF_TEST_COMPLETE, R370: The island self-test passes or is an island fault. -/
  | islandSelfTestComplete (ok : Bool)
  /-- ISLAND_CHANNEL_COMPARE, R367: Every 10 us the island channels compare their states. -/
  | islandChannelCompare (agree : Bool)
  /-- SAFETY_INPUT_SAMPLE, R377: Every 10 us each channel samples and filters its safety inputs. -/
  | safetyInputSample (a b : BitVec 8)
  /-- DISCREPANCY_FAULT, R379: The discrepancy timer expires and a fault is latched. -/
  | discrepancyFault (p : Fin 8)
  /-- INHIBIT_WITHDRAW, R383: 5 us after the enables rise the inhibit is withdrawn. -/
  | inhibitWithdraw
  /-- TEST_PULSE, R374: A high output is pulsed low and read back. -/
  | testPulse (o : Fin 6) (readHigh : Bool)
  /-- OUTPUT_READBACK_FAULT, R375: A ball at the wrong level for 10 us latches an output fault. -/
  | outputReadbackFault (o : Fin 6)
  /-- ISLAND_ENCODER_EDGE, R384: The island counts an encoder edge. -/
  | islandEncoderEdge (e : EncEdges)
  /-- ISLAND_SPEED_EVALUATION, R384: Every 100 us the island computes speed and runs its speed functions. -/
  | islandSpeedEvaluation
  /-- SAFE_STOP_TIME_LIMIT, R399: No standstill by SAF_SS_TMAX_MS switches to torque off. -/
  | safeStopTimeLimit
  /-- SUB_PULSE_ENERGY, R388: The integration gate closes and the sub-pulse energy is added to its sector. -/
  | subPulseEnergy (k : Fin 8) (ia ib : Nat)
  /-- STRAY_PULSE, R388: EMI_SNS current with no EMFn high opens the gate and is flagged. -/
  | strayPulse (ia ib : Nat)
  /-- ENERGY_BUCKET_BOUNDARY, R389: At a bucket boundary the oldest buckets are discarded. -/
  | energyBucketBoundary
  /-- SUB_PULSE_COUNT_COMPARE, R372: Per frame the island compares its pulse count with the sequencer's. -/
  | subPulseCountCompare
  /-- STATE_REQUEST, R65: A state request from the state logic reaches the island. -/
  | stateRequest
  /-- REST_REPORT_ARRIVAL, R392: The engine's rest report reaches the island. -/
  | restReportArrival
  /-- BRAKE_RELEASE_DELAY, R393: 10 ms after TQOFF rises the brake outputs rise. -/
  | brakeReleaseDelay
  /-- BRAKE_FEEDBACK_CHANGE, R394: A brake feedback input changes; both high reports the brake released. -/
  | brakeFeedbackChange (chB high : Bool)
  /-- BRAKE_FEEDBACK_FAULT, R394: Feedback not following its output for SAF_BRK_FB_MS latches a fault. -/
  | brakeFeedbackFault (chB : Bool)
  /-- BRAKE_TEST_PHASE_END, R396: A ramp or hold phase of the brake test ends and the result is judged at the end.
  -/
  | brakeTestPhaseEnd
  /-- BRAKE_TEST_DUE, R395: Operating hours reach the test interval or the grace limit. -/
  | brakeTestDue
  /-- STOP_REPORT_ARRIVAL, R402: The island's stop report makes the device enter PARK. -/
  | stopReportArrival
  /-- STATUS_MESSAGE_PERIODIC, R403: The island builds a periodic status message. -/
  | statusMessagePeriodic
  /-- STATUS_MESSAGE_ON_CHANGE, R403: The island builds a status message after a status change. -/
  | statusMessageOnChange
  /-- STATUS_NOT_TAKEN, R405: Three periods without the fabric taking status messages. -/
  | statusNotTaken
  /-- MESSAGE_TIMEOUT, R407: No matched pair for SAF_MSG_TIMEOUT_MS is a message fault. -/
  | messageTimeout
  /-- UNMATCHED_COPY_EXPIRY, R407: A copy left unmatched after the skew time is counted. -/
  | unmatchedCopyExpiry
  /-- ENUMERATION_TIMEOUT, R493: 20 ms with idle ENUM_IN and no reference makes the device conductor. -/
  | enumerationTimeout
  /-- ENUM_OUT_BURST, R494: Every 100 us a device sends its address burst on ENUM_OUT. -/
  | enumOutBurst
  /-- ENUM_IN_BURST, R495: A burst on ENUM_IN is counted and the address taken after two equal bursts. -/
  | enumInBurst (n : Nat)
  /-- TRIGGER_WORD_SEND, R503: The conductor sends a queued trigger word. -/
  | triggerWordSend
  /-- TRIGGER_WORD_RECEIVE, R504: A follower receives, repeats and applies a trigger word. -/
  | triggerWordReceive (payload : BitVec 96) (crc : BitVec 8) (phase : Rat)
  /-- ALIGNMENT_STEP, R501: The root delay line steps 1 ps toward alignment. -/
  | alignmentStep
  /-- FRAME_START_MISSING, R507: No valid frame-start word in time stops windows and reports an event. -/
  | frameStartMissing
  /-- SYNC_MEASURE_HOP, R508: A hop's measure words complete and its delay is computed. -/
  | syncMeasureHop (a : Fin 7) (roundTrip r : Rat)
  /-- LANE_MARKER, R511: Lane markers are received and the lanes deskewed. -/
  | laneMarker (down : Bool) (lane : Fin 4) (laneNo addr skew errs : Nat) (inverted : Bool)
  /-- LINK_LOSS, R512: Lost clock recovery or markers put an UP link into TRAINING. -/
  | linkLoss (down : Bool)
  /-- LINK_DOWN_TIMEOUT, R512: 250 us without UP declares the link DOWN. -/
  | linkDownTimeout (down : Bool)
  /-- STATE_REPORT_SEND, R515: Every 100 us a device sends its state report. -/
  | stateReportSend
  /-- STATE_REPORT_RECEIVE, R515: A state report from another device is received and passed on. -/
  | stateReportReceive (down : Bool) (rep : ChainReport)
  /-- MEMBER_TIMEOUT, R525: No report for CH_MEMBER_TIMEOUT_US declares a follower lost. -/
  | memberTimeout (f : Fin 8)
  /-- FORWARDED_DATAGRAM, R517: The conductor receives a follower's datagram and sends it on its ports. -/
  | forwardedDatagram (d : FwdDgram)
  /-- FORWARDED_VEHICLE_MSG, R520: A forwarded vehicle message copy reaches the island. -/
  | forwardedVehicleMsg (down : Bool) (p : Port) (w0 w1 w2 w3 : Word)
  /-- ETH_FRAME_RECEIVE, R418: A received frame is classified and passed on or discarded. -/
  | ethFrameReceive (p : Port) (f : RxFrame)
  /-- ADDRESS_RESOLUTION, R420: Every 60 s the firmware re-resolves destinations. -/
  | addressResolution (found : List (Nat × Nat × Nat))
  /-- DATAGRAM_FLUSH, R429: The flush time expires and the open datagram closes. -/
  | datagramFlush (q : Fin 32768)
  /-- PORT_TRANSMIT_COMPLETE, R435: A frame ends on the wire and the port chooses its next datagram. -/
  | portTransmitComplete (p : Port)
  /-- PORT_LINK_UP, R431: A port link comes up and failover queues return. -/
  | portLinkUp (p : Port)
  /-- PORT_LINK_DOWN, R431: A port link goes down and failover queues move. -/
  | portLinkDown (p : Port)
  /-- HK_CYCLE_START, R531: A housekeeping scan cycle starts in continuous mode. -/
  | hkCycleStart
  /-- HK_SYNC_EDGE, R531: An HK_SYNC rising edge starts a cycle or counts an overrun. -/
  | hkSyncEdge
  /-- HK_SLOT_SETTLED, R530: A slot's settling delay ends and its conversion starts. -/
  | hkSlotSettled
  /-- OPEN_INPUT_TRIP, R539: The input above full scale for 20 us trips the open-input comparator. -/
  | openInputTrip
  /-- HK_CONVERSION_END, R534: A conversion ends, its result is computed and the next slot begins. -/
  | hkConversionEnd (v : Rat) (sync : Bool)
  /-- CA_SAMPLE, R544: The fast channel delivers a mirror sensor sample. -/
  | caSample (code : Int)
  /-- CA_RESET, R545: The charge amplifier is reset periodically. -/
  | caReset
  /-- CA_OVERRANGE_RESET, R545: The amplifier output passing 90 % starts a reset. -/
  | caOverrangeReset
  /-- TEMPERATURE_READING, R548: All twelve sensors are read and thermal state updated. -/
  | temperatureReading (ts : List Int)
  /-- THERMAL_OFF_TIMEOUT, R553: 30 s in PARK still over 130 C sends the device to OFF. -/
  | thermalOffTimeout
  /-- THERMAL_REPORT, R554: A periodic thermal record is enqueued. -/
  | thermalReport
  /-- CAL_PART_START, R560: The next named region or housekeeping part of a run starts. -/
  | calPartStart
  /-- CAL_PASS_COMPLETE, R565: A calibration pass completes; after pass B agreement is tested. -/
  | calPassComplete (ms : List CalMeas) (mv : Rat)
  /-- CAL_VALUES_IN_USE, R561: Computed values are put in use and the region resumes. -/
  | calValuesInUse
  /-- CAL_NO_REFERENCE, R563: No CALREF edge for 1 ms gives result 2 and ends the run. -/
  | calNoReference
  /-- CAL_HK_PART_COMPLETE, R559: The housekeeping part of a run completes. -/
  | calHkPartComplete (vs : List (Nat × Int))
  /-- CAL_STALE_HOURS, R566: A channel's hours since calibration pass CAL_STALE_H. -/
  | calStaleHours (c : Fin 512)
  /-- JOURNAL_PAGE_PROGRAMMED, R577: A flash page program and read-back complete. -/
  | journalPageProgrammed (ok : Bool)
  /-- SNAPSHOT_PAGE, R584: A snapshot page is written when no other transaction waits. -/
  | snapshotPage (ok : Bool)
  /-- BLOCK_ERASE_COMPLETE, R585: A journal block erase completes or fails and the block is retired. -/
  | blockEraseComplete (ok : Bool)
  /-- WEAR_TRANSACTION, R591: Every JNL_WEAR_S the wear counters are journaled. -/
  | wearTransaction
  /-- PATROL_SCRUB, R594: LPDDR6 patrol reads scrub units. -/
  | patrolScrub (ch : Fin 8) (corrected : Bool) (endOfPass : Bool)
  /-- SRAM_SCRUB, R594: Chip-level SRAM words are scrubbed. -/
  | sramScrub (corrected : Bool) (bad : Bool)
  /-- REGION_MEMORY_SCRUB, R594: Region controller memories are scrubbed. -/
  | regionMemoryScrub (r : Fin 8) (corrected : Bool) (bad : Bool)
  /-- FUSE_SHADOW_COMPARE, R595: Every 10 s fuse shadows are compared with their generation. -/
  | fuseShadowCompare (f : Fin 20) (inst : Fin 64) (seen : Nat) (genOk : Bool)
  /-- SRAM_SINGLE_BIT, R22: A histogram SRAM single-bit error is corrected and counted. -/
  | sramSingleBit (b : Fin 32)
  /-- BLOCK_ERROR, R23: A double-bit or parity error starts a block restart. -/
  | blockError (b : Fin 32) (parity : Bool)
  /-- BLOCK_RESTART_COMPLETE, R23: A block finishes its restart and takes part in shots again. -/
  | blockRestartComplete (b : Fin 32)
  /-- REGION_ERROR, R29: A region condition starts a region restart. -/
  | regionError (r : Fin 8) (tree : Bool)
  /-- REGION_WATCHDOG, R29: 100 us without service of the region controller starts a restart. -/
  | regionWatchdog (r : Fin 8)
  /-- REGION_RESTART_COMPLETE, R31: A region resumes, possibly without segment capture. -/
  | regionRestartComplete (r : Fin 8) (trained : Bool)
  /-- REGION_RESTART_TIMEOUT, R32: A restart not complete within 250 us fails and restarts. -/
  | regionRestartTimeout (r : Fin 8)
  /-- FABRIC_FATAL_ERROR, R35: An uncorrectable fabric or collector error is a chip-level fault. -/
  | fabricFatalError
  /-- PIN_RESET, R608: RESET_N low for 1 us triggers a pin reset. -/
  | pinReset
  /-- DEV_RESET_START, R486: 1 ms after the DEV_RESET response is ready the Skeic device reset begins. -/
  | devResetStart
  /-- WARM_RESET_ASSERT, R607: 10 us after the trigger the warm reset is asserted. -/
  | warmResetAssert
  /-- RESET_RELEASE, R607: The warm reset is released and boot starts at stage 0. -/
  | resetRelease (supplyFault : Bool)
  /-- BOOT_SLOT_CHECK, R479: A firmware slot check completes and the slot is loaded or the next checked. -/
  | bootSlotCheck
  /-- FIRMWARE_START, R479: The firmware starts on core 0 and the journal is replayed. -/
  | firmwareStart
  /-- BOOT_READY, R480: Boot reaches stage 4 and messages are placed. -/
  | bootReady
  /-- WATCHDOG_EXPIRY, R610: An application core's watchdog expires and the cores restart. -/
  | watchdogExpiry (core : Fin 4) (copyOk : Bool)
  /-- FIRMWARE_RESTART, R610: The restarted firmware serves messages again. -/
  | firmwareRestart
  /-- RAIL_RAMP_DOWN_COMPLETE, R62: A memory rail falls below 10 % of its set-point and the next rail of the ordered
  power-down starts to fall. -/
  | railRampDownComplete
  /-- GPTP_TRANSMIT_INTERVAL, R100: The 802.1AS interval timers expire, so the device sends Pdelay_Req or, as
  grandmaster, Sync and Announce, and lets announce receipt time out. -/
  | gptpTransmitInterval (p : Port) (t : GptpTimer)
  /-- ROUTER_LIFETIME_EXPIRY, R420: The router lifetime of the learned IPv6 default router runs out, and off-prefix
  IPv6 destinations become unresolved. -/
  | routerLifetimeExpiry (p : Port) (router : BitVec 128)
  /-- CHAIN_REF_IN_CLOCK, R498: A clock appears at CHAIN_REF_IN, which starts follower PLL lock after 1 ms and is an
  enumeration fault for a device holding address 0 before stage 4. -/
  | chainRefInClock
  /-- MAPPER_COPY_RECEIVE, R500: A follower receives the conductor's mapper rate and offset over the chain link, to
  take effect at the named tick. -/
  | mapperCopyReceive (tick : Nat) (f0 a b slew : Rat) (ppb : Nat) (status fit : List Word)
  /-- BANK_IMAGE_CHECK_COMPLETE, R249: The image-check computation of SHOT_BANK_ARM completes, and the inactive bank
  is armed or reported as a mismatch. -/
  | bankImageCheckComplete
  /-- FUSE_PROGRAM_COMPLETE, R571: Programming of a fuse generation and its read-back complete, leaving it valid or
  used up and reporting a failure in event 0E02h. -/
  | fuseProgramComplete (value : Nat) (check : BitVec 8) (marker : Bool)
  deriving DecidableEq, Repr

end Sys2Proof
end

