-- ==== Sys2Proof/Decode.lean ====
section
/-! DEFINITION. The rows of spec/opcode_table.json give no bits (their fields are empty): no word spells a command. The
commands of the Skeic interface have an encoding of their own, a message in a mailbox (R459): Machine/SkeicCore.lean reads
it. -/
namespace Sys2Proof

/-- The command that a word of the opcode table spells: none, since no row has bits. -/
def decodeTableWord (_nbits _w : Nat) : Option Instr := none

end Sys2Proof
end

