-- ==== Sys2Proof/Machine/Crypto.lean ====
section
/-! DEFINITION. The check codes and keyed codes that the spec names: CRC-8 (R335), CRC-32 (R204), CRC-32C (R404),
SHA-256 and HMAC (FIPS 180-4, RFC 2104; R465), SHA-384 and ECDSA P-384 (FIPS 180-4, FIPS 186-5; R478). -/
namespace Sys2Proof.Machine

/-- Byte i of a number, little-endian. -/
def byteOf (n i : Nat) : Byte := BitVec.ofNat 8 (n >>> (8 * i))

/-- n bytes of a number, lowest first (R4). -/
def bytesLE (v n : Nat) : List Byte := (List.range n).map (byteOf v)

/-- n bytes of a number, highest first. -/
def bytesBE (v n : Nat) : List Byte := (bytesLE v n).reverse

/-- The number that bytes spell, lowest first. -/
def leNat : List Byte → Nat
  | [] => 0
  | b :: r => b.toNat + 256 * leNat r

/-- The number that bytes spell, highest first. -/
def beNat (l : List Byte) : Nat := l.foldl (fun a b => a * 256 + b.toNat) 0

/-- The bytes of words, each word lowest byte first (R4). -/
def wordsBytes (ws : List Word) : List Byte := ws.flatMap (fun w => bytesLE w.toNat 4)

/-- Whole words of a byte string, lowest byte first; a rest of fewer than four bytes is left out. -/
def bytesWords : List Byte → List Word
  | a :: b :: c :: d :: r => w32 (leNat [a, b, c, d]) :: bytesWords r
  | _ => []

/-- The ASCII bytes of a text. -/
def ascii (s : String) : List Byte := s.toList.map (fun c => BitVec.ofNat 8 c.toNat)

/-! ### Cyclic redundancy checks -/

/-- One bit of a most-significant-bit-first CRC of n bits. -/
def crcBit (n poly crc : Nat) (bit : Bool) : Nat :=
  let top := (crc >>> (n - 1)) % 2 == 1
  let c := (crc * 2) % 2 ^ n
  if top != bit then c ^^^ poly else c

/-- The CRC of a bit string, most significant bit first. -/
def crcMsb (n poly init : Nat) (bits : List Bool) : Nat := bits.foldl (crcBit n poly) init

/-- The eight bits of a byte, most significant first. -/
def bitsMsb (b : Byte) : List Bool := (List.range 8).map (fun i => b.getLsbD (7 - i))

/-- One bit of a reflected 32-bit CRC. -/
def crcRefBit (poly crc : Nat) : Nat := if crc % 2 == 1 then (crc >>> 1) ^^^ poly else crc >>> 1

/-- One byte of a reflected 32-bit CRC. -/
def crcRefByte (poly crc : Nat) (b : Byte) : Nat :=
  (List.range 8).foldl (fun c _ => crcRefBit poly c) (crc ^^^ b.toNat)

/-- A reflected 32-bit CRC with initial value and final complement FFFF_FFFFh. -/
def crcRef (poly : Nat) (bs : List Byte) : Nat := (bs.foldl (crcRefByte poly) 0xFFFFFFFF) ^^^ 0xFFFFFFFF

/-- CRC-32 of IEEE 802.3 (R204). -/
def crc32 (bs : List Byte) : Nat := crcRef 0xEDB88320 bs

/-- CRC-32C (R404). -/
def crc32c (bs : List Byte) : Nat := crcRef 0x82F63B78 bs

/-- CRC-8 with polynomial 07h over bytes (R335). -/
def crc8 (bs : List Byte) : BitVec 8 := BitVec.ofNat 8 (crcMsb 8 0x07 0 (bs.flatMap bitsMsb))

/-! ### SHA-2 -/

/-- A number of n bits rotated right by r. -/
def rotr (n x r : Nat) : Nat := (x >>> r) ||| ((x <<< (n - r)) % 2 ^ n)

/-- The 80 primes up to 409, from whose roots FIPS 180-4 takes every constant of SHA-2. -/
def shaPrimes : List Nat := (List.range 410).filter (fun p => 2 ≤ p && (List.range p).all (fun d => d < 2 || p % d != 0))

/-- The largest x with x^k at most y, by bisection from x over the n bits below. -/
def rootFrom (k y : Nat) : Nat → Nat → Nat
  | 0, x => x
  | n + 1, x => rootFrom k y n (if (x + 2 ^ n) ^ k ≤ y then x + 2 ^ n else x)

/-- The first n bits of the fraction of the k-th root of p (FIPS 180-4, 4.2 and 5.3). -/
def rootFraction (k n p : Nat) : Nat := rootFrom k (p * 2 ^ (k * n)) (n + 5) 0 % 2 ^ n

/-- The constants of the rounds: cube roots of the first primes. -/
def shaRounds (bits rounds : Nat) : List Nat := (shaPrimes.take rounds).map (rootFraction 3 bits)

/-- An initial hash value: square roots of eight primes. -/
def shaInit (bits first : Nat) : List Nat := ((shaPrimes.drop first).take 8).map (rootFraction 2 bits)

/-- What tells the SHA-2 functions apart: word size in bits, rotation amounts, round constants. -/
structure Sha where
  bits : Nat
  big0 : Nat × Nat × Nat
  big1 : Nat × Nat × Nat
  small0 : Nat × Nat × Nat
  small1 : Nat × Nat × Nat
  k : List Nat

/-- Rotations and a shift combined, for the message schedule. -/
def Sha.small (h : Sha) (c : Nat × Nat × Nat) (x : Nat) : Nat := rotr h.bits x c.1 ^^^ rotr h.bits x c.2.1 ^^^ (x >>> c.2.2)

/-- Three rotations combined, for the rounds. -/
def Sha.big (h : Sha) (c : Nat × Nat × Nat) (x : Nat) : Nat :=
  rotr h.bits x c.1 ^^^ rotr h.bits x c.2.1 ^^^ rotr h.bits x c.2.2

/-- The message schedule: w holds the words so far, newest first. -/
def Sha.schedule (h : Sha) : Nat → List Nat → List Nat
  | 0, w => w
  | n + 1, w =>
    let x := (h.small h.small1 (w.getD 1 0) + w.getD 6 0 + h.small h.small0 (w.getD 14 0) + w.getD 15 0) % 2 ^ h.bits
    h.schedule n (x :: w)

/-- The rounds over the working variables a to h. -/
def Sha.rounds (h : Sha) : List Nat → List Nat → List Nat → List Nat
  | kk :: ks, w :: ws, [a, b, c, d, e, f, g, hh] =>
    let m := 2 ^ h.bits
    let ch := (e &&& f) ^^^ ((m - 1 - e) &&& g)
    let t1 := (hh + h.big h.big1 e + ch + kk + w) % m
    let maj := (a &&& b) ^^^ (a &&& c) ^^^ (b &&& c)
    let t2 := (h.big h.big0 a + maj) % m
    h.rounds ks ws [(t1 + t2) % m, a, b, c, (d + t1) % m, e, f, g]
  | _, _, v => v

/-- The words of a block, each of size bytes, highest byte first. -/
def blockWords (size : Nat) : Nat → List Byte → List Nat
  | 0, _ => []
  | n + 1, bs => beNat (bs.take size) :: blockWords size n (bs.drop size)

/-- One block into the hash value. -/
def Sha.block (h : Sha) (v : List Nat) (bs : List Byte) : List Nat :=
  let w := (h.schedule (h.k.length - 16) (blockWords (h.bits / 8) 16 bs).reverse).reverse
  List.zipWith (fun x y => (x + y) % 2 ^ h.bits) v (h.rounds h.k w v)

/-- n blocks into the hash value. -/
def Sha.blocks (h : Sha) : Nat → List Nat → List Byte → List Nat
  | 0, v, _ => v
  | n + 1, v, bs => h.blocks n (h.block v (bs.take (2 * h.bits))) (bs.drop (2 * h.bits))

/-- The padded message. -/
def Sha.pad (h : Sha) (bs : List Byte) : List Byte :=
  let bl := 2 * h.bits
  let lenBytes := h.bits / 4
  let z := (2 * bl - 1 - lenBytes - bs.length % bl) % bl
  bs ++ (0x80#8 :: List.replicate z 0#8) ++ bytesBE (8 * bs.length) lenBytes

/-- The hash value of a message. -/
def Sha.hash (h : Sha) (init : List Nat) (bs : List Byte) : List Byte :=
  let p := h.pad bs
  ((h.blocks (p.length / (2 * h.bits)) init p).map (fun w => bytesBE w (h.bits / 8))).flatten

/-- The functions of SHA-256. -/
def shaSmall : Sha :=
  { bits := 32, big0 := (2, 13, 22), big1 := (6, 11, 25), small0 := (7, 18, 3), small1 := (17, 19, 10), k := shaRounds 32 64 }

/-- SHA-256. -/
def sha256 (bs : List Byte) : List Byte :=
  shaSmall.hash (shaInit 32 0) bs

/-- HMAC-SHA-256 (RFC 2104). -/
def hmac (key msg : List Byte) : List Byte :=
  let k := if key.length > 64 then sha256 key else key
  let k := k ++ List.replicate (64 - k.length) 0#8
  sha256 (k.map (· ^^^ 0x5c#8) ++ sha256 (k.map (· ^^^ 0x36#8) ++ msg))

/-- The functions of SHA-384. -/
def shaLarge : Sha :=
  { bits := 64, big0 := (28, 34, 39), big1 := (14, 18, 41), small0 := (1, 8, 7), small1 := (19, 61, 6),
    k := shaRounds 64 80 }

/-- SHA-384. -/
def sha384 (bs : List Byte) : List Byte :=
  (shaLarge.hash (shaInit 64 8) bs).take 48

/-! ### ECDSA on P-384 -/

/-- The field prime of P-384. -/
def p384 : Nat := 2 ^ 384 - 2 ^ 128 - 2 ^ 96 + 2 ^ 32 - 1

/-- The order of the base point. -/
def n384 : Nat := 0xffffffffffffffffffffffffffffffffffffffffffffffffc7634d81f4372ddf581a0db248b0a77aecec196accc52973

/-- The coefficient b of the curve. -/
def b384 : Nat := 0xb3312fa7e23ee7e4988e056be3f82d19181d9c6efe8141120314088f5013875ac656398d8a2ed19d2a85c8edd3ec2aef

/-- The base point. -/
def g384 : Nat × Nat :=
  (0xaa87ca22be8b05378eb1c71ef320ad746e1d3b628ba79b9859f741e082542a385502f25dbf55296c3a545e3872760ab7,
   0x3617de4a96262c6f5d9e98bf9292dc29f8f41dbd289a147ce9da3113b5f0b8c00a60b1ce1d7e819d7a431d7c90ea0e5f)

/-- b^e mod m; fuel is the number of bits of e. -/
def powMod (m : Nat) : Nat → Nat → Nat → Nat
  | 0, _, _ => 1 % m
  | f + 1, b, e => if e == 0 then 1 % m else
    let r := powMod m f (b * b % m) (e / 2)
    if e % 2 == 1 then r * b % m else r

/-- The inverse modulo a prime. -/
def invMod (m x : Nat) : Nat := powMod m 400 x (m - 2)

/-- Addition of points of the curve; none is the point at infinity. -/
def ecAdd : Option (Nat × Nat) → Option (Nat × Nat) → Option (Nat × Nat)
  | none, q => q
  | p, none => p
  | some (x1, y1), some (x2, y2) =>
    if x1 == x2 && (y1 + y2) % p384 == 0 then none else
    let l := if x1 == x2 then (3 * x1 * x1 + (p384 - 3)) * invMod p384 (2 * y1 % p384) % p384
      else (y2 + p384 - y1) * invMod p384 ((x2 + p384 - x1) % p384) % p384
    let x := (l * l + 2 * p384 - x1 - x2) % p384
    some (x, (l * (x1 + p384 - x) + (p384 - y1)) % p384)

/-- k times a point; fuel is the number of bits of k. -/
def ecMul : Nat → Nat → Option (Nat × Nat) → Option (Nat × Nat)
  | 0, _, _ => none
  | f + 1, k, p => if k == 0 then none else
    let r := ecMul f (k / 2) (ecAdd p p)
    if k % 2 == 1 then ecAdd p r else r

/-- The ECDSA verification of FIPS 186-5 on P-384 with SHA-384: public key x y, signature r s (R478). -/
def ecdsaOk (x y r s : Nat) (msg : List Byte) : Bool :=
  let onCurve := x < p384 && y < p384 && (y * y) % p384 == (x * x * x + (p384 - 3) * x + b384) % p384
  let inRange := 0 < r && r < n384 && 0 < s && s < n384
  if onCurve && inRange then
    let e := beNat (sha384 msg)
    let w := invMod n384 s
    match ecAdd (ecMul 400 (e * w % n384) (some g384)) (ecMul 400 (r * w % n384) (some (x, y))) with
    | none => false
    | some (vx, _) => vx % n384 == r
  else false

end Sys2Proof.Machine
end

