-- ==== Sys2Proof/Config.lean ====
section
/-! DEFINITION. What the spec leaves open: constants without a body. Nothing in Lean can evaluate one or prove a value of
it, so a theorem about the model holds whatever they are. Each is named by a row of notes/assumptions. -/
namespace Sys2Proof.Config

/-- The n-th value drawn where the spec leaves a value open after an operation that goes on (log 5). -/
opaque freeNat : Nat → Nat

/-- The n-th device nonce of the random source: 16 bytes as one number (SES_OPEN response; log 5). -/
opaque deviceNonce : Nat → BitVec 128

/-- Which of its two neighbours a value between two integers becomes, where a rule states the value without its rounding,
at a named place: true the upper one (log 10). -/
opaque roundUp : (site : Nat) → Rat → Bool

/-- An integer that a rule leaves open, at a named place, on an operand (log 10). -/
opaque openInt : (site : Nat) → Rat → Int

/-- Which way a tie goes where a rule says "rounded to nearest" without a rule for halves, at a named place: true up
(log 10). -/
opaque tieUp : (site : Nat) → Rat → Bool

/-- What the device's own priority vector holds after its priority1, and its clock identity: the spec names neither (R100,
R101; log 64). -/
opaque clockRest : Nat
opaque clockId : Nat

/-- How a Skeic response is marked, for which the spec names neither priority nor DSCP: 802.1Q PCP and DSCP; and the MAC address
at which the source of its command is found (R417, R456; log 86). -/
opaque respMark : Nat × Nat
opaque peerMac : Nat → BitVec 128 → BitVec 48

/-- Bytes of a forwarded datagram's frame that are not records, as a device without ports of its own counts them: the headers
are the conductor's, and the spec does not say what the forwarding device allows for them (R429, R517; log 86). -/
opaque fwdOverhead : Nat

/-- Ticks from a change of the conductor's mapper to the tick at which every device takes it: the spec does not say how far
ahead the conductor sends it (R500; log 85). -/
opaque mapLead : Nat

/-- Ring generation in the tag of a record that is staged outside a segment ring: the spec gives every unit one and does not
say which these have (R274; log 89). -/
opaque stageGen : List (BitVec 32) → BitVec 8

/-- The converter offset and slope, in 1/16 code, that the refinement of R177 computes from a code histogram: its method
is not stated (log 5). -/
opaque refine : List (Nat × Nat) → Nat × Nat

/-- Thermo-electric voltage of type K in V at a temperature in °C, and the temperature at a voltage: the functions of IEC
60584-1, which the spec names and does not give (R537; log 33). -/
opaque typeKVolt : Rat → Rat
opaque typeKTemp : Rat → Rat

/-- Returns at which a region point FIFO is full: the spec gives no depth (log 78). -/
opaque fifoDepth : Nat

/-- Whether a region's write port is stalled in a fabric cycle, by the segments that wait for it and the tick: the spec does
not say when (log 78). -/
opaque portStalls : Nat → Nat → Bool

end Sys2Proof.Config
end

