-- ==== Sys2Proof/Machine/State.lean ====
section
/-! DEFINITION. The state of the CR-9620 as plain data: every register, buffer, counter, mode and output the spec
names, grouped by the chapter that owns it. Each field's docstring gives its width, the rule of spec/ that names it,
and its reset value where that is not the field's default; "log n" names the row of notes/assumptions. -/
namespace Sys2Proof.Machine

/-- Why the machine stops with a fault. -/
inductive Fault where
  /-- A host error of R474 and R475: an unpredictable result, to which the spec gives no effect (R474). Raised by
  every Skeic command and by service-port writes on the conditions the chapters list. Safe: the model stops where the
  hardware may do anything (log 2). -/
  | hostError (why : String)
  deriving DecidableEq, Repr

/-- Why a command has no meaning here. -/
inductive Refusal where
  /-- The arm of exec for this command is not written. Safe. -/
  | notModelled (mnemonic : String)
  deriving DecidableEq, Repr

/-! ### Identity and fuses (chapter 15) -/

/-- One generation of a fuse field. -/
structure FuseGen where
  /-- Value bits as programmed. Up to 384 bits; R569 (15) -/
  value : Nat := 0
  /-- Check bits as programmed. 8 bits; R569 (15) -/
  check : BitVec 8 := 0
  /-- Marker bit. 1 bit; R569 (15) -/
  marker : Bool := false
  deriving DecidableEq, Repr, Inhabited

/-- A fuse generation being programmed. -/
structure FuseWork where
  /-- Field number 0 to 19. R571 (15) -/
  field : Nat
  /-- Instance within the field. R571 (15) -/
  inst : Nat
  /-- Generation being written, 0 to 7. R571 (15) -/
  gen : Nat
  /-- Value being written. R571 (15) -/
  value : Nat
  /-- Mailbox that waits for the result. R571 (15) -/
  mbx : Nat
  deriving DecidableEq, Repr, Inhabited

/-- Keys field·64 + instance of the Thethen fields 1 to 6, one instance each but 32, one per block, of fields 4 and 5 (R572). -/
def thethen : List Nat := [64, 128, 192] ++ (List.range 32).map (256 + ·) ++ (List.range 32).map (320 + ·) ++ [384]

/-- The fuses and their shadows. -/
structure Fuses where
  /-- Every generation of every field and instance, key (field·64 + instance)·8 + generation. R569, R572 (15); a new
  device has ID_PART programmed and the other Thethen fields, 1 to 6, with value 0 (DESIGN CHOICE 0, log 6) -/
  gens : Tab FuseGen := (0, { value := 0x9620, check := 0x45, marker := true }) ::
    thethen.map (fun k => (8 * k, { value := 0, check := 0, marker := true }))
  /-- Generation chosen at the last run of the boot ROM plus 1, 0 none; key field·64 + instance. R570 (15) -/
  chosen : Tab Nat := (0, 1) :: thethen.map (fun k => (k, 1))
  /-- Shadow register of the value in use; key field·64 + instance. R595 (16) -/
  shadow : Tab Nat := [(0, 0x9620)]
  /-- The island's copy of its fused bounds, taken at a cold reset only. R570 (15), R411 (10) -/
  island : Tab Nat := []
  /-- Generation being programmed. R571 (15) -/
  work : Option FuseWork := none
  /-- Count of shadow mismatches. 32 bits; JNL_STATUS_GET W7 (16) -/
  mismatches : Nat := 0
  deriving DecidableEq, Repr, Inhabited

/-! ### The journal and wear (chapter 16) -/

/-- What happens when a transaction commits. -/
inductive Waiter where
  /-- Nothing waits. -/
  | none
  /-- The response of mailbox m with this payload is sent. R580 (16) -/
  | answer (m : Nat) (payload : List Word)
  /-- The wake message of mailbox m goes on to be applied. R466 (12) -/
  | wake (m : Nat)
  /-- A wake message for another member goes on its way over a chain link. R458, R466 (12) -/
  | forward (down : Bool) (ws : List Word)
  /-- A calibrated part's values are held: event 0E01h with these detail words. R561 (15) -/
  | calPart (part result failed : Nat)
  /-- The safety set becomes active and mailbox m gets this payload. R410 (10) -/
  | safSet (m : Nat) (payload : List Word)
  /-- The domains of a PWR_DOMAIN_SET are switched on or off, and mailbox m is answered; old is the configuration before it.
  R74 (02) -/
  | domains (m : Nat) (ds : BitVec 96) (on : Bool) (old : BitVec 96)
  deriving DecidableEq, Repr, Inhabited

/-- The wear counters (R591). -/
structure Wear where
  /-- Sub-pulse count of each emitter, key string·16 + emitter. 48 bits; R240 (06) -/
  pulses : Tab Nat := []
  /-- Sum of the sub-pulse widths of each emitter in 1/16 tk, key string·16 + emitter. R240 (06) -/
  onTime : Tab Nat := []
  /-- Time in RUN and QUIET, in ticks of the sample clock. R591 (16); log 4 -/
  runTicks : Nat := 0
  /-- Time in PARK, in ticks. R591 (16); log 4 -/
  parkTicks : Nat := 0
  /-- runTicks when each channel's calibration status last became passed or loaded, key channel. R566 (15) -/
  calAt : Tab Nat := []
  /-- Count of power-on resets. R591 (16) -/
  powerOns : Nat := 0
  /-- The island's operating time since the last passed brake test, in units of 100 µs. R395 (10), R591 (16) -/
  brakeTime : Nat := 0
  deriving DecidableEq, Repr, Inhabited

/-- One journal block. -/
structure JBlock where
  /-- 0 free, 1 opened, 2 to be erased, 3 retired. R585, R587 (16) -/
  st : Nat := 0
  /-- Erase count from its header. R593 (16) -/
  erases : Nat := 0
  /-- Block sequence from its header. R578 (16) -/
  seq : Nat := 0
  deriving DecidableEq, Repr, Inhabited

/-! ### Class P: the working copies (R13, chapter 16) -/

/-- A queue binding (R421). -/
structure Binding where
  /-- Queue class code. 4 bits; R421 (11) -/
  cls : Nat := 0
  /-- Port code. 3 bits; R421 (11) -/
  port : Nat := 0
  /-- 802.1Q priority. 3 bits; R421 (11) -/
  pcp : Nat := 0
  /-- DSCP. 6 bits; R417 (11) -/
  dscp : Nat := 0
  /-- Destination. 10 bits; R421 (11) -/
  dest : Nat := 0
  /-- Image selection. 2 bits; R444 (11) -/
  sel : Nat := 0
  /-- First channel. 9 bits; R421 (11) -/
  first : Nat := 0
  /-- Channel count. 10 bits; R421 (11) -/
  count : Nat := 0
  /-- Quantum in bytes. 16 bits; R434 (11) -/
  quantum : Nat := 9216
  /-- Flush time in µs. 10 bits; R429 (11) -/
  flush : Nat := 10
  /-- Depth in KiB. 13 bits; R425 (11) -/
  depth : Nat := 64
  deriving DecidableEq, Repr, Inhabited

/-- The journal's boot record (R479). -/
structure BootRec where
  /-- Preferred slot, none before one is written. R479 (12) -/
  pref : Option Nat := none
  /-- A trial is pending. R479 (12) -/
  trial : Bool := false
  /-- Trial slot. R479 (12) -/
  slot : Nat := 0
  deriving DecidableEq, Repr, Inhabited

/-! ### The Skeic command interface (chapter 12) -/

/-- A session (R464, R467). -/
structure Sess where
  /-- 0 free, 1 pending, 2 open. R467 (12) -/
  st : Nat := 0
  /-- Service role. R463 (12) -/
  service : Bool := false
  /-- Session key. 32 bytes; R465 (12) -/
  key : List Byte := []
  /-- s_max. 32 bits; R464 (12) -/
  smax : BitVec 32 := 0
  /-- Seen mask: bit i = sequence s_max − i has been seen. 64 bits; R464 (12) -/
  seen : BitVec 64 := 0
  /-- No message accepted yet. R464 (12) -/
  fresh : Bool := true
  /-- Tick of the last accepted message, of the opening command in a pending session. R467, R468 (12); log 4 -/
  since : Nat := 0
  deriving DecidableEq, Repr, Inhabited

/-- A mailbox (R453, R457, R483). Its words stand in `Skeic.mem`. -/
structure Mbx where
  /-- 0 free, 1 claimed by the service port, 2 held for application, 3 executing, 4 answered and awaiting the
  doorbell. MBX_STATUS (12) -/
  st : Nat := 0
  /-- The message came through the service port. R457 (12) -/
  viaSp : Bool := false
  /-- Port on which it arrived. R456 (12) -/
  port : Port := .a
  /-- Its source address. R456 (12) -/
  src : Addr := {}
  /-- Its source UDP port. 16 bits; R456 (12) -/
  udp : Nat := 0
  /-- VID of its frame. 12 bits; R456 (12) -/
  vid : Nat := 0
  /-- Role of its session. R463 (12) -/
  service : Bool := false
  /-- Key of its trailer and of the response's, empty without one. R465 (12) -/
  key : List Byte := []
  /-- Its response is ready for the port. R456 (12) -/
  ready : Bool := false
  /-- The wake message waits for the commit of SKE_WAKE_SEQ. R466 (12) -/
  wakeWait : Bool := false
  /-- It came from another device of the chain, over the downstream link (true) or the upstream link (false). R516
  (13) -/
  fromChain : Option Bool := none
  deriving DecidableEq, Repr, Inhabited

/-- A command forwarded over the chain link that awaits its response (R458, R516). -/
structure Fwd where
  /-- Chain address of the target. 3 bits; R458 (12) -/
  addr : Nat
  /-- Mailbox number. 6 bits; R458 (12) -/
  mbx : Nat
  /-- Session, sequence and tag words H1 to H3 of the command. R459 (12) -/
  h1 : Word
  h2 : Word
  h3 : Word
  /-- Where the response goes: through the service port, or to this port, address, UDP port and VID. R456, R457 (12) -/
  viaSp : Bool
  port : Port
  src : Addr
  udp : Nat
  vid : Nat
  /-- Key of its session, empty in session 0. R458 (12) -/
  key : List Byte
  /-- It is SES_CLOSE of the sender's own session. R485 (12) -/
  closes : Bool := false
  deriving DecidableEq, Repr, Inhabited

/-- The Skeic interface: sessions, mailboxes, service port. Class V of the application cores (R614), but for what a
docstring names. -/
structure Skeic where
  /-- Sessions 1 to 8. R467 (12) -/
  sess : Tab Sess := []
  /-- Mailboxes 0 to 63. R453 (12) -/
  mbx : Tab Mbx := []
  /-- Mailbox words, key mailbox·1024 + offset. 32 bits each; R453, R483 (12); zero at reset (log 9) -/
  mem : Tab Word := []
  /-- Placed changes not yet applied, in arrival order. R469, R471 (12) -/
  order : List Nat := []
  /-- Commands forwarded to other devices that await their responses. R458 (12) -/
  fwd : List Fwd := []
  /-- Wake messages for other devices, and whether they go downstream, that wait for the journal transaction of their
  SKE_WAKE_SEQ. R466 (12) -/
  fwdWakes : List (Bool × List Word) := []
  /-- Discard counts: framing, unknown session, authentication, replay, session-0 opcode, busy; key 0 to 5. 32 bits
  each; MBX_STATUS (12) -/
  disc : Tab Nat := []
  /-- Lost responses. 32 bits; R456 (12) -/
  lost : Nat := 0
  /-- Mailbox of the service-port window. 6 bits; R483 (12) -/
  spMbx : Nat := 0
  /-- Word offset of the window. 10 bits; R483 (12) -/
  spOff : Nat := 0
  /-- Doorbells. 64 bits; R483 (12) -/
  bell : BitVec 64 := 0
  /-- Bytes that the device returned on SP_SDO in the last read of the service port; none: SP_SDO has stayed high-impedance. R481,
  R482 (12) -/
  sdo : Option (List Byte) := none
  /-- SP_SCRATCH. 32 bits; R481 (12) -/
  scratch : Word := 0
  /-- The standby slot is being erased for the command of this mailbox. R487 (12) -/
  erasing : Option Nat := none
  /-- DEV_RESET has been answered and its reset is scheduled. R486 (12) -/
  resetDue : Bool := false
  /-- The firmware serves messages. R480, R610 (12, 17) -/
  serving : Bool := false
  /-- Mailboxes whose command a watchdog reset caught unapplied; answered 02h at the restart. R612 (17) -/
  notExecuted : List Nat := []
  deriving DecidableEq, Repr, Inhabited

/-- Boot and the firmware slots (R478 to R484). -/
structure Boot where
  /-- Stage: 0 ROM, 1 checking, 2 loading, 3 firmware start, 4 ready, 5 failed, 6 recovery. 3 bits; R482 (12) -/
  stage : Nat := 0
  /-- Slot running or being checked. 1 bit; R482 (12) -/
  slot : Nat := 0
  /-- Image check results of slots 0 and 1. 3 bits each; R478 (12) -/
  res : Tab Nat := []
  /-- Running image is a trial. R479 (12) -/
  trial : Bool := false
  /-- Version of the running image. 32 bits; R482 (12) -/
  version : Word := 0
  /-- Security version of the running image. 6 bits; ID_GET (12) -/
  svn : Nat := 0
  /-- This boot did not start its first choice. FW_STATUS_GET (12) -/
  fellBack : Bool := false
  /-- The check that is running is of the second slot, and the one of the first is of the trial's. R479 (12) -/
  second : Bool := false
  trying : Bool := false
  /-- Next word offset that recovery writes. R484 (12) -/
  recover : Nat := 0
  /-- Reset kind of the reset that this boot follows. R606 (17) -/
  kind : Nat := 1
  /-- Device state at the trigger. R613 (17) -/
  before : Nat := 4
  /-- The device was in the safe state at the trigger. R613 (17) -/
  safeBefore : Bool := false
  /-- Cause detail word of event 0210h. 32 bits; R613 (17) -/
  detail : Nat := 0
  /-- A warm reset of chip scope is in progress: 0 none, 1 triggered, 2 asserted. R607 (17) -/
  phase : Nat := 0
  /-- RESET_N is held low. R608 (17) -/
  resetN : Bool := false
  /-- Event 0210h is still to be enqueued; events wait for it. R613 (17) -/
  hold : Bool := true
  /-- Events that wait, oldest first: level, instance, code, details. R613 (17) -/
  held : List (Nat × Nat × Nat × List Nat × Int) := []
  /-- Ticks of the watchdog resets of the last 10 s. R611 (17); log 4 -/
  dogs : List Nat := []
  /-- Cores whose watchdog expired, bit n = core n, while the firmware restarts. 4 bits; R613 (17) -/
  dogMask : Nat := 0
  deriving DecidableEq, Repr, Inhabited

/-! ### Power (chapter 02) -/

/-- Device state (R64). -/
inductive Dev where
  | run | quiet | park | sleep | off
  deriving DecidableEq, Repr, Inhabited

/-- State code of R64. -/
def Dev.code : Dev → Nat
  | .run => 0
  | .quiet => 1
  | .park => 2
  | .sleep => 3
  | .off => 4

/-- A device-state transition in progress. -/
structure Trans where
  /-- Adjacent state being entered. R64 (02) -/
  next : Dev
  /-- State to reach at the end. R64 (02) -/
  target : Dev
  /-- Mailbox of the PWR_STATE_SET, if one asked. R67 (02) -/
  mbx : Option Nat := none
  deriving DecidableEq, Repr, Inhabited

/-- Supply, rails, device state and domains. -/
structure Power where
  /-- Present device state. R64 (02) -/
  dev : Dev := .off
  /-- Transition in progress. R67 (02) -/
  trans : Option Trans := none
  /-- PWR_STATE_SET commands that wait for the transition: target and mailbox. R67 (02) -/
  queue : List (Dev × Nat) := []
  /-- PWR_STATE_SET mailboxes ended by a superseding transition; answered when it completes. R67 (02) -/
  ended : List Nat := []
  /-- Domains on. 96 bits; R40 (01), R642 (02) -/
  on : BitVec 96 := 0
  /-- Domains switched on or off that have not settled. 96 bits; R75 (02) -/
  settling : BitVec 96 := 0
  /-- Domains switched off in RUN or QUIET in which shots fired before may still end. 96 bits; R75 (02); model's own -/
  leaving : BitVec 96 := 0
  /-- Rails risen so far in the order VAUX, VCORE, VMEM1, VMEM2, VMEMQ. R60, R61 (02) -/
  rails : Nat := 0
  /-- Rails of the ordered power-down fallen so far in the order VMEMQ, VMEM2, VMEM1, plus 1; 0 when none runs. R62
  (02) -/
  falling : Nat := 0
  /-- PWR_GOOD. R63 (02) -/
  good : Bool := false
  /-- The power-up sequence runs. R60, R627 (02, 17) -/
  powerUp : Bool := true
  /-- The always-on logic is powered (power-on release taken). R60 (02) -/
  alive : Bool := true
  /-- The power-fail sequence runs. R57 (02) -/
  failing : Bool := false
  /-- Power-fail warning seen since the last power-up. PWR_STATE_GET (02) -/
  failSeen : Bool := false
  /-- The journal commit of PARK → OFF or PARK → SLEEP is done. R67 (02), R591 (16) -/
  offCommitted : Bool := false
  /-- Rails outside their band, in the order VAUX, VCORE, VMEM1, VMEM2, VMEMQ. 5 bits; R63 (02) -/
  band : BitVec 5 := 0
  /-- Safe state (R623). R623 (17) -/
  safe : Bool := false
  /-- Cause of the safe state: 1 fabric fatal error, 2 reference loss, 3 timing PLL, 4 supply fault. R446 (11) -/
  safeCause : Nat := 0
  /-- A wake frame has been taken and its authentication is due: the UDP payload. R69, R70 (02) -/
  wake : Option Arrival := none
  /-- Clove warm flag. R77 (03) -/
  warm : Bool := false
  deriving DecidableEq, Repr, Inhabited

/-! ### Time base (chapter 03) -/

/-- A least-squares fit (R92). -/
structure Fit where
  /-- a in ticks relative to the tick of the first pair. R92 (03) -/
  a : Rat
  /-- b in ticks per source second. R92 (03) -/
  b : Rat
  /-- Tick, with fraction, to which a is relative. R92 (03) -/
  base : Rat
  /-- Source time of x = 0 in ns. R91 (03) -/
  x0 : Rat
  /-- Mean square residual in ticks². TB_FIT_GET (03) -/
  msq : Rat
  /-- Pairs in the fit. 7 bits; TB_FIT_GET (03) -/
  n : Nat
  deriving DecidableEq, Repr, Inhabited

/-- The mapper t(F) = A + B·(F − F0), with the slewing of R97. -/
structure Mapper where
  /-- Origin F0 in fine-time units. (03, The mapper) -/
  f0 : Rat := 0
  /-- Time A at the origin in ns. (03, The mapper) -/
  a : Rat := 0
  /-- Rate B in ns per fine-time unit, without the slew. R92 (03) -/
  b : Rat := 1000000000 / 409600000000
  /-- Offset still to be slewed in ns. R97 (03) -/
  slew : Rat := 0
  /-- Slew rate in ppb. R97 (03) -/
  ppb : Nat := 10000
  deriving DecidableEq, Repr, Inhabited

/-- 802.1AS state of one port (R100 to R102). -/
structure AsPort where
  /-- Role: 0 disabled, 1 passive, 2 slave, 3 master. R100 (03) -/
  role : Nat := 0
  /-- Peer delay in ns. R102 (03) -/
  pdelay : Rat := 0
  /-- Priority vector of the newest Announce, none when none stands: priority1, rest of the vector, grandmaster
  identity. R100 (03) -/
  ann : Option (Nat × Nat × Nat) := none
  /-- Sync received whose Follow_Up is due: its sequence, port timestamp in ticks. R91 (03) -/
  sync : Option (Nat × Rat) := none
  /-- Pdelay_Req sent: its sequence and transmit time in ticks. R100 (03) -/
  reqAt : Option (Nat × Rat) := none
  /-- Pdelay_Resp received: sequence, request receipt time in ns at the peer, receipt here in ticks. R100 (03) -/
  respAt : Option (Nat × Rat × Rat) := none
  /-- Next sequence of Pdelay_Req, Sync and Announce sent. 16 bits; R100 (03) -/
  seq : Nat := 0
  deriving DecidableEq, Repr, Inhabited

/-- Tick counter, mapper and time-base state. -/
structure TimeBase where
  /-- Tick counter. 64 bits; R85 (03) -/
  tick : Nat := 0
  /-- Timing PLL locked. R81 (03) -/
  locked : Bool := false
  /-- The mapper. R88 (03) -/
  map : Mapper := {}
  /-- Time-base state: 0 FREE_RUN, 1 ACQUIRING, 2 LOCKED, 3 HOLDOVER. 2 bits; R93 (03) -/
  state : Nat := 1
  /-- Stamp pairs held: source time in ns, tick with fraction; newest first. R91, R92 (03) -/
  pairs : List (Rat × Rat) := []
  /-- The last fit. R92 (03) -/
  fit : Option Fit := none
  /-- Offset difference of the first stamp has been applied since the history was cleared. R96 table (03) -/
  firstDone : Bool := false
  /-- Step waiting for a frame boundary, in ns. R98, R99 (03) -/
  step : Option Rat := none
  /-- The newest fit's own part of that step, and the tick at which it completed. R99 (03) -/
  fresh : Option (Nat × Rat) := none
  /-- Step applied that the next frame's record carries, in ns. R98 (03) -/
  stepShow : Option Int := none
  /-- Discarded pairs. 32 bits; R94 (03) -/
  discards : Nat := 0
  /-- Consecutive discards. R94 (03) -/
  bad : Nat := 0
  /-- Tick of the newest stamp. TB_STATUS_GET (03) -/
  stampAt : Nat := 0
  /-- Slave port: 0 none, 1 A, 2 B. 2 bits; R102 (03) -/
  slave : Nat := 0
  /-- Port that was the slave port last: 0 none, 1 A, 2 B; grandmaster identity last received on it. 2 and 64 bits; R102
  (03) -/
  was : Nat := 0
  gm : Nat := 0
  /-- Device is grandmaster. R101 (03) -/
  isGm : Bool := false
  /-- 802.1AS state of ports A (0) and B (1). R100 (03) -/
  asp : Tab AsPort := []
  /-- Second that the next PPS_IN edge stands for, once TB_TIME_SET has named one. R91 (03) -/
  ppsIn : Option Nat := none
  /-- PPS_OUT level. R103 (03) -/
  ppsOut : Bool := false
  /-- Instant of its newest rising edge in 1/16 tk. R103 (03) -/
  ppsAt : Nat := 0
  /-- Newest whole second that produced a PPS_OUT edge. R104 (03) -/
  ppsLast : Option Int := none
  /-- Delay-line positions of the eight region trees in ps. R83 (03) -/
  trees : Tab Int := []
  /-- Changes of the mapper that wait for their ticks, the earliest first: the conductor's own, a follower's as received.
  R500 (13) -/
  copies : List (Nat × Mapper) := []
  deriving DecidableEq, Repr, Inhabited

/-! ### Ethernet ports and queues (chapter 11) -/

/-- A closed datagram (R428). -/
structure Dgram where
  /-- Queue. 15 bits; R428 (11) -/
  queue : Nat
  /-- Chain address of the sender. 3 bits; R428 (11) -/
  chain : Nat
  /-- Binding in force for its records. R424 (11) -/
  bind : Binding
  /-- Sequence. 32 bits; R428 (11) -/
  seq : Nat
  /-- Records in it, in enqueue order. R429 (11) -/
  recs : List (List Word)
  /-- Records discarded since the previous datagram. 32 bits; R428 (11) -/
  lost : Nat
  /-- Destination entry, and MAC address on ports A and B, at its closing. R419, R420 (11) -/
  dst : List Word := []
  mac : Nat × Nat := (0, 0)
  deriving DecidableEq, Repr, Inhabited

/-- An output queue. -/
structure Queue where
  /-- Records of the open datagram, in enqueue order. R429 (11) -/
  cur : List (List Word) := []
  /-- Binding of the open datagram. R424 (11) -/
  curBind : Binding := {}
  /-- ETH_MTU that limits it. 14 bits; R429, R449 (11) -/
  mtu : Nat := 9216
  /-- Next datagram sequence. 32 bits; R428 (11) -/
  seq : Nat := 0
  /-- Records discarded since the last datagram. 32 bits; R428 (11) -/
  lost : Nat := 0
  /-- Records enqueued. 32 bits; ETH_Q_GET (11) -/
  enq : Nat := 0
  /-- Records discarded. 32 bits; ETH_Q_GET (11) -/
  disc : Nat := 0
  /-- Bytes held, in the open datagram and in closed ones not yet sent. R425 (11) -/
  held : Nat := 0
  /-- Those of them that wait in LPDDR6 staging. R425 (11) -/
  mem : Nat := 0
  /-- Bytes reserved for verdicts. R426 (11) -/
  resv : Nat := 0
  /-- Deficit on ports A and B. R434 (11) -/
  defA : Nat := 0
  /-- Deficit on port B. R434 (11) -/
  defB : Nat := 0
  deriving DecidableEq, Repr, Inhabited

/-- An item that a port sends. -/
inductive Item where
  /-- A datagram of a queue. R433 (11) -/
  | dgram (d : Dgram)
  /-- A Skeic response: destination address, UDP port, VID, source UDP port, message words. R456 (12) -/
  | resp (dst : Addr) (udp vid sport : Nat) (msg : List Word)
  /-- An 802.1AS frame: message type, sequence, and what it tells: the origin time of a Follow_Up, the receipt or origin
  time of a Pdelay_Resp or its Follow_Up in ns, the priority vector of an Announce. R433 (11), R100, R101 (03) -/
  | ptp (kind seq : Nat) (body : List Rat)
  /-- Another firmware frame: an ARP request or neighbour solicitation for an address, or the answer to a request received
  (true). R414, R420, R433 (11) -/
  | fw (answer : Bool) (dest : Nat)
  deriving DecidableEq, Repr, Inhabited

/-- A port. -/
structure EthPort where
  /-- Link is up. R431 (11) -/
  up : Bool := false
  /-- Frame on the wire. R435 (11) -/
  wire : Option Item := none
  /-- Bytes of the last frame of an output datagram or a response, from its destination address to its FCS. R417 (11), R456
  (12) -/
  frame : List (BitVec 8) := []
  /-- Datagrams that wait, per queue in closing order. R433 (11) -/
  wait : List Dgram := []
  /-- Items of priority 3 that wait. R433 (11) -/
  ctl : List Item := []
  /-- Queue that the deficit round robin visited last (forwarding devices count as 32,768 + address). R434, R518 (11,
  13) -/
  last : Nat := 0
  /-- Deficits of the forwarding devices, key chain address. R518 (13) -/
  fwdDef : Tab Nat := []
  /-- Datagrams sent. 32 bits; ETH_STATUS_GET (11) -/
  sent : Nat := 0
  /-- Datagrams discarded. 32 bits; R420, R432 (11) -/
  drop : Nat := 0
  /-- Frames received. 32 bits; ETH_STATUS_GET (11) -/
  rcv : Nat := 0
  /-- Frames discarded. 32 bits; R416, R418 (11) -/
  rcvDrop : Nat := 0
  /-- FCS errors. 32 bits; ETH_STATUS_GET (11) -/
  fcs : Nat := 0
  /-- IPv6 default routers learned: address, preference, in the order heard. R420 (11) -/
  routers : List (BitVec 128 × Int) := []
  deriving DecidableEq, Repr, Inhabited

/-- Ports, destinations and queues. Class V at chip level (R614). -/
structure Eth where
  /-- Ports A (0) and B (1). R414 (11) -/
  port : Tab EthPort := []
  /-- Queues. R421 (11) -/
  q : Tab Queue := []
  /-- MAC address of each destination resolved on a port plus 1, key destination·2 + port; 0 unresolved. R420 (11) -/
  mac : Tab Nat := []
  /-- Event sequence. 16 bits; R446 (11) -/
  evSeq : Nat := 0
  /-- Received firmware frames (ARP, ICMP, neighbour discovery) handed to the firmware. R418 (11) -/
  fwFrames : Nat := 0
  /-- Board-table fields that the ports use since their last power-up: mode, FEC, equalisation word and Skeic UDP port, key
  port·4 + field. 2, 2, 23 and 16 bits; R415, R449 (11) -/
  bt : Tab Nat := []
  deriving DecidableEq, Repr, Inhabited

/-! ### Chain (chapter 13) -/

/-- A chain link. -/
structure Link where
  /-- 0 DOWN, 1 TRAINING, 2 UP. 2 bits; R512 (13) -/
  st : Nat := 0
  /-- Partner address from the markers. 3 bits; CH_LINK_GET (13) -/
  partner : Nat := 0
  /-- Lanes inverted. 4 bits; R510 (13) -/
  pol : Nat := 0
  /-- Lane skew in blocks, key lane. 8 bits each; R511 (13) -/
  skew : Tab Nat := []
  /-- Block errors, key lane. 32 bits each; CH_LINK_GET (13) -/
  errs : Tab Nat := []
  /-- Entries into TRAINING. 32 bits; CH_LINK_GET (13) -/
  trains : Nat := 0
  /-- Matched markers in a row per lane, key lane. R512 (13) -/
  marks : Tab Nat := []
  /-- Items handed to the link so far, and the newest one with its priority. R514 (13); model's own record of an
  output -/
  sent : Nat := 0
  last : Nat × List Word := (0, [])
  /-- Newest mapper handed to the link, with the tick at which it takes effect. R500 (13); model's own record of an output -/
  map : Option (Nat × Mapper) := none
  /-- Forwarded datagrams that wait. R517, R519 (13) -/
  dgrams : List Dgram := []
  /-- Equalisation word in use since the last power-up of the domain. 23 bits; R513 (13) -/
  eq : Nat := 0
  deriving DecidableEq, Repr, Inhabited

/-- What a device knows of another member (R515). -/
structure Member where
  /-- A report has come and has not timed out. R525 (13) -/
  reach : Bool := false
  /-- Declared lost, until it rejoins. R525 (13) -/
  lost : Bool := false
  /-- Aligned. R515 (13) -/
  aligned : Bool := false
  /-- Inactive bank armed. R515 (13) -/
  armed : Bool := false
  /-- Image identifier of the armed bank. 32 bits; R515 (13) -/
  image : Word := 0
  /-- Thermal scale. 9 bits; R515 (13) -/
  sT : Nat := 256
  /-- Ladder scale. 9 bits; R515 (13) -/
  sL : Nat := 256
  /-- Device state code. 3 bits; R515 (13) -/
  dev : Nat := 2
  /-- Tick at which its newest report came. R525 (13); log 4 -/
  at_ : Nat := 0
  deriving DecidableEq, Repr, Inhabited

/-- Enumeration: always-on logic (R493 to R496), K through warm resets (R614). -/
structure Enum where
  /-- Chain address, none before it is assigned. 3 bits; R493, R495 (13) -/
  addr : Option Nat := none
  /-- Conductor. R493 (13) -/
  cond : Bool := false
  /-- Enumeration fault. R495 (13) -/
  fault : Bool := false
  /-- Pulse count of the fault. CH event 0C06h (13) -/
  faultCount : Nat := 0
  /-- Pulse count of the last burst. R495 (13) -/
  last : Option Nat := none
  /-- A pulse has been seen on ENUM_IN. R493 (13) -/
  pulse : Bool := false
  /-- A clock has been seen at CHAIN_REF_IN. R493, R498 (13) -/
  clock : Bool := false
  /-- Bursts sent on ENUM_OUT. R494 (13); model's own count of an output -/
  bursts : Nat := 0
  /-- Low pulses of the last burst sent. 4 bits; R494 (13) -/
  pulses : Nat := 0
  deriving DecidableEq, Repr, Inhabited

/-- Chain state, class V at chip level (R614). -/
structure Chain where
  /-- Upstream link. R512 (13) -/
  up : Link := {}
  /-- Downstream link. R512 (13) -/
  down : Link := {}
  /-- Other members, key chain address. R515 (13) -/
  mems : Tab Member := []
  /-- Trigger word CRC errors. 32 bits; R506 (13) -/
  crcErrs : Nat := 0
  /-- Errors since the previous event 0C04h. R506 (13) -/
  crcNew : Nat := 0
  /-- Tick of the previous event 0C04h. R506 (13); log 4 -/
  crcAt : Option Nat := none
  /-- Trigger words queued by the conductor: type, payload as a number of 96 bits, nominal start. R503 (13) -/
  words : List (Nat × Nat × Nat) := []
  /-- Tick at which SYNC_OUT is free again. R503 (13) -/
  busFree : Nat := 0
  /-- What the newest command has put on SYNC_OUT, the first first: words of 112 bits, and how often each. R502, R504, R508
  (13); model's own record of an output -/
  syncOut : List (Nat × Nat) := []
  /-- This device is aligned. R501 (13) -/
  aligned : Bool := false
  /-- Steps of 1 ps that the root delay line still has to make. R501 (13) -/
  alignLeft : Int := 0
  /-- Root delay-line position in ps. R501 (13) -/
  root : Int := 0
  /-- Windows stopped until the next valid frame-start word. R507 (13) -/
  noFrame : Bool := false
  /-- A valid frame-start word has come since the last event 0C05h: the tick at which it came. R507 (13); log 4 -/
  frameAt : Option Nat := none
  /-- Conductor's flags received: warm, spin state, scan lock, chain complete. R515 (13) -/
  condWarm : Bool := false
  /-- Conductor's spin state code. 2 bits; R524 (13) -/
  condSpin : Nat := 0
  /-- Conductor's scan-lock flag. R524 (13) -/
  condLock : Bool := false
  /-- Conductor's chain-complete flag. R515 (13) -/
  condComplete : Bool := false
  /-- Payloads of the conductor's TB_STATUS_GET and TB_FIT_GET as last received. R500 (13) -/
  tbStatus : List Word := [0, 0, 0]
  tbFit : List Word := [0, 0, 0]
  /-- CH_SYNC_MEASURE in progress: its mailbox and the address being measured. R508 (13) -/
  measuring : Option (Nat × Nat) := none
  deriving DecidableEq, Repr, Inhabited

/-! ### Cells, blocks and regions: front end and detection (chapters 01, 04, 05) -/

/-- A coefficient set (R163, R164): taps h_0 to h_(N−1) in 2⁻¹⁴, two's complement. 16 bits each. -/
abbrev Coef := List Int

/-- The built-in set: one tap of 1.0 (R647). -/
def Coef.builtIn : Coef := [0x4000]

/-- Tracked baseline and noise of one gain range (R159 to R162). -/
structure Trk where
  /-- Baseline b in 1/4 LSB. R159 (05) -/
  b : Rat
  /-- Mean square deviation of used samples, σ_raw². R159 (05) -/
  ms : Rat
  /-- Mean square of the filtered output, σ_y². R160 (05) -/
  v : Rat
  /-- Tick of the first used sample, while the hold of 2,048 ticks lasts. R161 (05) -/
  hold : Option Nat
  deriving DecidableEq, Repr, Inhabited

/-- A corrected sample (R129, R142). -/
structure Smp where
  /-- Its tick. R128 (04) -/
  n : Nat
  /-- Corrected code. 10 bits; R129 (04) -/
  code : Nat
  /-- Saturated. R124 (04) -/
  sat : Bool
  /-- Signed value in 1/4 LSB. 13 bits; R142 (04) -/
  sv : Int
  /-- Excluded from the baseline. R159, R160 (05) -/
  ex : Bool
  /-- Baseline in 1/4 LSB. R159 (05) -/
  b : Nat
  /-- Taken in low gain; taken while the range changed, so that it is of neither range. R119 (04), R258 (07) -/
  low : Bool := false
  chg : Bool := false
  deriving DecidableEq, Repr, Inhabited

/-- A segment (R254 to R262). -/
structure Seg where
  /-- Channel. R261 (07) -/
  ch : Nat
  /-- Fire tick, shot index and frame sequence of its shot. R261 (07) -/
  shot : Nat
  idx : Nat
  frame : Nat
  /-- Crossing tick of its detection, none for a scheduled segment. R254 (07) -/
  nd : Option Nat
  /-- First tick and length in samples. R254, R258 (07) -/
  first : Nat
  len : Nat
  /-- Re-arm tick before this segment. R256, R257 (07) -/
  before : Nat := 0
  /-- Pre-trigger applied. 8 bits; R261 (07) -/
  pre : Nat := 0
  /-- Gain range, shortened, truncated, flagged cell. R261 (07) -/
  low : Bool := false
  short : Bool := false
  trunc : Bool := false
  fault : Bool := false
  /-- Packing and send of its profile; sample format. R253, R140 (07, 04) -/
  packing : Bool := false
  send : Bool := true
  fmt : Nat := 1
  /-- Samples, oldest first. R258 (07) -/
  smp : List Smp := []
  /-- Its capture has ended. R258 (07) -/
  ended : Bool := false
  /-- Echo number. R261 (07) -/
  echo : Nat := 0
  /-- 0 undecided, 1 retained for a return, 2 released, 3 freed. R255 (07) -/
  fate : Nat := 0
  /-- Its output record has been sent or is not to be sent. R279 (07) -/
  sent : Bool := false
  /-- Protected by a freeze. R280 (07) -/
  prot : Bool := false
  /-- As the index records it: it lies in the spill area of the next channel. R271 (07) -/
  spill : Bool := false
  /-- Ring generation of its tag. 8 bits; R274 (07) -/
  gen : Nat := 0
  deriving DecidableEq, Repr, Inhabited

/-- An accumulation group of one channel (R263 to R267). -/
structure Grp where
  /-- Channel, profile number and profile words. R263 (07) -/
  ch : Nat
  profNo : Nat := 0
  prof : List Word
  /-- Window length and code of its members. Host errors (07) -/
  win : Nat := 0
  code : Nat := 0
  /-- Frame sequence; fire tick, shot index of first and last member. R266 (07) -/
  frame : Nat
  last : Nat
  firstIdx : Nat
  lastIdx : Nat
  /-- Members, accumulated and skipped entries. R263, R265 (07) -/
  members : Nat := 0
  acc : Nat := 0
  skip : Nat := 0
  /-- Bins B and bin width w. R264 (07) -/
  nb : Nat := 0
  w : Nat := 1
  /-- Sums, bin 0 first. 16 bits each; R264 (07) -/
  bins : List Nat := []
  /-- Windows being accumulated: fire tick and the part sum of the present bin. R264 (07) -/
  opens : List (Nat × Nat) := []
  /-- First tick after the window opened last. R265 (07) -/
  endAt : Nat := 0
  /-- The channel listened at one of its members. R15 (01), R263 (07) -/
  heard : Bool := false
  /-- Baseline at the first accumulated window in 1/4 LSB; saturated samples; gain range; throttled frame. R266 (07) -/
  base : Nat := 0
  sats : Nat := 0
  low : Bool := false
  thr : Bool := false
  /-- It takes no more members; it closed early; it is closed. A group with acc 0 takes no place in the bank. R263, R266
  (07) -/
  ending : Bool := false
  early : Bool := false
  closed : Bool := false
  deriving DecidableEq, Repr, Inhabited

/-- A sub-pulse detection (R168 to R172). -/
structure Det where
  /-- Crossing tick n_d. R168 (05) -/
  nd : Nat
  /-- Square of the opening threshold, (1/4 LSB)². R168 (05) -/
  tsq : Rat
  /-- σ_y² at the crossing tick. R185 (05) -/
  v : Rat
  /-- Low gain. R162 (05) -/
  low : Bool
  /-- Peak A in 1/4 LSB. R169 (05) -/
  peak : Int
  /-- Peak tick. R169 (05) -/
  peakAt : Nat
  /-- Outputs y from 12 ticks before the crossing on, or from the last one before it that is not positive, oldest first, and the
  tick of the first one. R185 (05) -/
  ys : List Int
  ysAt : Nat
  /-- Tap count in force, the length of its span. R641 (05) -/
  span : Nat
  /-- A sample of its span is saturated. R126 (04) -/
  sat : Bool := false
  /-- Masked by a foreign train. R315 (08) -/
  masked : Bool := false
  /-- Distance from its crossing to the nearest arrival of a train of its block's masks, less 256 × REJ_MASK_TK, in
  fine-time units; none without such a train. R300, R315 (08) -/
  near : Option Rat := none
  /-- Samples of its span with an end code. R182 (05) -/
  full : Nat := 0
  /-- Crossing time in 1/16 fine-time unit. R178 (05) -/
  cross : Int := 0
  /-- Timed by interpolation. R176 (05) -/
  interp : Bool := false
  /-- Closed, and whether the 64 tk close did it. R168, R169 (05) -/
  closed : Bool := false
  forced : Bool := false
  /-- Correlated already. R170 (05) -/
  done : Bool := false
  deriving DecidableEq, Repr, Inhabited

/-- A cell: class V at block level (R614). -/
structure Cell where
  /-- The front end has settled. R115 (04) -/
  settled : Bool := false
  /-- Present gain range is low. R121 (04) -/
  low : Bool := false
  /-- Pending gain target: low. R122 (04) -/
  target : Option Bool := none
  /-- Range in use before the calibration engine set one of its own: the cell returns to it after the run. R561 (15) -/
  back : Option Bool := none
  /-- quiet_count. R121 (04) -/
  quiet : Nat := 0
  /-- A range change is in progress, and the range it leads to is low. R119 (04) -/
  changing : Bool := false
  newLow : Bool := false
  /-- FE_INPUT_BIAS_MV change in progress or done in this gap; an action has started in this gap. R138 (04) -/
  gapUsed : Bool := false
  /-- A capacitance measurement runs. R136 (04) -/
  measuring : Bool := false
  /-- That measurement began in the periodic interval before, and counts for that one. R137 (04) -/
  older : Bool := false
  /-- Causes found: open detector, shorted detector, stuck converter, interleave mismatch. R15 (01) -/
  open_ : Bool := false
  short : Bool := false
  stuck : Bool := false
  mism : Bool := false
  /-- A capacitance measurement is due. R137 (04) -/
  due : Bool := false
  /-- Last periodic measurement found no gap. R137 (04) -/
  untested : Bool := false
  /-- A periodic measurement has run in the present interval. R137 (04) -/
  measured : Bool := false
  /-- Servo current in 0.1 µA. 16 bits; R114 (04) -/
  servo : Int := 0
  /-- Last capacitance in 0.1 pF. 8 bits; R136 (04) -/
  cap : Nat := 0
  /-- Interleave corrections: offsets in 1/16 LSB, gains in 2⁻¹⁴, skew in 0.1 ps. R129 (04) -/
  offA : Int := 0
  offB : Int := 0
  gainA : Int := 0
  gainB : Int := 0
  skew : Int := 0
  /-- Estimated residuals: offset in 1/64 LSB, gain in 0.01 %, skew in 0.1 ps. FE_INTERLEAVE_GET (04) -/
  resO : Nat := 255
  resG : Nat := 255
  resS : Nat := 255
  /-- Converged. R131 (04) -/
  conv : Bool := false
  /-- Identical codes in a row of converters A and B, and the code. R134 (04) -/
  runA : Nat := 0
  codeA : Nat := 0
  runB : Nat := 0
  codeB : Nat := 0
  /-- The four newest distinct codes of converters A and B, each with the tick of its newest sample, newest first. R134
  (04) -/
  seenA : List (Nat × Nat) := []
  seenB : List (Nat × Nat) := []
  /-- Recovery interval: first tick after it. R125 (04) -/
  recover : Nat := 0
  /-- Tracker of the high and of the low range, none before its first used sample. R161, R162 (05) -/
  hi : Option Trk := none
  lo : Option Trk := none
  /-- Its quarantine is in effect for the converter queue: it was silenced when a window or a capture last began. R16 (01),
  R149 (04) -/
  mute : Bool := false
  /-- The converter queue tags its entries as those of a flagged cell: it was flagged when a window or a capture last began.
  R15, R16 (01), R146 (04) -/
  tag : Bool := false
  /-- The block was restarted or reset and the hold of 2,048 ticks has not ended: no listen window opens. R161 (05) -/
  blind : Bool := true
  /-- Tick of the first used sample since the restart or reset. 64 bits; R161 (05) -/
  firstUsed : Option Nat := none
  /-- excluded_run. R159 (05) -/
  excluded : Nat := 0
  /-- Sample in 1/4 LSB that waits for the 1,024-tick override. R159 (05) -/
  override : Option Int := none
  /-- Samples of the last 140 ticks, newest first. R163, R254 (05, 07) -/
  hist : List Smp := []
  /-- Filtered outputs of the last 13 ticks, newest first. R163 (05) -/
  ys : List Int := []
  /-- The detector is armed. R168 (05) -/
  armed : Bool := true
  /-- Open detection. R168 (05) -/
  det : Option Det := none
  /-- First tick after the 16 tk that follow the last close. R159 (05) -/
  after : Nat := 0
  /-- Closed detections that may still be correlated, oldest first. R170 (05) -/
  dets : List Det := []
  /-- Level of the timing comparator in 1/4 LSB, none before a permitted instant with a baseline. R174 (05) -/
  level : Option Rat := none
  /-- The timing comparator is armed, as far as crossings show. R175 (05) -/
  cmpArmed : Bool := true
  /-- Unclaimed stamps: stop tick and code q, oldest first. R175 (05) -/
  stamps : List (Nat × Nat) := []
  /-- Tick at which each capacitor is free again. R175 (05) -/
  capA : Nat := 0
  capB : Nat := 0
  /-- Refined converter offset and slope in 1/16 code and 1/16 code per tk. R177 (05) -/
  q0S : Option (Nat × Nat) := none
  /-- Stamps since the last refinement, and their code histogram. R177 (05) -/
  stampN : Nat := 0
  codes : Tab Nat := []
  /-- Codes at or above q0 + S. R177 (05) -/
  outside : Nat := 0
  /-- Coefficient set in use, the set fading out, fade count j. R165 (05) -/
  coef : Coef := Coef.builtIn
  old : Option Coef := none
  j : Nat := 0
  /-- Set loaded and waiting for a frame boundary, with its mode (true replace). R165, R166 (05) -/
  next : Option (Coef × Bool) := none
  /-- Timing tables in effect where a newer one has been written and waits, key table. R200 (05) -/
  tabs : Tab (List Word) := []
  /-- Crossings timed without a stamp. 16 bits; R176 (05) -/
  interp : Nat := 0
  /-- Echo and cell overflows. 16 bits; DET_STATUS_GET (05) -/
  ovr : Nat := 0
  /-- Sunlit as evaluated, and as the tracker uses it. R302, R303 (08) -/
  sun : Bool := false
  sunIn : Bool := false
  /-- Segment buffers and their re-arm tick. R256 (07) -/
  segs : List Seg := []
  rearm : Nat := 0
  deriving DecidableEq, Repr, Inhabited

/-- A return (R170, R185, R189). -/
structure Ret where
  /-- Fire tick of its shot, which names the shot. R224 (06) -/
  shot : Nat
  /-- Shot index and frame sequence. R208 (06) -/
  idx : Nat
  frame : Nat
  /-- Channel. R438 (11) -/
  ch : Nat
  /-- Crossing tick of its first sub-pulse. R171 (05) -/
  nd : Nat
  /-- First tick after its span. R641 (05) -/
  fin : Nat
  /-- Ticks of every detection it consumes. R172 (05) -/
  uses : List Nat := []
  /-- Range, 22 bits; intensity, 16 bits; width, 8 bits; confidence, 8 bits. R178, R185 (05) -/
  range : Nat := 0
  inten : Nat := 0
  width : Nat := 0
  conf : Nat := 0
  /-- Saturated; low gain; cell fault; stale calibration; throttled frame. R438 (11) -/
  sat : Bool := false
  low : Bool := false
  fault : Bool := false
  stale : Bool := false
  thr : Bool := false
  /-- Echo number. 2 bits; R191 (05) -/
  echo : Nat := 0
  /-- Weather class, 2 bits; interference-adjacent. R305, R316 (08) -/
  cls : Nat := 0
  adj : Bool := false
  /-- Accumulated detection; close of its group. R267, R298 (07, 08) -/
  accum : Bool := false
  /-- Tick at which it was attributed. R187 (05) -/
  born : Nat := 0
  /-- Passed the coincidence test. R187 (05) -/
  tested : Bool := false
  /-- Passed on by the cell. R189, R190 (05) -/
  passed : Bool := false
  deriving DecidableEq, Repr, Inhabited

/-- A block: class V at block level but for its cells. -/
structure Block where
  /-- Returns of its cells that have not left for the region, in the order they arose. R187, R189 (05) -/
  rets : List Ret := []
  /-- Cell granted last by the merger. R19 (01) -/
  last : Nat := 15
  /-- Returns granted that wait in the dual-clock queue toward the region. R26 (01) -/
  out : List Ret := []
  /-- A block restart is in progress. R23 (01) -/
  restart : Bool := false
  /-- Ticks of the restarts of the last second. R25 (01); log 4 -/
  starts : List Nat := []
  /-- Held off. R25 (01) -/
  held : Bool := false
  /-- Histogram banks: the accumulating groups and those that wait for readout. R20, R21 (01), R266 (07) -/
  acc : List Grp := []
  rd : List Grp := []
  /-- Errors detected. R23 table (01) -/
  errs : Nat := 0
  /-- Single-bit errors corrected. R22 (01) -/
  corr : Nat := 0
  deriving DecidableEq, Repr, Inhabited

/-! ### The converter queue (chapter 04) -/

/-- One converter-queue entry (R145, R146). -/
structure CqEntry where
  /-- Channel. R146 (04) -/
  ch : Nat
  /-- Gain range; flagged cell. R146 (04) -/
  low : Bool := false
  fault : Bool := false
  /-- Tick of its first sample; frame sequence in progress then. R146 (04), R442 (11) -/
  first : Nat
  frame : Nat
  /-- Sample format of its capture. 2 bits; R144, R146 (04) -/
  fmt : Nat := 1
  /-- Samples, oldest first, at most 32. R145 (04) -/
  smp : List Smp := []
  deriving DecidableEq, Repr, Inhabited

/-- An entry that has left the capture in progress: one of a stopped capture that fills up, or a closed one. -/
structure CqHeld where
  /-- The entry. R145 (04) -/
  e : CqEntry
  /-- Number and destination queue of its capture. 16 and 15 bits; R146, R147 (04) -/
  num : Nat
  dest : Nat
  /-- Samples that its capture still takes of its channel. 24 bits; R150, R157 (04) -/
  left : Nat := 0
  deriving DecidableEq, Repr, Inhabited

/-- One channel of a capture. -/
structure CqCh where
  /-- Channel. FE_CQ_START (04) -/
  ch : Nat
  /-- Samples still to be captured. 24 bits; FE_CQ_START (04) -/
  left : Nat
  /-- Entry being filled. R145 (04) -/
  cur : Option CqEntry := none
  deriving DecidableEq, Repr, Inhabited

/-- The converter queue: class V at chip level. -/
structure Cq where
  /-- 0 idle, 1 armed, 2 capturing, 3 delivering. 2 bits; FE_CQ_STATUS (04) -/
  st : Nat := 0
  /-- Channels of the capture. R150 (04) -/
  chs : List CqCh := []
  /-- Start tick of start mode 1. 64 bits; R150 (04) -/
  start : Nat := 0
  /-- Destination queue. 15 bits; R147 (04) -/
  dest : Nat := 0
  /-- Sample format in force since the start. 2 bits; R144 (04) -/
  fmt : Nat := 1
  /-- Capture number. 16 bits; R146 (04) -/
  num : Nat := 0
  /-- Entries captured, delivered and dropped. 32 bits each; FE_CQ_STATUS (04) -/
  captured : Nat := 0
  delivered : Nat := 0
  dropped : Nat := 0
  /-- Entries of a stopped capture that fill up to their boundary. R157 (04) -/
  closing : List CqHeld := []
  /-- For each channel, entries dropped since its previous delivered one. 16 bits; R148 (04) -/
  drops : Tab Nat := []
  /-- Closed entries that wait to be passed on. R147 (04) -/
  full : List CqHeld := []
  deriving DecidableEq, Repr, Inhabited

/-- An FE_BIAS_TEST in progress. -/
structure BiasTest where
  /-- Its mailbox. R154 (04) -/
  mbx : Nat
  /-- Channels named. 512 bits; R154 (04) -/
  all : BitVec 512
  /-- Channels whose capacitance has been measured, and whose servo current has been evaluated, since. 512 bits each; R154
  (04) -/
  cap : BitVec 512 := 0
  dc : BitVec 512 := 0
  /-- Channels whose measurement ran already when the test was applied, which is none of its own. 512 bits; R154 (04) -/
  early : BitVec 512 := 0
  /-- Channels that it found open, and shorted. 512 bits each; R154 (04) -/
  open_ : BitVec 512 := 0
  short : BitVec 512 := 0
  deriving DecidableEq, Repr, Inhabited

/-! ### Regions, memory, look-back, ladder (chapters 01, 07) and the confirmation engine (chapter 08) -/

/-- A return in the confirmation engine (R297). -/
structure Prov where
  /-- The return. R297 (08) -/
  r : Ret
  /-- Tick of its entry into the engine. R319, R320 (08) -/
  entry : Nat
  /-- Its provisional record: 0 not yet enqueued, 1 enqueued, 2 none. R298, R324 (08) -/
  rec_ : Nat := 0
  /-- Speculation identifier. 16 bits; R299 (08) -/
  id : Nat := 0
  /-- Queues that carried the record. R323 (08) -/
  qs : List Nat := []
  /-- Checks passed: group, weather, foreign. R320 (08) -/
  group : Bool := false
  wx : Bool := false
  foreign : Bool := false
  /-- Final weather class, confidence and interference-adjacent flag. R297, R306, R316 (08) -/
  cls : Nat := 3
  conf : Nat := 0
  adj : Bool := false
  /-- Verdict cause, once decided. 3 bits; R320 (08) -/
  decided : Option Nat := none
  /-- Its verdict has been enqueued. R321 (08) -/
  sent : Bool := false
  /-- It has entered the collector. R324 (08) -/
  col : Bool := false
  deriving DecidableEq, Repr, Inhabited

/-- A region: class V at region level. -/
structure Region where
  /-- Point FIFO, oldest first. R26 (01) -/
  fifo : List Ret := []
  /-- Block of the region that the weighted round robin serves, and grants left to it. R26 (01) -/
  rr : Nat := 0
  rrLeft : Nat := 0
  /-- Returns of its confirmation engine, in entry order. R297 (08) -/
  eng : List Prov := []
  /-- Segments in the region's write queue, oldest first: they wait while histograms have the write port. At most 256 KiB;
  R27 (01), R284 (07) -/
  wq : List Seg := []
  /-- Segment ring, oldest first. R276, R279 (07) -/
  ring : List Seg := []
  /-- Histogram and converter-queue records that were staged in the spill area of the next channel. R278 (07) -/
  spilt : List (List Word) := []
  /-- Write pointer of the ring in bytes, and its ring generation of 8 bits. R274, R276, R283 (07) -/
  wr : Nat := 0
  gen : Nat := 0
  /-- A region restart is in progress. R29 (01) -/
  restart : Bool := false
  /-- Tick of the detection that the restart follows, and of the last resumption. R29, R32 (01); log 4 -/
  since : Nat := 0
  resumed : Option Nat := none
  /-- Cause of the restart in progress. 2 bits; 0003h (11) -/
  cause : Nat := 0
  /-- Failed restarts in a row. R32 (01) -/
  fails : Nat := 0
  /-- Disabled. R32 (01) -/
  disabled : Bool := false
  /-- Segment capture disabled. R31 (01) -/
  noSeg : Bool := false
  /-- Errors detected. R29 table (01) -/
  errs : Nat := 0
  deriving DecidableEq, Repr, Inhabited

/-- A memory channel. -/
structure MemCh where
  /-- 0 in use, 1 retraining, 2 failed, 3 self-refresh. 2 bits; MEM_STATUS_GET (07) -/
  st : Nat := 3
  /-- Corrected and uncorrected errors. 32 bits each; R275 (07) -/
  corr : Nat := 0
  uncorr : Nat := 0
  /-- Refresh multiplier. 3 bits; R272 (07) -/
  mult : Nat := 1
  /-- Retrainings since power-up. 16 bits; MEM_STATUS_GET (07) -/
  retrains : Nat := 0
  /-- Die temperature at the last training in 1/16 °C. R271 (07) -/
  temp : Int := 0
  /-- Write-CRC errors that were retried. R274 (07); model's own count -/
  crc : Nat := 0
  /-- Corrected read errors queued for scrubbing. R275 (07), R594 (16) -/
  scrub : Nat := 0
  /-- Strobe-drift trackings made. R271 (07); model's own count -/
  tracks : Nat := 0
  deriving DecidableEq, Repr, Inhabited

/-- A dump in progress (R282). -/
structure Dump where
  /-- Segments still to be sent: region and segment, by first tick. R282 (07) -/
  left : List (Nat × Seg)
  /-- Destination queue. 15 bits; R282 (07) -/
  dest : Nat
  /-- Rate in MB/s. 13 bits; R282 (07) -/
  rate : Nat
  /-- Segments sent. 32 bits; R282 (07) -/
  sent : Nat := 0
  deriving DecidableEq, Repr, Inhabited

/-- The look-back recorder: class V at chip level. -/
structure Look where
  /-- 0 live, 1 post, 2 frozen. 2 bits; R280 (07) -/
  st : Nat := 0
  /-- Trigger tick. R280 (07) -/
  since : Nat := 0
  /-- Triggers in post or frozen. R281 (07) -/
  ignored : Nat := 0
  /-- Dump in progress. R282 (07) -/
  dump : Option Dump := none
  /-- Segments missed, and output overruns. 32 bits each; R256, R279 (07) -/
  missed : Nat := 0
  ovr : Nat := 0
  deriving DecidableEq, Repr, Inhabited

/-- The rate reduction ladder: class V at chip level. -/
structure Ladder where
  /-- Step. 2 bits; R285 (07) -/
  step : Nat := 0
  /-- Ladder scale s_L. 9 bits; R287 (07) -/
  sL : Nat := 256
  /-- Samples in a row at or above the high limit, and below the low limit. R285 (07) -/
  hiRun : Nat := 0
  loRun : Nat := 0
  /-- Since the previous latch: a sample at or above the high limit; every sample below the low limit. R287 (07) -/
  hiSeen : Bool := false
  loAll : Bool := true
  /-- Step 3 has been entered since the previous latch, so that the next one takes s_L as it is. R287 (07), example -/
  entered : Bool := false
  /-- Step changes not yet past for every shot: tick and new step, newest first. R286 (07) -/
  hist : List (Nat × Nat) := []
  /-- Fills at the last sample in %: collector, write queue, backlog. CAP_STATUS_GET (07) -/
  fills : Nat × Nat × Nat := (0, 0, 0)
  deriving DecidableEq, Repr, Inhabited

/-- Confirmation at chip level: class V at chip level. -/
structure Rej where
  /-- Next speculation identifier. 16 bits; R299 (08) -/
  nextId : Nat := 1
  /-- Identifiers whose verdict is outstanding, oldest first, with the region of the return. R321 (08) -/
  out : List (Nat × Nat) := []
  /-- Counts of REJ_STATUS_GET, key word number 17 to 26. 32 bits each; R298, R320 (08) -/
  n : Tab Nat := []
  deriving DecidableEq, Repr, Inhabited

/-- A stamp (R308). -/
structure Stamp where
  /-- Time in 1/16 fine-time unit. R308 (08) -/
  t : Int
  /-- Channel. R308 (08) -/
  ch : Nat
  /-- Intensity. 16 bits; R308 (08) -/
  inten : Nat
  /-- Index in its train. R311 (08) -/
  k : Int := 0
  deriving DecidableEq, Repr, Inhabited

/-- A foreign train (R311 to R317). -/
structure Train where
  /-- Stamps within the gate, newest first. R314 (08) -/
  st : List Stamp
  /-- COASTING. R314 (08) -/
  coast : Bool := false
  /-- Period and phase in fine-time units. R311 (08) -/
  per : Rat
  phi : Rat
  /-- σ_r squared. R311 (08) -/
  var : Rat
  /-- Stamps of the latest fit. 7 bits; REJ_TRAIN_LIST (08) -/
  n : Nat
  /-- Mean intensity of the stamps of the latest fit. R317 (08) -/
  inten : Nat
  /-- Tick of the acquisition or latest refit. R315 (08) -/
  fitAt : Nat
  deriving DecidableEq, Repr, Inhabited

/-- The foreign-train estimator: class V at chip level. -/
structure Est where
  /-- Stamps that cross to the estimator, oldest first. R310 (08) -/
  q : List Stamp := []
  /-- Unassigned stamps, oldest first. R312 (08) -/
  free : List Stamp := []
  /-- Tracked trains, key 0 to 31. R314 (08) -/
  trains : Tab Train := []
  /-- Qualifying sets that found 32 trains tracked. R314 (08) -/
  full : Nat := 0
  /-- Tick of the last capacity record. R314 (08) -/
  fullAt : Option Nat := none
  deriving DecidableEq, Repr, Inhabited

/-! ### The shot sequencer and emitters (chapter 06) -/

/-- A schedule bank: class S. -/
structure Bank where
  /-- Words, key section·2²⁰ + offset. 32 bits each; R203 (06) -/
  w : Tab Word := []
  /-- Holds an image: it has been armed since it was empty. R215 (06) -/
  image : Bool := false
  deriving DecidableEq, Repr, Inhabited

/-- An entry read ahead or fired, as announced (R212). -/
structure Shot where
  /-- Shot index. 18 bits; R208 (06) -/
  idx : Nat
  /-- Frame sequence. 32 bits; R211 (06) -/
  frame : Nat
  /-- Fire tick n_fire. R218 (06) -/
  fire : Nat
  /-- Edge placement e. 4 bits; R218 (06) -/
  edge : Nat := 0
  /-- String. 3 bits; R204 table (06) -/
  string : Nat := 0
  /-- Emit bit of the entry. R204 table (06) -/
  emit : Bool := true
  /-- Code and its offsets d_0 to the last. R206 (06) -/
  code : Nat := 0
  offs : List Nat := [0]
  /-- Bypass pattern number and pattern. R207 (06) -/
  pat : Nat := 0
  mask : Nat := 0
  /-- Sub-pulse width in 1/16 tk. 8 bits; R204 table (06) -/
  width : Nat := 8
  /-- Window length in tk. 13 bits; R204 table (06) -/
  win : Nat := 0
  /-- Receive set. 512 bits; R205 (06) -/
  rset : BitVec 512 := 0
  /-- Histogram entry. R204 table (06) -/
  hist : Bool := false
  /-- Capture profile. 2 bits; R204 table (06) -/
  prof : Nat := 0
  /-- Diagnose entry. R233 (06) -/
  diag : Bool := false
  /-- Mirror set-point, where valid, in 2⁻¹⁵. R213 (06) -/
  mirror : Option Int := none
  /-- Shot tag. 8 bits; R204 table (06) -/
  tag : Nat := 0
  /-- Rate scale of its frame. 9 bits; R246 (06) -/
  s : Nat := 256
  /-- Its frame runs in RUN, so its windows may open. R217 (06) -/
  run : Bool := false
  /-- Its announced window has been withdrawn. R217 (06) -/
  gone : Bool := false
  /-- It takes the place of a diagnose entry as the proof shot of this emitter. R233 (06) -/
  proof : Option Nat := none
  /-- Its blanking interval has begun: applied pattern, a of R228, and the heat check is done. R223 (06) -/
  blanked : Bool := false
  applied : Nat := 0
  a : Nat := 0
  hot : Bool := false
  /-- Thresholds v_lo, v_hi loaded for EMVk, in 1/2 mV. R228 (06) -/
  vlo : Nat := 0
  vhi : Nat := 0
  /-- The emission inhibit arrived in its blanking interval. R243 (06) -/
  inhibited : Bool := false
  /-- Its string was disabled, or was not, when a change of health moved that after its blanking interval had begun. R231
  (06) -/
  wasOff : Option Bool := none
  /-- Its pattern transfer is done, or none was needed. R222 (06) -/
  shifted : Bool := false
  /-- It has fired or run dark, with the dark cause. R242 (06) -/
  fired : Bool := false
  dark : Nat := 0
  /-- Tick at which it was read ahead, or its word came. R118 (04) -/
  readAt : Nat := 0
  /-- Channels whose window it opened, silenced ones with them. 512 bits; R117, R165 (04, 05) -/
  opened : BitVec 512 := 0
  /-- Those of them that contribute. 512 bits; R118, R15 (04, 01) -/
  part : BitVec 512 := 0
  /-- Those of them that were flagged. 512 bits; R15, R16 (01) -/
  flag : BitVec 512 := 0
  /-- Diagnosis: sub-pulses judged, and the first cause that failed: 0 none, 1 over-current, 2 no current, 3 low
  voltage, 4 high voltage. R229 (06) -/
  judged : Nat := 0
  cause : Nat := 0
  /-- Shot angles, when the engine has returned them: spin angle, mirror reference, mirror position, unknown flag. R353
  (09) -/
  angles : Option (Nat × Int × Int × Bool) := none
  /-- Time of its edge: ns and fine offset. R105 (03) -/
  time : Int × Nat := (0, 0)
  /-- Its shot record has been enqueued. R441 (11) -/
  recorded : Bool := false
  /-- Channels that are final for it. 512 bits; R318 (08) -/
  final : BitVec 512 := 0
  /-- Its confirmed records have been placed by the collector. R196 (05) -/
  placed : Bool := false
  /-- Channels whose gain decision at the close is done. 512 bits; R121 (04) -/
  closed : BitVec 512 := 0
  /-- Highest baseline-corrected peak in 1/4 LSB per channel of the window, and whether a sample was saturated. R121
  (04) -/
  peaks : Tab Int := []
  sats : BitVec 512 := 0
  /-- Threshold squared and gain range at the last tick of the window, per channel, for no-return records. R194 (05) -/
  ends : Tab (Rat × Bool) := []
  /-- In-force values of per-shot parameters that have changed since, key as in ClassP.par. R198 (05), R327 (08) -/
  old : Tab Nat := []
  /-- Coincidence patterns in force that have changed since, key block·16 + pattern. R199 (05) -/
  oldCo : Tab (List Word) := []
  /-- Capture profile words in force at its fire tick. R253 (07) -/
  cap : List Word := [0, 0, 0]
  /-- Ladder step in force. 2 bits; R286 (07) -/
  lad : Nat := 0
  /-- Echo slots taken per channel, key channel. R189, R191 (05) -/
  slots : Tab Nat := []
  /-- Attributed returns, and echoes passed on: channel and crossing tick. R187, R191 (05) -/
  rets : List (Nat × Nat) := []
  passed : List (Nat × Nat) := []
  /-- Channels that are to have a no-return record. 512 bits; R193 (05) -/
  nores : BitVec 512 := 0
  /-- Channels that did not listen: the cell was silenced, or block or region absent, or the window was abandoned. 512
  bits; R23 (01), R195 (05), R318 (08) -/
  deaf : BitVec 512 := 0
  /-- Weather classifier runs done. 512 bits; R305 (08) -/
  wx : BitVec 512 := 0
  deriving DecidableEq, Repr, Inhabited

/-- A frame whose record has not been enqueued: the counts of R445. -/
structure Frame where
  /-- Frame sequence. 32 bits; R209 (06) -/
  seq : Nat
  /-- Start tick F_k. R208 (06) -/
  start : Nat
  /-- Mapped time of the start tick, in ns. R445 (11) -/
  t : Int := 0
  /-- Bank. R211 (06) -/
  bank : Nat
  /-- Image identifier. 32 bits; R211 (06) -/
  image : Word := 0
  /-- Rate scale, ladder scale. 9 bits each; R244 (06) -/
  s : Nat := 256
  sL : Nat := 256
  /-- Decided to run in RUN. R217 (06) -/
  run : Bool := false
  /-- Truncated. R216 (06) -/
  trunc : Bool := false
  /-- Over: its boundary has passed. R208 (06) -/
  ovr : Bool := false
  /-- Entries run and dropped. 18 bits each; R445 (11) -/
  ran : Nat := 0
  dropped : Nat := 0
  /-- In a follower: entries whose valid shot word has come, and one more than the highest of them. R506 (13) -/
  words : Nat := 0
  top : Nat := 0
  /-- In a follower: entries that ran, as the truncate word has them. R502, R506 (13) -/
  told : Nat := 0
  /-- Step in ns that this frame's record carries. R98 (03) -/
  step : Option Int := none
  /-- Counts W10 to W35 and W37 of the frame record, key word number. 32 bits each; R445 (11) -/
  n : Tab Nat := []
  /-- Regions absent, channels silenced, blocks absent during the frame. 8, 512 and 32 bits; R445 (11) -/
  regs : BitVec 8 := 0
  sil : BitVec 512 := 0
  blks : BitVec 32 := 0
  /-- Channels that were sunlit in the frame. 512 bits; R304 (08) -/
  sun : BitVec 512 := 0
  /-- Highest ladder step. 2 bits; R284 (07) -/
  ladder : Nat := 0
  /-- Values taken at the frame's end: scan lock, spin state, time-base state, warm, trains, string states, forced
  masks. R445 (11) -/
  lock : Bool := false
  spin : Nat := 0
  tb : Nat := 0
  warm : Bool := false
  trains : Nat := 0
  strings : Nat := 0
  forced : List Word := []
  deriving DecidableEq, Repr, Inhabited

/-- What is latched for a frame that has not started (R210). -/
structure Latch where
  /-- Frame sequence. 32 bits; R209 (06) -/
  seq : Nat
  /-- Start tick. R208 (06) -/
  start : Nat
  /-- Bank, and whether the banks swap at its start. R210 (06) -/
  bank : Nat
  swap : Bool := false
  /-- Rate scale, ladder scale. 9 bits each; R210, R244 (06) -/
  s : Nat := 256
  sL : Nat := 256
  /-- It runs in RUN. R217 (06) -/
  run : Bool := false
  deriving DecidableEq, Repr, Inhabited

/-- A transfer on the pattern bus (R221). -/
structure Ems where
  /-- The word. 24 bits; R221 (06) -/
  word : Nat := 0
  /-- Tick of its first rising edge. R222 (06) -/
  first : Int := 0
  /-- Period of EMS_CLK in ns. SHOT_EMS_CLK (06) -/
  period : Nat := 10
  deriving DecidableEq, Repr, Inhabited

/-- Sequencer run state, class V at chip level. -/
structure Seq where
  /-- 0 stopped, 1 running, 2 stopping at the boundary. 2 bits; R214, R216 (06) -/
  run : Nat := 0
  /-- The first frame's start tick, while it has not started. R215 (06) -/
  first : Option Nat := none
  /-- Start tick of the frame in progress, and the next boundary. R208 (06) -/
  start : Nat := 0
  bound : Nat := 0
  /-- The frames that are latched and have not started, the first first: more than one where the frame period is shorter than
  the 4,096 tk of the latch. R210 (06) -/
  latch : List Latch := []
  /-- Bank, rate scale and RUN decision of the frame being read ahead; next entry; accumulator acc; its frame sequence
  and start tick. R245 (06) -/
  rdBank : Nat := 0
  rdS : Nat := 256
  rdRun : Bool := false
  rdNext : Nat := 0
  rdAcc : Nat := 0
  rdFrame : Nat := 0
  rdStart : Nat := 0
  /-- Fire tick of the newest entry read ahead since the start. R220 (06) -/
  rdFire : Option Nat := none
  /-- Entries read ahead and shots not yet finished, oldest first. R212 (06) -/
  shots : List Shot := []
  /-- Frames whose record is not enqueued, oldest first. R212 (06) -/
  frames : List Frame := []
  /-- String and applied pattern of the last emitting shot. R222 (06) -/
  lastPat : Option (Nat × Nat) := none
  /-- The newest transfer. R221, R222 (06) -/
  ems : Option Ems := none
  /-- The sub-pulses of the last shot that emitted: firing output (string), rise and fall in 1/16 tk. R218 (06) -/
  subs : List (Nat × Nat × Nat) := []
  /-- Emission inhibit at the sequencer. R243 (06); the island's outputs are low at reset (log 26) -/
  inhibit : Bool := true
  /-- A step decision: the disarm waits for the boundary. R249 (06) -/
  disarmAt : Bool := false
  /-- The image check of this bank is being computed for this mailbox: mailbox, bank. R249 (06) -/
  check : Option (Nat × Nat) := none
  /-- SHOT_SEQ_STOP of this mailbox waits for the boundary. R216 (06) -/
  stopMbx : List Nat := []
  /-- Heat estimates in nJ, key string·16 + emitter. R238 (06) -/
  heat : Tab Nat := []
  /-- Proofs: string being proved and its next emitter; strings whose proof has changed an emitter's health; SHOT_PROOF_RUN
  waiting: mailbox and its strings, those completed. The strings with a proof pending are those in state 2. R232 to R236,
  R251 (06) -/
  proofAt : Option (Nat × Nat) := none
  proofChg : Nat := 0
  proofRun : List (Nat × Nat × Nat) := []
  /-- Sub-pulses fired in the frame in progress, for the island's comparison. R372 (10) -/
  pulses : Nat := 0
  /-- Sub-pulses of the frame before, as the sequencer reports them to the island. R372 (10) -/
  report : Option Nat := none
  deriving DecidableEq, Repr, Inhabited

/-! ### Housekeeping and thermal management (chapter 14) -/

/-- Volatile state of a scan slot. -/
structure HkSlot where
  /-- DC estimate d in codes, none before the first conversion. R542 (14) -/
  d : Option Rat := none
  /-- Wire suspect and broken. R540 (14) -/
  suspect : Bool := false
  broken : Bool := false
  /-- The open-input comparator has tripped in this conversion. R539 (14) -/
  trip : Bool := false
  /-- Value word of the latest conversion without a trip. R540 (14); none before one -/
  good : Option Word := none
  /-- Code, value and flag words of the latest conversion. R547 (14) -/
  code : Word := 0
  value : Word := 0
  flags : Word := 0
  deriving DecidableEq, Repr, Inhabited

/-- The scan and the charge amplifier: class V at chip level, kept in PARK (R614). -/
structure Hk where
  /-- A cycle is in progress: 1. R529 (14) -/
  st : Nat := 0
  /-- Slot in progress; its conversion runs, after the settling delay. R529, R530 (14) -/
  slot : Nat := 0
  conv : Bool := false
  /-- The cycle was started by HK_SYNC. R547 (14) -/
  bySync : Bool := false
  /-- Slots of the cycle in progress, taken at its start. R532 (14) -/
  table : List (List Word) := []
  /-- Mapped time of the cycle's start in ns. 64 bits; R547 (14) -/
  start : Int := 0
  /-- Cycles and sync overruns. 32 bits each; HK_STATUS_GET (14) -/
  cycles : Nat := 0
  ovr : Nat := 0
  /-- Slots, key slot. R540, R542 (14) -/
  slots : Tab HkSlot := []
  /-- Input whose burn-out current, and excitation that is switched on: input + 32·burn-out, source + 4·excitation; 0 as
  none. R530 (14) -/
  burn : Nat := 0
  exc : Nat := 0
  /-- Charge amplifier resets; tick of the last. 32 bits; R545 (14) -/
  caResets : Nat := 0
  caAt : Option Nat := none
  /-- Tick of the last additional reset of the amplifier. R545 (14) -/
  caMark : Option Nat := none
  /-- Samples in a row below HK_CA_OPEN_PCT. R546 (14) -/
  caLow : Nat := 0
  /-- Latest sample: sensor code, taken during reset, broken-wire. R544 (14) -/
  ca : Int × Bool × Bool := (0, false, false)
  deriving DecidableEq, Repr, Inhabited

/-- Temperature sensors and thermal state. -/
structure Therm where
  /-- Readings of sensors 0 to 11 in 1/16 °C, key sensor. 16 bits each; R548 (14) -/
  t : Tab Int := []
  /-- Failed sensors. 12 bits; R549 (14) -/
  failed : BitVec 12 := 0
  /-- Readings in a row with the present value, key sensor. R549 (14) -/
  same : Tab Nat := []
  /-- Sums of the twelve sensors at the last 4,096 readings, newest first. R549 (14) -/
  sums : List Int := []
  /-- Thermal state. 2 bits; R550 (14) -/
  st : Nat := 0
  /-- Thermal scale. R551 (14) -/
  sT : Int := 256
  /-- Hottest sensor and T_h in 1/16 °C. R550 (14) -/
  hot : Nat := 0
  th : Int := 0
  /-- Readings are taken every 50 µs. R548 (14) -/
  fast : Bool := false
  /-- Words of the latest thermal record, W0, W1 and W4 to W10. R554 (14) -/
  last : List Word := [0, 256, 0, 0, 0, 0, 0, 0, 0]
  /-- Highest T_h since power-on reset. THERM_STATUS_GET (14); none before a reading -/
  max_ : Option Int := none
  /-- Tick at which PARK was reached in shutdown. R553 (14); log 4 -/
  parkAt : Option Nat := none
  deriving DecidableEq, Repr, Inhabited

/-! ### The calibration engine (chapter 15) -/

/-- A calibration run in progress: class V at chip level. -/
structure CalRun where
  /-- Mailbox of the CAL_RUN. R575 (15) -/
  mbx : Nat
  /-- Parts still to come: regions 0 to 7, housekeeping 8. R559 (15) -/
  left : List Nat
  /-- Part in progress. R559 (15) -/
  part : Option Nat := none
  /-- Measurements of pass A, and of pass B. R565 (15) -/
  passA : Option (List CalMeas) := none
  passB : Option (List CalMeas) := none
  /-- CAL_ABORT mailboxes that wait for the end. R575 (15) -/
  aborts : List Nat := []
  deriving DecidableEq, Repr, Inhabited

/-- The calibration engine. -/
structure Cal where
  /-- Run in progress. R559 (15) -/
  run : Option CalRun := none
  /-- Last results, key part. 3 bits each; CAL_STATUS_GET (15); 4, not run (log 11) -/
  res : Tab Nat := []
  /-- Failed channels of the last run. R575 (15) -/
  failed : Nat := 0
  /-- Interval error of each channel in 0.1 ps, key channel. 16 bits; CAL_CHANNEL_GET (15) -/
  err : Tab Int := []
  deriving DecidableEq, Repr, Inhabited
/-! ### Scan motion control (chapter 09) -/

/-- An oscillation detector (R354). -/
structure Osc where
  /-- Sign of the loop error at the last instant. R354 (09) -/
  sign : Int := 0
  /-- Its largest magnitude since the previous sign change. R354 (09) -/
  big : Rat := 0
  /-- Ticks of the half-cycles counted, newest first. R354 (09); log 4 -/
  times : List Nat := []
  /-- Times that the feedback gains are halved. R354 table (09) -/
  halved : Nat := 0
  deriving DecidableEq, Repr, Inhabited

/-- A test signal being injected (R355). -/
structure Inject where
  /-- Axis: 0 spin, 1 mirror. MC_INJECT_START (09) -/
  axis : Nat
  /-- Point: 0 reference, 1 output. R355 (09) -/
  point : Nat
  /-- Test signal code. 2 bits; R355 (09) -/
  signal : Nat
  /-- Capture decimation. 8 bits; R356 (09) -/
  dec : Nat
  /-- Loop periods per bit of the PRBS. 8 bits; R355 (09) -/
  bit : Nat
  /-- Amplitude. 32 bits, two's complement; R355 (09) -/
  amp : Int
  /-- Duration in loop periods. 32 bits; R355 (09) -/
  dur : Nat
  /-- First and last frequency of the chirp in Hz. 16 bits each; R355 (09) -/
  f0 : Nat
  f1 : Nat
  /-- Loop periods so far. R355 (09) -/
  n : Nat := 0
  /-- PRBS-15 register. 15 bits; R355 (09), seed all ones -/
  prbs : BitVec 15 := 0x7FFF
  deriving DecidableEq, Repr, Inhabited

/-- The motion control engine: domain 88, class V at chip level. -/
structure Motion where
  /-- The engine has started (R359). R359 (09) -/
  started : Bool := false
  /-- QUIET → PARK brings both axes to rest. R358 (09) -/
  parking : Bool := false
  /-- Safe-stop command at the engine: deceleration and jerk limits that accompany it. R360 (09) -/
  safeStop : Option (Nat × Nat) := none
  /-- Encoder count. R332 (09) -/
  count : Int := 0
  /-- The first ENC_Z edge has set the count: θ is known. R332, R333 (09) -/
  known : Bool := false
  /-- Edges: tick, count after it, newest first. R332 (09) -/
  edges : List (Nat × Int) := []
  /-- Edges counted so far, and that number at each illegal transition of the last revolution. R333 (09) -/
  travel : Nat := 0
  illegal : List Nat := []
  /-- Spin state: 0 OFF, 1 SPEED, 2 ALIGN, 3 LOCKED. 2 bits; R349 (09) -/
  spin : Nat := 0
  /-- Tick at which LOCKED was entered, while the trial lasts. R349 (09) -/
  trial : Option Nat := none
  /-- LOCKED with the trial ended, and no injection on the spin, at every spin loop instant of the frame so far. R352,
  R357 (09) -/
  lock : Bool := false
  /-- Spin generator: reference angle in rev, velocity in rev/s, acceleration in rev/s². R339 (09) -/
  sr : Rat := 0
  v : Rat := 0
  a : Rat := 0
  /-- Integrators i_ω and i_θ in mA; i_ω at hand-over. R345, R347, R350 (09) -/
  iw : Rat := 0
  ith : Rat := 0
  iHand : Rat := 0
  /-- Set-point c of the last spin period in mA, and whether it was limited. R345, R346 (09) -/
  c : Rat := 0
  limited : Bool := false
  /-- Alignment term ω_align in rev/s. R345 (09) -/
  align : Rat := 0
  /-- Last loop errors e_θ in rev and e_ω in rev/s. R347, R345 (09) -/
  eth : Rat := 0
  ew : Rat := 0
  /-- Spin periods in a row: within tolerance (at rest with ω_ref 0); within MC_HANDOVER_ANGLE; beyond
  MC_HANDOVER_ABORT after the trial; below 0.05 rev/s. R349, R351, R358 (09), R644 (02) -/
  okRun : Nat := 0
  angRun : Nat := 0
  lostRun : Nat := 0
  restRun : Nat := 0
  /-- Aborts in a row. 2 bits; R350 (09) -/
  aborts : Nat := 0
  /-- No attempt: the 100 ms after an abort; after a third abort until a spin parameter is written. R350 (09) -/
  hold : Bool := false
  halt : Bool := false
  /-- The rest report to the safety island. R358 (09) -/
  rest : Bool := false
  /-- Motor link: sequence of the next command; sequence of the previous frame's command; the last command word. R334
  (09) -/
  seq : Nat := 0
  sentSeq : Nat := 0
  word : BitVec 80 := 0
  /-- Newest valid phase currents in mA and DC-link voltage in 10 mV. R336 (09) -/
  ia : Int := 0
  ib : Int := 0
  vdc : Nat := 0
  /-- Invalid responses in a row, and all of them. 32 bits; R336 (09) -/
  bad : Nat := 0
  errs : Nat := 0
  /-- Mirror axis on. R361 (09) -/
  mirOn : Bool := false
  /-- Mirror target in 2⁻¹⁵ FS. R342 (09) -/
  target : Int := 0
  /-- Mirror generator: reference in 2⁻¹⁵ FS, velocity in FS/s, acceleration in FS/s². R339, R340 (09) -/
  r : Rat := 0
  mv : Rat := 0
  ma : Rat := 0
  /-- Measured positions of the last two loop instants in 2⁻¹⁵ FS. R338 (09) -/
  y : Rat := 0
  yPrev : Rat := 0
  /-- Mirror integrator, output in DAC codes. R343 (09) -/
  mi : Rat := 0
  u : Rat := 0
  /-- Codes of the 20 updates of GALVO_OUTP, GALVO_OUTN in the mirror period. 16 bits, two's complement; R337 (09) -/
  dac : List Int := []
  /-- Step per loop instant of the ramp to 0 of an axis that is off, in DAC codes. R358, R361 (09) -/
  ramp : Rat := 0
  /-- The output was limited at the last instant. R343 (09) -/
  clamped : Bool := false
  /-- Mirror loop error in 2⁻¹⁵ FS. R343 (09) -/
  me : Rat := 0
  /-- Mirror loop instants: tick, reference, measured position, newest first, at most 16. R353 (09) -/
  mirs : List (Nat × Rat × Rat) := []
  /-- Tick of the last spin loop instant. R331 (09) -/
  spinAt : Option Nat := none
  /-- A gain of the spin, of the mirror has been written: the halving ends at the axis's next loop instant. R354, R362 (09) -/
  gainS : Bool := false
  gainM : Bool := false
  /-- Off causes of spin and mirror: 0 none, 1 encoder or sensor, 2 link, 3 oscillation. 3 bits each; R361 (09) -/
  offSpin : Nat := 0
  offMir : Nat := 0
  /-- Oscillation detectors of spin and mirror. R354 (09) -/
  oscS : Osc := {}
  oscM : Osc := {}
  /-- Test signal in progress. R355 (09) -/
  inj : Option Inject := none
  /-- Captured instants, oldest first: reference, measurement, error, output, injected value. 5 words of 32 bits each, at
  most 13,107; R356 (09) -/
  cap : List (List Word) := []
  /-- MC_ENC_LINES, MC_AXES in use since the last power-up of the domain. R362 (09) -/
  lines : Nat := 4096
  axes : Nat := 3
  /-- Fire ticks and set-points that the sequencer has passed and that have not come: fire tick, set-point. R213 (06) -/
  marks : List (Nat × Option Int) := []
  /-- Frames passed: start tick and period, newest last, at most two that have started. R213 (06) -/
  frames : List (Nat × Nat) := []
  deriving DecidableEq, Repr, Inhabited

/-! ### The safety island (chapter 10) -/

/-- A copy of a vehicle message that waits for its pair (R407). -/
structure MsgCopy where
  /-- Sequence. 32 bits; R406 (10) -/
  seq : Word
  /-- Port on which it arrived. R407 (10) -/
  port : Port
  /-- W1 and W2. R407 (10) -/
  w1 : Word
  w2 : Word
  /-- Island time of its arrival in µs. R407 (10); log 4 -/
  at_ : Nat
  /-- It cannot pair any more: the skew time is over and it is counted, or another copy has differed from it. R407 (10) -/
  past : Bool := false
  deriving DecidableEq, Repr, Inhabited

/-- A brake test in progress (R396). -/
structure BrakeTest where
  /-- Mailbox of the SAF_BRAKE_TEST. R396 (10) -/
  mbx : Nat
  /-- Phase: 0 ramp up, 1 hold, 2 ramp down. R396 (10) -/
  phase : Nat := 0
  /-- Spin periods of the phase so far. R396 (10) -/
  k : Nat := 0
  /-- Encoder counts of the two channels at its start, and the largest movement since. 16 bits; R396 (10) -/
  fromA : Int := 0
  fromB : Int := 0
  moved : Nat := 0
  /-- Largest phase magnitude seen in mA. 16 bits; R396 (10) -/
  peak : Nat := 0
  /-- Spin periods of the hold with the current seen. R396 table (10) -/
  seen : Nat := 0
  deriving DecidableEq, Repr, Inhabited

/-- The encoder functions of one channel of the island (R366, R384 to R386). -/
structure IslEnc where
  /-- Count. R384 (10) -/
  count : Int := 0
  /-- The first ENC_Z edge has set the count. R384 (10) -/
  known : Bool := false
  /-- Counts in the present 100 µs and in the nine before, newest first. R384 (10) -/
  now : Nat := 0
  win : List Nat := []
  /-- Speed ω_s in rev/s. R384 (10) -/
  speed : Rat := 0
  /-- Edges counted so far, and that number at each illegal transition of the last revolution. R386 (10) -/
  travel : Nat := 0
  illegal : List Nat := []
  /-- Encoder fault latched. R386 (10) -/
  fault : Bool := false
  /-- Scan stall, without an encoder fault's. R385 (10) -/
  stall : Bool := false
  /-- Evaluations in a row below the stall speed, at or above 1.1 times it, at or below standstill. R385, R400 (10) -/
  lowRun : Nat := 0
  highRun : Nat := 0
  still : Nat := 0
  /-- Speed at the demand of the safe stop. R399 (10) -/
  w0 : Rat := 0
  deriving DecidableEq, Repr, Inhabited

/-- The safety island: always on; reset by cold resets only (R614). -/
structure Island where
  /-- Island time in µs: ten more at each sample of the safety inputs. 32 bits in the message; R403 (10); log 4 -/
  us : Nat := 0
  /-- The self-test has passed. R370 (10) -/
  tested : Bool := false
  /-- Island fault. R368 (10) -/
  fault : Bool := false
  /-- Disagreements in a row of the two channels. R367 (10) -/
  differ : Nat := 0
  /-- Output levels: EMIT_EN_A, EMIT_EN_B, BRK_A, BRK_B, TQOFF_A, TQOFF_B. 6 bits; R373, S0 (10) -/
  out : BitVec 6 := 0
  /-- The state logic requests RUN, as it has reached the island. R65 (02), R382 (10) -/
  run : Bool := false
  /-- Emission inhibit that the island sends. R383 (10), R243 (06); low outputs inhibit (log 26) -/
  inhibit : Bool := true
  /-- Staged values that differ from the defaults, key index·8 + instance. R410 (10) -/
  staged : Tab Nat := []
  /-- Active parameter set, none when there is no valid one: values that differ from the defaults. R410 (10) -/
  active : Option (Tab Nat) := none
  /-- Filtered levels of the A and of the B inputs. 8 bits each; R377 (10); DESIGN CHOICE 0 (log 25) -/
  fa : BitVec 8 := 0
  fb : BitVec 8 := 0
  /-- Samples in a row that differ from the filtered level, key pair. R377 (10) -/
  runA : Tab Nat := []
  runB : Tab Nat := []
  /-- Samples in a row with filtered A and B equal, key pair. R379 (10) -/
  eq : Tab Nat := []
  /-- Pair states, key pair: 0 none, 1 demand, 2 awaiting acknowledgement, 3 discrepancy fault. 2 bits each; R378 (10) -/
  pair : Tab Nat := []
  /-- Encoder functions of channels A and B. R366, R384 (10) -/
  encA : IslEnc := {}
  encB : IslEnc := {}
  /-- Island time of the last bucket boundary, in sixteenths of a µs. R389 (10); log 4 -/
  bucketAt : Nat := 0
  /-- Bucket sums in nJ of channels A (0) and B (1), key (channel·1,024 + sector)·17 + age. R389 (10) -/
  buckets : Tab Nat := []
  /-- Energy-limit inhibit; its latch; island times of the inhibits of the last 10 s; their count. 32 bits; R390, R391,
  SAF_STATUS_GET W6 (10) -/
  enInh : Bool := false
  enLatch : Bool := false
  enTimes : List Nat := []
  enCount : Nat := 0
  /-- Pulse-limit inhibit. R390 (10) -/
  pulse : Bool := false
  /-- Stray pulse flag. R388 (10) -/
  stray : Bool := false
  /-- Sub-pulses seen since the last comparison, and mismatches. R372 (10) -/
  pulses : Nat := 0
  mismatch : Nat := 0
  /-- Stop state. 3 bits; R402 (10) -/
  stop : Nat := 0
  /-- Demands for a safe stop or torque off that stand and have been reacted to: bits 0 to 7 the pairs, 8 a message demand, 9 a
  message fault, 10 an output fault. R68, R378, R398 (10) -/
  reacted : Nat := 0
  /-- Island time at the demand of the safe stop. R399 (10) -/
  since : Nat := 0
  /-- The motion control engine's copy of SAF_SS_DECEL and SAF_SS_JERK, written when a set becomes active. R398 (10) -/
  ssCopy : Nat × Nat := (2560, 5120)
  /-- Safe-stop command that the island sends: deceleration and jerk. R398 (10) -/
  command : Option (Nat × Nat) := none
  /-- The brake has been dropped and the torque-off outputs wait for its feedback: 1 in a normal stop, 2 in a safe stop, 3
  after torque off. R392, R400, R401 (10) -/
  holding : Nat := 0
  /-- The stop report to the state logic. R402 (10) -/
  report : Bool := false
  /-- The rest report has reached the island. R392 (10) -/
  rest : Bool := false
  /-- Island time at which TQOFF rose and the brake's release waits. R393 (10) -/
  rising : Option Nat := none
  /-- The brake-released report. R393 (10) -/
  released : Bool := false
  /-- Levels of BRK_FB_A and BRK_FB_B. 2 bits; R394 (10); DESIGN CHOICE 0 (log 25) -/
  fbk : BitVec 2 := 0
  /-- Island time of the last change of each brake output or feedback, key channel. R394 (10) -/
  fbAt : Tab Nat := []
  /-- Brake feedback fault latched. R394 (10) -/
  fbFault : Bool := false
  /-- Brake test in progress. R396 (10) -/
  test : Option BrakeTest := none
  /-- Events sent: test due, brake unavailable. R395 (10) -/
  due : Bool := false
  gone : Bool := false
  /-- Output faults latched, as the bits of out. 6 bits; R375, R376 (10) -/
  outFault : BitVec 6 := 0
  /-- s_last, once a pair has matched. 32 bits; R406 (10) -/
  sLast : Option Word := none
  /-- Copies that wait for their pair. R407 (10) -/
  copies : List MsgCopy := []
  /-- Demands made by messages: emission stop, safe stop, torque off. 3 bits; R407 (10) -/
  demand : BitVec 3 := 0
  /-- Message fault latched. R407 (10) -/
  msgFault : Bool := false
  /-- Island time at which the message timer started. R407 (10) -/
  msgAt : Nat := 0
  /-- Message mismatches and unmatched copies. 32 bits each; SAF_STATUS_GET (10) -/
  msgBad : Nat := 0
  msgLone : Nat := 0
  /-- A device event of R382: power-fail warning, reference loss or chip-level fault. R382 (10) -/
  event : Bool := false
  /-- Status message: next sequence; S0, S1, S2, S5 of the last one; island time of the last one built for a change. R403
  (10) -/
  seq : Nat := 0
  told : List Word := []
  toldAt : Nat := 0
  /-- Periods in a row in which the fabric took no message. R405 (10) -/
  untaken : Nat := 0
  /-- Faults reported by event 0A05h since they were clear, as the bits of S2. 13 bits; R446 table (11) -/
  shown : Nat := 0
  deriving DecidableEq, Repr, Inhabited


/-! ### Class S -/

/-- Class S items (R13): kept through warm resets and device states but OFF (R614). -/
structure Kept where
  /-- Banks 0 and 1. R203 (06) -/
  bank0 : Bank := {}
  bank1 : Bank := {}
  /-- Active bank. 1 bit; R208 (06) -/
  active : Nat := 0
  /-- The inactive bank is armed. R210 (06) -/
  armed : Bool := false
  /-- Frame sequence of the frame in progress, or of the next one while no frame is in progress. 32 bits; R209 (06) -/
  frame : Nat := 0
  /-- Hop delay from the upstream neighbour in 1/256 fine-time unit, none when not held. 32 bits; R508 (13) -/
  hopUp : Option Nat := none
  /-- Hop delay to the downstream neighbour, none when not held. 32 bits; R508 (13) -/
  hopDown : Option Nat := none
  /-- Hop delays reported for addresses 1 to 7, key address. R527 (13) -/
  hops : Tab Nat := []
  deriving DecidableEq, Repr, Inhabited

/-! ### Class P, the journal and the whole state -/

/-- The class P items: parameters and tables that the journal holds (R13, R579). -/
structure ClassP where
  /-- Parameters that differ from their defaults, key subject·2²⁴ + index·2¹⁶ + instance. R13 (00) -/
  par : Tab Nat := []
  /-- Domain configuration. 96 bits; R642 (02) -/
  dom : BitVec 96 := BitVec.allOnes 96
  /-- Destination entries, key destination. Eight words; R419 (11) -/
  dest : Tab (List Word) := []
  /-- Queue bindings, key queue. R421 (11) -/
  bind : Tab Binding := []
  /-- Boot record. R479 (12) -/
  boot : BootRec := {}
  /-- Board table, empty when none is held. R603 (16) -/
  bt : List Word := []
  /-- Coefficient sets loaded, key channel. R647 (05) -/
  coef : Tab Coef := []
  /-- Coincidence patterns, key block·16 + pattern. Two words; R186 (05) -/
  coinc : Tab (List Word) := []
  /-- Capture profiles, key profile. Three words; R253 (07) -/
  profs : Tab (List Word) := []
  /-- Timing tables, key channel·8 + table. R643 (05) -/
  timing : Tab (List Word) := []
  /-- Interleave start values, key channel: offsets A and B, gains A and B, skew. R131 (04) -/
  inter : Tab (List Int) := []
  /-- Gain ratio of each channel in 1/256, key channel. 13 bits; R645 (04) -/
  ratio : Tab Nat := []
  /-- Calibration status of each channel, key channel. 3 bits; R567 (15) -/
  calSt : Tab Nat := []
  /-- Scan-table entries, key slot. Two words; R532 (14) -/
  slots : Tab (List Word) := []
  /-- User curves, key table: 32 points code and value. R538 (14) -/
  curves : Tab (List (Int × Int)) := []
  /-- Calibrated housekeeping values in ppm of nominal, key: ranges 0 to 2, 2.500 V source 3, excitation codes 1 to 5
  of source n at 8 + 8·n + code. R537 (14), R559 (15) -/
  hkCal : Tab Int := []
  /-- Committed safety parameter set, none when the journal holds none: values that differ from the defaults, key
  index·8 + instance. R410 (10) -/
  saf : Option (Tab Nat) := none
  /-- The check committed with it. 32 bits; R410 (10) -/
  safCheck : Word := 0
  /-- Last brake test result that counts: 0 pass, 1 fail, 3 none yet. 2 bits; R397 (10); 3 on a new device -/
  brake : Nat := 3
  /-- Emitter health, key string·16 + emitter. 2 bits; R231 (06) -/
  health : Tab Nat := []
  /-- Proof results, key string·16 + emitter. 3 bits; R234 (06) -/
  proof : Tab Nat := []
  /-- String states, key string: state code, disable cause, failures. R230 (06) -/
  strings : Tab (Nat × Nat × Nat) := []
  /-- Strings whose re-enabling waits for the frame boundary, bit k = string k. R250 (06) -/
  enable : Nat := 0
  deriving DecidableEq, Repr, Inhabited

/-- Instances k, k + step, … of a class P table in a journal record: one value for all n of them, or n values; none, an empty
payload, stands for the default (R579; log 90). -/
structure JVal (α : Type) where
  k : Nat
  n : Nat
  vs : List (Option α)
  deriving DecidableEq, Repr, Inhabited

/-- What a journal record holds: class P items (R13, R579), the wear counters (R591), a snapshot's begin record and its retired
blocks (R584, R587). -/
inductive JItem where
  | begin_
  | par (x : JVal Nat)
  | dom (d : BitVec 96)
  | dest (x : JVal (List Word))
  | bind (x : JVal Binding)
  | boot (b : BootRec)
  | bt (ws : List Word)
  | coef (x : JVal Coef)
  | coinc (x : JVal (List Word))
  | prof (x : JVal (List Word))
  | timing (x : JVal (List Word))
  | inter (x : JVal (List Int))
  | ratio (x : JVal Nat)
  | calSt (x : JVal Nat)
  | slot (x : JVal (List Word))
  | curve (x : JVal (List (Int × Int)))
  | hkCal (x : JVal Int)
  | saf (t : Option (Tab Nat)) (check : Word)
  | brake (v : Nat)
  | health (x : JVal Nat)
  | proof (x : JVal Nat)
  | string (x : JVal (Nat × Nat × Nat))
  | enable (v : Nat)
  | wear (w : Wear)
  | retired (a : Nat)
  deriving DecidableEq, Repr, Inhabited

/-- A transaction or snapshot in the journal's pages (R579, R586). -/
structure JTxn where
  /-- Transaction sequence. 32 bits; R579 (16) -/
  seq : Nat
  /-- It is a snapshot. R584 (16) -/
  snap : Bool := false
  /-- Subject of its first record. 8 bits; R579 (16) -/
  subj : Nat := 15
  /-- Its records in the order of its pages. R579 (16) -/
  recs : List JItem
  /-- The six words of its commit record; empty where it has none. R579, R580 (16) -/
  commit : List Word := []
  /-- Sequence of the block that its first page is in. R585 (16) -/
  blk : Nat := 0
  deriving DecidableEq, Repr, Inhabited

/-- A journal transaction in progress. -/
structure Txn where
  /-- Transaction sequence. 32 bits; R579 (16) -/
  seq : Nat
  /-- Subject of its first record. 8 bits; R579 (16) -/
  subj : Nat
  /-- Its records. R579 (16) -/
  recs : List JItem := []
  /-- Its pages, and those still to be programmed. R579, R582 (16) -/
  pages : Nat := 1
  left : Nat
  /-- Sequence of the block that its first page is in, none before that. R585 (16) -/
  blk : Option Nat := none
  /-- Pages that failed read-back. R587 (16) -/
  failed : Nat := 0
  /-- What waits for the commit. R580 (16) -/
  waiter : Waiter
  /-- Wear counters that the transaction holds, if it holds any. R579 (16) -/
  wear : Option Wear := none
  /-- The transaction is the wear transaction of the power-fail sequence. R588 (16) -/
  powerFail : Bool := false
  deriving DecidableEq, Repr, Inhabited

/-- A compaction in progress. -/
structure Compaction where
  /-- Transaction sequence of the snapshot. R584 (16) -/
  seq : Nat
  /-- Records taken into pages so far, as they stood then. R584 (16) -/
  recs : List JItem := []
  /-- Place of the last record taken in the order of the items plus 1, 0 none. R584 (16) -/
  place : Nat := 0
  /-- Bytes of the records taken that no page has held yet, at first the begin record's. R584 (16) -/
  carry : Nat := 16
  /-- Pages written so far. R579 (16) -/
  pages : Nat := 0
  /-- Sequence of the block that holds the begin record, none before its page is written. R585 (16) -/
  beginBlock : Option Nat := none
  /-- Blocks that had been opened since the snapshot before it when its begin record was written. R583 (16) -/
  opened : Nat := 0
  /-- Pages that failed read-back. R587 (16) -/
  failed : Nat := 0
  deriving DecidableEq, Repr, Inhabited

/-- The journal in the flash (R577 to R593). -/
structure Journal where
  /-- Class P as the committed records leave it. R586 (16) -/
  held : ClassP := {}
  /-- Wear counters as the committed records leave them. R591 (16) -/
  wear : Wear := {}
  /-- Transaction in progress, other than a snapshot. R581 (16) -/
  txn : Option Txn := none
  /-- Sequence of the next transaction. 32 bits; JNL_STATUS_GET (16) -/
  next : Nat := 1
  /-- Sequence of the newest committed transaction, 0 none. 32 bits; JNL_STATUS_GET (16) -/
  last : Nat := 0
  /-- Read-only; it stays so through every reset (DESIGN CHOICE, log 79). R587 (16) -/
  readOnly : Bool := false
  /-- Transactions and snapshots in its pages, oldest first. R579, R586 (16) -/
  log : List JTxn := []
  /-- A transaction was ignored at the last boot. JNL_STATUS_GET (16) -/
  ignoredAtBoot : Bool := false
  /-- Journal blocks, key block number in the journal. R585 (16) -/
  blocks : Tab JBlock := []
  /-- Block being written, none before the first transaction. R585 (16) -/
  cur : Option Nat := none
  /-- Pages used in it, the header included. R578 (16) -/
  page : Nat := 0
  /-- Sequence of the next block opened. R578 (16) -/
  blockSeq : Nat := 1
  /-- Blocks opened since the begin record of the newest committed snapshot. R583 (16) -/
  opened : Nat := 0
  /-- Compaction in progress. R583 (16) -/
  comp : Option Compaction := none
  /-- Live state in the last snapshot, in bytes. JNL_STATUS_GET (16) -/
  live : Nat := 0
  /-- Block being erased. R585 (16) -/
  erasing : Option Nat := none
  /-- Capacity of the fitted flash in MiB: 64, 128 or 256. R577 (16); 64 (log 7) -/
  mib : Nat := 64
  /-- Wear events enqueued: 0 none, 1 at 80 %, 2 at 100 %. R593 (16) -/
  wearWarn : Nat := 0
  deriving DecidableEq, Repr, Inhabited

/-- A performance counter (R596). -/
structure Perf where
  /-- Configuration words W0 and W1. R596 (16) -/
  c0 : Word := 0
  /-- Location mask word. R596 (16) -/
  c1 : Word := 0
  /-- Value. 48 bits; R599 (16) -/
  v : Nat := 0
  /-- Sticky overflow. R599 (16) -/
  ovf : Bool := false
  deriving DecidableEq, Repr, Inhabited

/-- Observation: counters and scrub counts. -/
structure Obs where
  /-- Performance counters 0 to 351. R596 (16) -/
  perf : Tab Perf := []
  /-- Patrol passes. 32 bits; JNL_STATUS_GET (16) -/
  passes : Nat := 0
  /-- Scrub corrections. 32 bits; JNL_STATUS_GET (16) -/
  corrections : Nat := 0
  deriving DecidableEq, Repr, Inhabited

/-- The whole state. -/
structure State where
  /-- Commands that wait, first in first out. Model's own; empty (log 1) -/
  pending : List Instr := []
  /-- Draws of free values so far. Model's own; 0, DESIGN CHOICE 0 (log 5) -/
  free : Nat := 0
  fuse : Fuses := {}
  p : ClassP := {}
  /-- In-force values of parameters whose written value is not in force yet, key as in ClassP.par. R13 (00), R198 (05) -/
  lag : Tab Nat := []
  /-- Values whose frame boundary has passed and that wait for a permitted instant, key as in ClassP.par. R198 (05) -/
  ready : Tab Nat := []
  /-- Coincidence patterns in force where a newer one is written and waits, key block·16 + pattern. R199 (05) -/
  coincNow : Tab (List Word) := []
  /-- Capture profiles in force where a newer one is written and waits, key profile. R253 (07) -/
  profNow : Tab (List Word) := []
  wear : Wear := {}
  jnl : Journal := {}
  /-- Words of the firmware slots written since their last erase, key slot·6,291,456 + offset. 32 bits each; R487
  (12); a new device holds none (log 6) -/
  slot : Tab Word := []
  boot : Boot := {}
  pwr : Power := {}
  tb : TimeBase := {}
  eth : Eth := {}
  ske : Skeic := {}
  enum : Enum := {}
  ch : Chain := {}
  /-- Cells, key channel 0 to 511. R40 (01) -/
  cells : Tab Cell := []
  /-- Blocks, key 0 to 31. R40 (01) -/
  blocks : Tab Block := []
  hk : Hk := {}
  therm : Therm := {}
  cal : Cal := {}
  /-- Regions, key 0 to 7. R40 (01) -/
  regions : Tab Region := []
  /-- Memory channels, key 0 to 7. R269 (07) -/
  mem : Tab MemCh := []
  cq : Cq := {}
  /-- FE_BIAS_TEST in progress. R154 (04) -/
  biasTest : Option BiasTest := none
  look : Look := {}
  /-- Board-table word of the memory configuration in use since the last training: rate 12,800 MT/s, 16 GiB, 1 rank.
  21 bits; R269 (07) -/
  memCfg : Word := 0x000C3200
  lad : Ladder := {}
  rej : Rej := {}
  /-- Estimator of foreign trains. R311 (08) -/
  est : Est := {}
  kept : Kept := {}
  seq : Seq := {}
  mc : Motion := {}
  isl : Island := {}
  obs : Obs := {}
  deriving DecidableEq, Repr, Inhabited

/-- The machine right after the power-on reset of a new device: power-on release has been taken and the power-up
sequence has started (R60, R606); nothing is programmed but the part number, the journal is empty (log 6). -/
def State.reset : State := {}

end Sys2Proof.Machine
end

