-- ==== Sys2Proof/Machine/Params.lean ====
section
/-! DEFINITION. The parameters of every chapter: index, width, range, default, number of instances and the instant at
which a written value comes into force (R13, and the rule of each chapter's parameter table). -/
namespace Sys2Proof.Machine

/-- When a written parameter comes into force. -/
inductive Eff where
  /-- At once. -/
  | now
  /-- At the next frame boundary. -/
  | frame
  /-- At the channel's next permitted instant (R117). -/
  | permitted
  /-- At the channel's first permitted instant at or after the next frame boundary. -/
  | permFrame
  /-- At the next stamp or the next frame boundary (R109). -/
  | stampFrame
  /-- For the shots of the next frame; shots of the earlier frame finish under the old value. -/
  | shots
  /-- At the channel's next gap of R138, as an action of its own. -/
  | bias
  /-- At the next housekeeping scan cycle. -/
  | hkCycle
  /-- At the next reset of the charge amplifier. -/
  | caReset
  /-- At the next latch tick (R210). -/
  | latch
  /-- At the next thermal record. -/
  | thermal
  /-- At the next power-up of the control engine's domain 88. -/
  | ctrlPower
  /-- At the start of the next region's calibration run (R574). -/
  | nextRun
  /-- At the next power-up sequence (R73). -/
  | powerUp
  /-- At the next sunlit evaluation. -/
  | sunlit
  /-- At the next stamp of the foreign-train estimator. -/
  | estimator
  /-- At the next ladder sample. -/
  | ladder
  /-- At the next look-back freeze. -/
  | freeze
  /-- At the next loop instant of the mirror loop. -/
  | mirror
  /-- At the next loop instant of the spin loop. -/
  | spin
  /-- At the next loop instant of either axis: parameters of the oscillation reaction, which only loop instants read. -/
  | osc
  /-- Never by writing: the parameter is read-only. -/
  | readOnly
  deriving DecidableEq, Repr, Inhabited

/-- A parameter. -/
structure Par where
  /-- Opcode high byte. -/
  subj : Nat
  /-- Index. -/
  idx : Nat
  /-- Width in bits. -/
  bits : Nat
  /-- Smallest and largest value (signed parameters as integers). -/
  lo : Int := 0
  hi : Int
  /-- Default, as the field's bits. -/
  dflt : Nat := 0
  /-- Two's complement. -/
  signed : Bool := false
  /-- Number of instances; 1 device-wide. -/
  insts : Nat := 1
  eff : Eff := .now
  /-- A value outside lo to hi that is allowed as well (0 as never or none). -/
  also : Option Nat := none
  deriving DecidableEq, Repr, Inhabited

/-- The key of a parameter's instance. -/
def parKey (subj idx inst : Nat) : Nat := subj * 2 ^ 24 + idx * 2 ^ 16 + inst

/-- The value is in the parameter's stated range (R474: outside it is a host error). -/
def Par.ok (p : Par) (v : Nat) : Bool :=
  v < 2 ^ p.bits &&
    (p.also == some v ||
      (let i : Int := if p.signed then sgn p.bits v else (v : Int)
       decide (p.lo ≤ i) && decide (i ≤ p.hi)))

/-! ### 01xxh Skeic (R486) -/

def SKE_IDLE_S : Par := { subj := 1, idx := 0, bits := 16, hi := 65535, dflt := 300 }
def SKE_WAKE_SEQ : Par := { subj := 1, idx := 1, bits := 32, hi := 4294967295, eff := .readOnly }

/-! ### 02xxh power (R72) -/

def PWR_BOOT_STATE : Par := { subj := 2, idx := 0, bits := 3, lo := 1, hi := 2, dflt := 2 }
def PWR_WAKE_PORT : Par := { subj := 2, idx := 1, bits := 1, hi := 1 }
def VMEM1_MV : Par := { subj := 2, idx := 2, bits := 12, lo := 1700, hi := 1950, dflt := 1800, eff := .powerUp }
def VMEM2_MV : Par := { subj := 2, idx := 3, bits := 12, lo := 850, hi := 1100, dflt := 1000, eff := .powerUp }
def VMEMQ_MV : Par := { subj := 2, idx := 4, bits := 12, lo := 450, hi := 600, dflt := 500, eff := .powerUp }

/-! ### 03xxh time base (R109) -/

def TB_SOURCE : Par := { subj := 3, idx := 0, bits := 2, hi := 2, dflt := 1, eff := .stampFrame }
def TB_AS_PORTS : Par := { subj := 3, idx := 1, bits := 2, hi := 3, dflt := 3, eff := .stampFrame }
def TB_FIT_COUNT : Par := { subj := 3, idx := 2, bits := 7, lo := 4, hi := 64, dflt := 16, eff := .stampFrame }
def TB_FIT_TIMEOUT_MS : Par :=
  { subj := 3, idx := 3, bits := 16, lo := 100, hi := 60000, dflt := 4000, eff := .stampFrame }
def TB_SLEW_PPB : Par := { subj := 3, idx := 4, bits := 16, lo := 100, hi := 50000, dflt := 10000, eff := .stampFrame }
def TB_STEP_NS : Par :=
  { subj := 3, idx := 5, bits := 32, lo := 1000, hi := 1000000000, dflt := 1000000, eff := .stampFrame }
def TB_GM_PRIORITY1 : Par := { subj := 3, idx := 6, bits := 8, hi := 255, dflt := 255, eff := .stampFrame }
def TB_PPS_OUT_WIDTH_US : Par :=
  { subj := 3, idx := 7, bits := 19, hi := 500000, dflt := 100000, eff := .stampFrame }
def TB_PPS_IN_DELAY_NS : Par :=
  { subj := 3, idx := 8, bits := 16, lo := -32768, hi := 32767, signed := true, eff := .stampFrame }

/-! ### 04xxh front end (R152, R153) -/

def FE_GAIN_MODE : Par := { subj := 4, idx := 0, bits := 2, hi := 2, insts := 512, eff := .permitted }
def FE_GAIN_UP_WINDOWS : Par := { subj := 4, idx := 1, bits := 8, lo := 1, hi := 255, dflt := 16, eff := .frame }
def FE_INPUT_BIAS_MV : Par :=
  { subj := 4, idx := 2, bits := 11, lo := 400, hi := 1200, dflt := 800, insts := 512, eff := .bias }
def FE_POLARITY : Par := { subj := 4, idx := 3, bits := 1, hi := 1, insts := 512, eff := .permitted }
def FE_SHORT_UA : Par := { subj := 4, idx := 4, bits := 9, lo := 10, hi := 490, dflt := 200, eff := .frame }
def FE_OPEN_PF : Par := { subj := 4, idx := 5, bits := 8, lo := 1, hi := 100, dflt := 3, eff := .frame }
def FE_BIAS_TEST_INTERVAL_MS : Par :=
  { subj := 4, idx := 6, bits := 16, lo := 10, hi := 60000, dflt := 1000, eff := .frame, also := some 0 }
def FE_CODE_FORMAT : Par := { subj := 4, idx := 7, bits := 2, hi := 3, dflt := 1, eff := .frame }
def FE_INTERLEAVE_TRACK : Par := { subj := 4, idx := 8, bits := 1, hi := 1, dflt := 1, eff := .frame }

/-! ### 05xxh detection (R197, R198) -/

def DET_BL_SHIFT : Par := { subj := 5, idx := 0, bits := 5, lo := 6, hi := 16, dflt := 12, eff := .frame }
def DET_BL_CLIP : Par := { subj := 5, idx := 1, bits := 5, lo := 2, hi := 31, dflt := 6, eff := .frame }
def DET_NOISE_SHIFT : Par := { subj := 5, idx := 2, bits := 5, lo := 8, hi := 20, dflt := 14, eff := .frame }
def DET_THR_K : Par := { subj := 5, idx := 3, bits := 10, lo := 16, hi := 1023, dflt := 80, insts := 512, eff := .frame }
def DET_THR_FLOOR_HI : Par :=
  { subj := 5, idx := 4, bits := 12, lo := 4, hi := 4092, dflt := 32, insts := 512, eff := .permFrame }
def DET_THR_FLOOR_LO : Par :=
  { subj := 5, idx := 5, bits := 12, lo := 4, hi := 4092, dflt := 16, insts := 512, eff := .permFrame }
def DET_ECHO_POLICY : Par := { subj := 5, idx := 6, bits := 1, hi := 1, insts := 512, eff := .shots }
def DET_CODE_TOL_TK : Par := { subj := 5, idx := 7, bits := 2, hi := 3, dflt := 1, eff := .shots }
def DET_COINC_WINDOW_TK : Par := { subj := 5, idx := 8, bits := 4, hi := 15, dflt := 2, insts := 32, eff := .shots }
def DET_LOW_CONF : Par := { subj := 5, idx := 9, bits := 8, lo := 1, hi := 255, dflt := 48, eff := .shots }
def DET_NORETURN_MODE : Par := { subj := 5, idx := 10, bits := 1, hi := 1, insts := 512, eff := .shots }
def DET_SKEW_TRACK : Par := { subj := 5, idx := 11, bits := 1, hi := 1, dflt := 1, eff := .shots }

/-! ### 06xxh shots (R247) -/

def SHOT_EMS_CLK : Par := { subj := 6, idx := 0, bits := 2, hi := 2, eff := .frame }
def SHOT_EMS_SETTLE_NS : Par := { subj := 6, idx := 1, bits := 10, hi := 1000, dflt := 150, eff := .frame }
def SHOT_MIN_GAP_NS : Par := { subj := 6, idx := 2, bits := 10, lo := 20, hi := 1000, dflt := 100, eff := .frame }
def SHOT_DIAG_DELAY : Par := { subj := 6, idx := 3, bits := 6, hi := 63, dflt := 16, eff := .frame }
def SHOT_VF_MV : Par := { subj := 6, idx := 4, bits := 10, lo := 10, hi := 600, dflt := 60, insts := 8, eff := .frame }
def SHOT_V0_MV : Par := { subj := 6, idx := 5, bits := 10, hi := 600, dflt := 50, insts := 8, eff := .frame }
def SHOT_IOPEN_MV : Par := { subj := 6, idx := 6, bits := 10, lo := 10, hi := 900, dflt := 100, eff := .frame }
def SHOT_IMAX_MV : Par := { subj := 6, idx := 7, bits := 10, lo := 20, hi := 1000, dflt := 900, eff := .frame }
def SHOT_DIAG_CONFIRM : Par := { subj := 6, idx := 8, bits := 4, lo := 1, hi := 15, dflt := 3, eff := .frame }
def SHOT_HEAT_NJ_PER_NS : Par :=
  { subj := 6, idx := 9, bits := 16, lo := 1, hi := 65535, dflt := 25600, eff := .frame }
def SHOT_HEAT_SHIFT : Par := { subj := 6, idx := 10, bits := 5, lo := 2, hi := 16, dflt := 6, eff := .frame }
def SHOT_HEAT_LIMIT_NJ : Par := { subj := 6, idx := 11, bits := 24, hi := 16777215, dflt := 20000, eff := .frame }
def SHOT_AGE_WARN : Par := { subj := 6, idx := 12, bits := 16, hi := 65535, eff := .frame }

/-! ### 07xxh capture (R288) -/

def CAP_LADDER_MAX_STEP : Par := { subj := 7, idx := 0, bits := 2, hi := 3, dflt := 3, eff := .ladder }
def CAP_LADDER_HI_PCT : Par := { subj := 7, idx := 1, bits := 7, lo := 10, hi := 95, dflt := 50, eff := .ladder }
def CAP_LADDER_LO_PCT : Par := { subj := 7, idx := 2, bits := 7, lo := 5, hi := 90, dflt := 25, eff := .ladder }
def CAP_LB_POST_MS : Par := { subj := 7, idx := 3, bits := 14, hi := 10000, dflt := 500, eff := .freeze }
def CAP_LB_TRIGGERS : Par := { subj := 7, idx := 4, bits := 4, hi := 15, dflt := 3, eff := .freeze }

/-! ### 08xxh rejection (R327) -/

def REJ_SUN_UA : Par := { subj := 8, idx := 0, bits := 9, lo := 5, hi := 490, dflt := 20, eff := .sunlit }
def REJ_SUN_BL_SHIFT : Par := { subj := 8, idx := 1, bits := 5, lo := 6, hi := 16, dflt := 8, eff := .sunlit }
def REJ_SUN_NOISE_SHIFT : Par := { subj := 8, idx := 2, bits := 5, lo := 8, hi := 20, dflt := 10, eff := .sunlit }
def REJ_WX_ENABLE : Par := { subj := 8, idx := 3, bits := 1, hi := 1, dflt := 1, eff := .shots }
def REJ_WX_RANGE_TK : Par := { subj := 8, idx := 4, bits := 13, lo := 16, hi := 6400, dflt := 640, eff := .shots }
def REJ_NOMINAL_WIDTH : Par := { subj := 8, idx := 5, bits := 8, lo := 8, hi := 255, dflt := 24, eff := .shots }
def REJ_WIDE_PCT : Par := { subj := 8, idx := 6, bits := 9, lo := 110, hi := 400, dflt := 160, eff := .shots }
def REJ_RAIN_INT : Par := { subj := 8, idx := 7, bits := 16, lo := 1, hi := 65535, dflt := 400, eff := .shots }
def REJ_NEIGHBOUR_TK : Par := { subj := 8, idx := 8, bits := 4, hi := 15, dflt := 3, eff := .shots }
def REJ_SOLID_CONF : Par := { subj := 8, idx := 9, bits := 8, lo := 1, hi := 255, dflt := 200, eff := .shots }
def REJ_WX_RETRACT : Par := { subj := 8, idx := 10, bits := 4, hi := 15, dflt := 6, eff := .shots }
def REJ_GROUP_SHOTS : Par := { subj := 8, idx := 11, bits := 3, hi := 4, dflt := 2, eff := .shots }
def REJ_GROUP_MIN : Par := { subj := 8, idx := 12, bits := 3, lo := 1, hi := 4, dflt := 1, eff := .shots }
def REJ_GROUP_TOL_TK : Par := { subj := 8, idx := 13, bits := 6, lo := 1, hi := 63, dflt := 8, eff := .shots }
def REJ_GROUP_BYPASS_CONF : Par := { subj := 8, idx := 14, bits := 8, lo := 1, hi := 255, dflt := 160, eff := .shots }
def REJ_FOREIGN_HOLD_US : Par := { subj := 8, idx := 15, bits := 6, hi := 48, dflt := 16, eff := .shots }
def REJ_GATE_US : Par := { subj := 8, idx := 16, bits := 9, lo := 25, hi := 400, dflt := 100, eff := .estimator }
def REJ_PERIOD_MIN_NS : Par :=
  { subj := 8, idx := 17, bits := 15, lo := 100, hi := 25000, dflt := 1000, eff := .estimator }
def REJ_TRACK_TOL_TK : Par := { subj := 8, idx := 18, bits := 4, lo := 1, hi := 15, dflt := 2, eff := .estimator }
def REJ_MASK_TK : Par := { subj := 8, idx := 19, bits := 3, hi := 7, dflt := 2, eff := .estimator }
def REJ_ADJ_TK : Par := { subj := 8, idx := 20, bits := 4, hi := 15, dflt := 8, eff := .shots }
def REJ_STAMP_MIN_CONF : Par := { subj := 8, idx := 21, bits := 8, hi := 255, dflt := 32, eff := .estimator }
def REJ_TRAIN_REPORT_MS : Par := { subj := 8, idx := 22, bits := 16, hi := 60000, dflt := 100, eff := .estimator }

/-! ### 09xxh motion (R362) -/

def MC_AXES : Par := { subj := 9, idx := 0, bits := 2, hi := 3, dflt := 3, eff := .ctrlPower }
def MC_MIR_VMAX : Par := { subj := 9, idx := 1, bits := 16, lo := 1, hi := 65535, dflt := 5000, eff := .mirror }
def MC_MIR_AMAX : Par := { subj := 9, idx := 2, bits := 24, lo := 1, hi := 16777215, dflt := 20000, eff := .mirror }
def MC_MIR_JMAX : Par := { subj := 9, idx := 3, bits := 24, lo := 1, hi := 16777215, dflt := 2000000, eff := .mirror }
def MC_MIR_KP : Par := { subj := 9, idx := 4, bits := 32, hi := 4294967295, eff := .mirror }
def MC_MIR_KI : Par := { subj := 9, idx := 5, bits := 32, hi := 4294967295, eff := .mirror }
def MC_MIR_KD : Par := { subj := 9, idx := 6, bits := 32, hi := 4294967295, eff := .mirror }
def MC_MIR_KFF : Par := { subj := 9, idx := 7, bits := 32, hi := 4294967295, eff := .mirror }
def MC_MIR_SENS_GAIN : Par := { subj := 9, idx := 8, bits := 32, lo := -2147483648, hi := 2147483647, dflt := 65536, signed := true, eff := .mirror }
def MC_MIR_SENS_OFFSET : Par := { subj := 9, idx := 9, bits := 24, lo := -8388608, hi := 8388607, signed := true, eff := .mirror }
def MC_MIR_PARK : Par := { subj := 9, idx := 10, bits := 16, lo := -32768, hi := 32767, signed := true, eff := .mirror }
def MC_ENC_LINES : Par := { subj := 9, idx := 11, bits := 16, lo := 256, hi := 32768, dflt := 4096, eff := .ctrlPower }
def MC_SPIN_ZERO : Par := { subj := 9, idx := 12, bits := 32, hi := 4294967295, eff := .spin }
def MC_SPIN_FRAMES_PER_REV : Par := { subj := 9, idx := 13, bits := 5, lo := 1, hi := 16, dflt := 1, eff := .spin }
def MC_SPIN_VMAX : Par := { subj := 9, idx := 14, bits := 16, lo := 1, hi := 10240, dflt := 6400, eff := .spin }
def MC_SPIN_AMAX : Par := { subj := 9, idx := 15, bits := 16, lo := 1, hi := 65535, dflt := 2560, eff := .spin }
def MC_SPIN_JMAX : Par := { subj := 9, idx := 16, bits := 16, lo := 1, hi := 65535, dflt := 5120, eff := .spin }
def MC_SPIN_KP_W : Par := { subj := 9, idx := 17, bits := 32, hi := 4294967295, eff := .spin }
def MC_SPIN_KI_W : Par := { subj := 9, idx := 18, bits := 32, hi := 4294967295, eff := .spin }
def MC_SPIN_KP_TH : Par := { subj := 9, idx := 19, bits := 32, hi := 4294967295, eff := .spin }
def MC_SPIN_KI_TH : Par := { subj := 9, idx := 20, bits := 32, hi := 4294967295, eff := .spin }
def MC_SPIN_KD_TH : Par := { subj := 9, idx := 21, bits := 32, hi := 4294967295, eff := .spin }
def MC_MOTOR_KT : Par := { subj := 9, idx := 22, bits := 16, lo := 1, hi := 65535, dflt := 100, eff := .spin }
def MC_MOTOR_KE : Par := { subj := 9, idx := 23, bits := 16, hi := 65535, dflt := 600, eff := .spin }
def MC_MOTOR_RS : Par := { subj := 9, idx := 24, bits := 16, lo := 1, hi := 65535, dflt := 500, eff := .spin }
def MC_MOTOR_IMAX : Par := { subj := 9, idx := 25, bits := 16, lo := 1, hi := 32767, dflt := 5000, eff := .spin }
def MC_SPIN_J : Par := { subj := 9, idx := 26, bits := 24, lo := 1, hi := 16777215, dflt := 20000, eff := .spin }
def MC_LINK_MODE : Par := { subj := 9, idx := 27, bits := 1, hi := 1, eff := .spin }
def MC_LINK_CLK : Par := { subj := 9, idx := 28, bits := 1, hi := 1, eff := .ctrlPower }
def MC_HANDOVER_TOL_PPM : Par := { subj := 9, idx := 29, bits := 16, lo := 100, hi := 50000, dflt := 2000, eff := .spin }
def MC_HANDOVER_ANGLE : Par := { subj := 9, idx := 30, bits := 16, lo := 1, hi := 65535, dflt := 64, eff := .spin }
def MC_HANDOVER_ABORT : Par := { subj := 9, idx := 31, bits := 16, lo := 1, hi := 32767, dflt := 1024, eff := .spin }
def MC_RELOCK_PPM : Par := { subj := 9, idx := 32, bits := 16, lo := 1, hi := 65535, dflt := 1000, eff := .spin }
def MC_OSC_AMPL_MIR : Par := { subj := 9, idx := 33, bits := 16, lo := 1, hi := 32767, dflt := 328, eff := .mirror }
def MC_OSC_AMPL_SPIN : Par := { subj := 9, idx := 34, bits := 16, lo := 1, hi := 65535, dflt := 256, eff := .spin }
def MC_OSC_COUNT : Par := { subj := 9, idx := 35, bits := 8, lo := 2, hi := 255, dflt := 20, eff := .osc }
def MC_OSC_WINDOW_MS : Par := { subj := 9, idx := 36, bits := 10, lo := 1, hi := 1000, dflt := 10, eff := .osc }
def MC_OSC_ACTION : Par := { subj := 9, idx := 37, bits := 2, hi := 2, dflt := 1, eff := .osc }

/-! ### 0Axxh safety (R410): values of the staged and active sets, outside ClassP.par -/

def SAF_SIN_FUNC : Par := { subj := 10, idx := 0, bits := 3, hi := 3, insts := 8 }
def SAF_SIN_RESTART : Par := { subj := 10, idx := 1, bits := 1, hi := 1, dflt := 1, insts := 8 }
def SAF_SIN_FILTER_US : Par := { subj := 10, idx := 2, bits := 15, lo := 100, hi := 20000, dflt := 1000 }
def SAF_SIN_DISC_MS : Par := { subj := 10, idx := 3, bits := 10, lo := 1, hi := 1000, dflt := 50 }
def SAF_ENC_LINES : Par := { subj := 10, idx := 4, bits := 16, lo := 256, hi := 32768, dflt := 4096 }
def SAF_STALL_RPS : Par := { subj := 10, idx := 5, bits := 16, hi := 10240, dflt := 1280 }
def SAF_STALL_FILTER_MS : Par := { subj := 10, idx := 6, bits := 7, lo := 1, hi := 100, dflt := 10 }
def SAF_SECTORS : Par := { subj := 10, idx := 7, bits := 11, lo := 1, hi := 1024, dflt := 256 }
def SAF_EN_WINDOW_MS : Par := { subj := 10, idx := 8, bits := 14, lo := 16, hi := 10000, dflt := 100 }
def SAF_EN_LIMIT_NJ : Par := { subj := 10, idx := 9, bits := 32, hi := 4294967295 }
def SAF_PULSE_LIMIT_NJ : Par := { subj := 10, idx := 10, bits := 24, hi := 16777215 }
def SAF_EN_GAIN : Par := { subj := 10, idx := 11, bits := 24, lo := 1, hi := 16777215, dflt := 16777215, insts := 8 }
def SAF_SS_DECEL : Par := { subj := 10, idx := 12, bits := 16, lo := 1, hi := 65535, dflt := 2560 }
def SAF_SS_JERK : Par := { subj := 10, idx := 13, bits := 16, lo := 1, hi := 65535, dflt := 5120 }
def SAF_SS_MON_DECEL : Par := { subj := 10, idx := 14, bits := 16, lo := 1, hi := 65535, dflt := 1920 }
def SAF_SS_MARGIN : Par := { subj := 10, idx := 15, bits := 16, hi := 65535, dflt := 128 }
def SAF_SS_DELAY_MS : Par := { subj := 10, idx := 16, bits := 10, hi := 1000, dflt := 200 }
def SAF_SS_TMAX_MS : Par := { subj := 10, idx := 17, bits := 16, lo := 100, hi := 60000, dflt := 3000 }
def SAF_STANDSTILL_RPS : Par := { subj := 10, idx := 18, bits := 16, lo := 1, hi := 2560, dflt := 26 }
def SAF_BRK_MAX_RPS : Par := { subj := 10, idx := 19, bits := 16, lo := 1, hi := 10240, dflt := 256 }
def SAF_BRK_FB_MS : Par := { subj := 10, idx := 20, bits := 8, lo := 1, hi := 255, dflt := 50 }
def SAF_BRK_TEST_H : Par := { subj := 10, idx := 21, bits := 14, lo := 1, hi := 8760, dflt := 168 }
def SAF_BRK_TEST_GRACE_H : Par := { subj := 10, idx := 22, bits := 14, hi := 8760, dflt := 24 }
def SAF_BRK_TEST_MA : Par := { subj := 10, idx := 23, bits := 16, lo := 1, hi := 32767, dflt := 2000 }
def SAF_BRK_TEST_COUNTS : Par := { subj := 10, idx := 24, bits := 8, lo := 1, hi := 255, dflt := 8 }
def SAF_TP_WIDTH : Par := { subj := 10, idx := 25, bits := 8, lo := 2, hi := 200, dflt := 10 }
def SAF_TP_PERIOD_MS : Par := { subj := 10, idx := 26, bits := 10, lo := 10, hi := 1000, dflt := 100 }
def SAF_MSG_MODE : Par := { subj := 10, idx := 27, bits := 1, hi := 1 }
def SAF_MSG_SOURCE_ID : Par := { subj := 10, idx := 28, bits := 32, hi := 4294967295 }
def SAF_MSG_TIMEOUT_MS : Par := { subj := 10, idx := 29, bits := 10, lo := 10, hi := 1000, dflt := 100 }
def SAF_MSG_SKEW_MS : Par := { subj := 10, idx := 30, bits := 8, lo := 1, hi := 255, dflt := 10 }
def SAF_MSG_FUNC : Par := { subj := 10, idx := 31, bits := 3, lo := 1, hi := 3, dflt := 1 }
def SAF_STATUS_PERIOD_MS : Par := { subj := 10, idx := 32, bits := 10, lo := 1, hi := 1000, dflt := 10 }
def SAF_STATUS_ID : Par := { subj := 10, idx := 33, bits := 32, hi := 4294967295 }

/-! ### 0Bxxh ports (R449) -/

def ETH_MODE : Par := { subj := 11, idx := 0, bits := 2, hi := 3, dflt := 1, insts := 2, eff := .readOnly }
def ETH_FEC : Par := { subj := 11, idx := 1, bits := 2, hi := 2, dflt := 2, insts := 2, eff := .readOnly }
def ETH_MTU : Par := { subj := 11, idx := 2, bits := 14, lo := 1518, hi := 9216, dflt := 9216, insts := 2 }
def ETH_VID : Par := { subj := 11, idx := 3, bits := 12, hi := 4094, insts := 2 }
def ETH_IPV4_ADDR : Par := { subj := 11, idx := 4, bits := 32, hi := 4294967295, insts := 2 }
def ETH_IPV4_PREFIX : Par := { subj := 11, idx := 5, bits := 6, hi := 32, dflt := 24, insts := 2 }
def ETH_IPV4_GW : Par := { subj := 11, idx := 6, bits := 32, hi := 4294967295, insts := 2 }
def ETH_IPV6_ADDR0 : Par := { subj := 11, idx := 7, bits := 32, hi := 4294967295, insts := 2 }
def ETH_IPV6_ADDR1 : Par := { subj := 11, idx := 8, bits := 32, hi := 4294967295, insts := 2 }
def ETH_IPV6_ADDR2 : Par := { subj := 11, idx := 9, bits := 32, hi := 4294967295, insts := 2 }
def ETH_IPV6_ADDR3 : Par := { subj := 11, idx := 10, bits := 32, hi := 4294967295, insts := 2 }
def ETH_IPV6_PREFIX : Par := { subj := 11, idx := 11, bits := 8, hi := 128, dflt := 64, insts := 2 }
def ETH_SKEIC_PORT : Par := { subj := 11, idx := 12, bits := 16, hi := 65535, dflt := 0x4E20, eff := .readOnly }

/-! ### 0Cxxh chain (R526) -/

def CH_MEMBER_TIMEOUT_US : Par := { subj := 12, idx := 0, bits := 14, lo := 200, hi := 10000, dflt := 1000 }
def CH_FWD_QUANTUM : Par := { subj := 12, idx := 1, bits := 16, lo := 1, hi := 65535, dflt := 9216 }

/-! ### 0Dxxh housekeeping (R555) -/

def HK_SLOT_COUNT : Par := { subj := 13, idx := 0, bits := 7, hi := 64, eff := .hkCycle }
def HK_SCAN_MODE : Par := { subj := 13, idx := 1, bits := 2, hi := 2, dflt := 1, eff := .hkCycle }
def HK_SYNC_FREEZE : Par := { subj := 13, idx := 2, bits := 1, hi := 1, eff := .hkCycle }
def HK_DCB_SHIFT : Par := { subj := 13, idx := 3, bits := 5, lo := 1, hi := 16, dflt := 8, eff := .hkCycle }
def HK_FORMAT : Par := { subj := 13, idx := 4, bits := 1, hi := 1, eff := .hkCycle }
def HK_CA_ENABLE : Par := { subj := 13, idx := 6, bits := 1, hi := 1, eff := .caReset }
def HK_CA_CF : Par := { subj := 13, idx := 7, bits := 2, hi := 3, dflt := 3, eff := .caReset }
def HK_CA_EXC_MV : Par := { subj := 13, idx := 8, bits := 12, lo := 100, hi := 2500, dflt := 1000, eff := .caReset }
def HK_CA_RESET_MS : Par := { subj := 13, idx := 9, bits := 10, lo := 1, hi := 1000, dflt := 10, eff := .caReset }
def HK_CA_OPEN_PCT : Par := { subj := 13, idx := 10, bits := 6, lo := 1, hi := 50, dflt := 5, eff := .caReset }
def HK_THROTTLE_K : Par := { subj := 13, idx := 11, bits := 5, lo := 2, hi := 20, dflt := 8, eff := .latch }
def HK_THERMAL_REPORT_MS : Par := { subj := 13, idx := 12, bits := 16, hi := 60000, dflt := 1000, eff := .thermal }

/-! ### 0Exxh calibration (R574) -/

def CAL_REF_INTERVAL_PS : Par :=
  { subj := 14, idx := 0, bits := 25, lo := 100000, hi := 20000000, dflt := 1000000, eff := .nextRun }
def CAL_REF_TOL_PS : Par := { subj := 14, idx := 1, bits := 8, lo := 1, hi := 255, dflt := 6, eff := .nextRun }
def CAL_VREF_MV : Par := { subj := 14, idx := 2, bits := 12, lo := 1000, hi := 2048, dflt := 1250, eff := .nextRun }
def CAL_AGREE_PS : Par := { subj := 14, idx := 3, bits := 8, lo := 1, hi := 255, dflt := 20 }
def CAL_AGREE_PCT : Par := { subj := 14, idx := 4, bits := 8, lo := 1, hi := 255, dflt := 20 }
def CAL_STALE_H : Par := { subj := 14, idx := 5, bits := 16, hi := 65535, dflt := 2000 }
def CAL_STALE_DT : Par := { subj := 14, idx := 6, bits := 6, lo := 1, hi := 60, dflt := 50 }
def CAL_SYS_DELAY : Par := { subj := 14, idx := 7, bits := 24, hi := 16777215, insts := 512 }

/-! ### 0Fxxh journal and observation (R602) -/

def JNL_WEAR_S : Par := { subj := 15, idx := 0, bits := 17, lo := 60, hi := 86400, dflt := 600 }
def JNL_ENDURANCE : Par := { subj := 15, idx := 1, bits := 10, lo := 10, hi := 1000, dflt := 100 }
def SCRUB_MEM_H : Par := { subj := 15, idx := 2, bits := 8, lo := 1, hi := 168, dflt := 24 }
def PERF_REPORT_FRAMES : Par := { subj := 15, idx := 3, bits := 16, hi := 65535 }

def skePars : List Par := [SKE_IDLE_S, SKE_WAKE_SEQ]
def pwrPars : List Par := [PWR_BOOT_STATE, PWR_WAKE_PORT, VMEM1_MV, VMEM2_MV, VMEMQ_MV]
def tbPars : List Par := [TB_SOURCE, TB_AS_PORTS, TB_FIT_COUNT, TB_FIT_TIMEOUT_MS, TB_SLEW_PPB, TB_STEP_NS,
  TB_GM_PRIORITY1, TB_PPS_OUT_WIDTH_US, TB_PPS_IN_DELAY_NS]
def fePars : List Par := [FE_GAIN_MODE, FE_GAIN_UP_WINDOWS, FE_INPUT_BIAS_MV, FE_POLARITY, FE_SHORT_UA, FE_OPEN_PF,
  FE_BIAS_TEST_INTERVAL_MS, FE_CODE_FORMAT, FE_INTERLEAVE_TRACK]
def detPars : List Par := [DET_BL_SHIFT, DET_BL_CLIP, DET_NOISE_SHIFT, DET_THR_K, DET_THR_FLOOR_HI, DET_THR_FLOOR_LO,
  DET_ECHO_POLICY, DET_CODE_TOL_TK, DET_COINC_WINDOW_TK, DET_LOW_CONF, DET_NORETURN_MODE, DET_SKEW_TRACK]
def shotPars : List Par := [SHOT_EMS_CLK, SHOT_EMS_SETTLE_NS, SHOT_MIN_GAP_NS, SHOT_DIAG_DELAY, SHOT_VF_MV, SHOT_V0_MV,
  SHOT_IOPEN_MV, SHOT_IMAX_MV, SHOT_DIAG_CONFIRM, SHOT_HEAT_NJ_PER_NS, SHOT_HEAT_SHIFT, SHOT_HEAT_LIMIT_NJ,
  SHOT_AGE_WARN]
def capPars : List Par := [CAP_LADDER_MAX_STEP, CAP_LADDER_HI_PCT, CAP_LADDER_LO_PCT, CAP_LB_POST_MS, CAP_LB_TRIGGERS]
def rejPars : List Par := [REJ_SUN_UA, REJ_SUN_BL_SHIFT, REJ_SUN_NOISE_SHIFT, REJ_WX_ENABLE, REJ_WX_RANGE_TK,
  REJ_NOMINAL_WIDTH, REJ_WIDE_PCT, REJ_RAIN_INT, REJ_NEIGHBOUR_TK, REJ_SOLID_CONF, REJ_WX_RETRACT, REJ_GROUP_SHOTS,
  REJ_GROUP_MIN, REJ_GROUP_TOL_TK, REJ_GROUP_BYPASS_CONF, REJ_FOREIGN_HOLD_US, REJ_GATE_US, REJ_PERIOD_MIN_NS,
  REJ_TRACK_TOL_TK, REJ_MASK_TK, REJ_ADJ_TK, REJ_STAMP_MIN_CONF, REJ_TRAIN_REPORT_MS]
def mcPars : List Par := [MC_AXES, MC_MIR_VMAX, MC_MIR_AMAX, MC_MIR_JMAX, MC_MIR_KP, MC_MIR_KI, MC_MIR_KD, MC_MIR_KFF,
  MC_MIR_SENS_GAIN, MC_MIR_SENS_OFFSET, MC_MIR_PARK, MC_ENC_LINES, MC_SPIN_ZERO, MC_SPIN_FRAMES_PER_REV, MC_SPIN_VMAX,
  MC_SPIN_AMAX, MC_SPIN_JMAX, MC_SPIN_KP_W, MC_SPIN_KI_W, MC_SPIN_KP_TH, MC_SPIN_KI_TH, MC_SPIN_KD_TH, MC_MOTOR_KT,
  MC_MOTOR_KE, MC_MOTOR_RS, MC_MOTOR_IMAX, MC_SPIN_J, MC_LINK_MODE, MC_LINK_CLK, MC_HANDOVER_TOL_PPM,
  MC_HANDOVER_ANGLE, MC_HANDOVER_ABORT, MC_RELOCK_PPM, MC_OSC_AMPL_MIR, MC_OSC_AMPL_SPIN, MC_OSC_COUNT,
  MC_OSC_WINDOW_MS, MC_OSC_ACTION]
def safPars : List Par := [SAF_SIN_FUNC, SAF_SIN_RESTART, SAF_SIN_FILTER_US, SAF_SIN_DISC_MS, SAF_ENC_LINES,
  SAF_STALL_RPS, SAF_STALL_FILTER_MS, SAF_SECTORS, SAF_EN_WINDOW_MS, SAF_EN_LIMIT_NJ, SAF_PULSE_LIMIT_NJ, SAF_EN_GAIN,
  SAF_SS_DECEL, SAF_SS_JERK, SAF_SS_MON_DECEL, SAF_SS_MARGIN, SAF_SS_DELAY_MS, SAF_SS_TMAX_MS, SAF_STANDSTILL_RPS,
  SAF_BRK_MAX_RPS, SAF_BRK_FB_MS, SAF_BRK_TEST_H, SAF_BRK_TEST_GRACE_H, SAF_BRK_TEST_MA, SAF_BRK_TEST_COUNTS,
  SAF_TP_WIDTH, SAF_TP_PERIOD_MS, SAF_MSG_MODE, SAF_MSG_SOURCE_ID, SAF_MSG_TIMEOUT_MS, SAF_MSG_SKEW_MS, SAF_MSG_FUNC,
  SAF_STATUS_PERIOD_MS, SAF_STATUS_ID]
def ethPars : List Par := [ETH_MODE, ETH_FEC, ETH_MTU, ETH_VID, ETH_IPV4_ADDR, ETH_IPV4_PREFIX, ETH_IPV4_GW,
  ETH_IPV6_ADDR0, ETH_IPV6_ADDR1, ETH_IPV6_ADDR2, ETH_IPV6_ADDR3, ETH_IPV6_PREFIX, ETH_SKEIC_PORT]
def chPars : List Par := [CH_MEMBER_TIMEOUT_US, CH_FWD_QUANTUM]
def hkPars : List Par := [HK_SLOT_COUNT, HK_SCAN_MODE, HK_SYNC_FREEZE, HK_DCB_SHIFT, HK_FORMAT, HK_CA_ENABLE, HK_CA_CF,
  HK_CA_EXC_MV, HK_CA_RESET_MS, HK_CA_OPEN_PCT, HK_THROTTLE_K, HK_THERMAL_REPORT_MS]
def calPars : List Par := [CAL_REF_INTERVAL_PS, CAL_REF_TOL_PS, CAL_VREF_MV, CAL_AGREE_PS, CAL_AGREE_PCT,
  CAL_STALE_H, CAL_STALE_DT, CAL_SYS_DELAY]
def jnlPars : List Par := [JNL_WEAR_S, JNL_ENDURANCE, SCRUB_MEM_H, PERF_REPORT_FRAMES]

/-- The parameters of a subject. -/
def parsOf : Nat → List Par
  | 1 => skePars
  | 2 => pwrPars
  | 3 => tbPars
  | 4 => fePars
  | 5 => detPars
  | 6 => shotPars
  | 7 => capPars
  | 8 => rejPars
  | 9 => mcPars
  | 10 => safPars
  | 11 => ethPars
  | 12 => chPars
  | 13 => hkPars
  | 14 => calPars
  | 15 => jnlPars
  | _ => []

/-- The parameter of a subject and index, if there is one. -/
def findPar (subj idx : Nat) : Option Par := (parsOf subj).find? (fun p => p.idx == idx)

/-- When the parameter of a key comes into force. -/
def effOf (key : Nat) : Eff :=
  match findPar (key / 2 ^ 24) (key / 2 ^ 16 % 256) with
  | some p => p.eff
  | none => .now

/-- The default of the parameter of a key. -/
def dfltOf (key : Nat) : Nat := ((findPar (key / 2 ^ 24) (key / 2 ^ 16 % 256)).map (·.dflt)).getD 0

end Sys2Proof.Machine
end

