-- ==== Sys2Proof/Machine/Ops.lean ====
section
/-! DEFINITION. The named operations over the state: sparse tables, free values, parameters, domains, mapped time. -/
namespace Sys2Proof.Machine

/-- What a meaning answers. -/
abbrev Out := Host.Outcome State Fault Refusal

/-! ### Sparse tables -/

/-- The entry of a key, if the table lists one. -/
def tfind {α : Type} : Tab α → Nat → Option α
  | [], _ => none
  | (k, v) :: r, n => if k = n then some v else tfind r n

/-- The entry of a key, d where the table lists none. -/
def tget {α : Type} (d : α) (t : Tab α) (k : Nat) : α := (tfind t k).getD d

/-- The table with an entry put in its place. -/
def tput {α : Type} : Tab α → Nat → α → Tab α
  | [], n, v => [(n, v)]
  | (k, x) :: r, n, v => if n < k then (n, v) :: (k, x) :: r else if n = k then (n, v) :: r else (k, x) :: tput r n v

/-- The table without the entry of a key. -/
def tdel {α : Type} (t : Tab α) (n : Nat) : Tab α := t.filter (fun e => e.1 != n)

/-- The table with an entry set; the default d is not listed, so equal contents are equal tables. -/
def tset {α : Type} [DecidableEq α] (d : α) (t : Tab α) (n : Nat) (v : α) : Tab α :=
  if v = d then tdel t n else tput t n v

/-- The table with the entry of a key changed by a function. -/
def tmod {α : Type} [DecidableEq α] (d : α) (t : Tab α) (n : Nat) (f : α → α) : Tab α := tset d t n (f (tget d t n))

/-- The table with every listed entry changed by a function of its key. -/
def tmap {α : Type} [DecidableEq α] (d : α) (t : Tab α) (f : Nat → α → α) : Tab α :=
  (t.map (fun e => (e.1, f e.1 e.2))).filter (fun e => decide (e.2 ≠ d))

/-- Keys strictly ascending. -/
def Tab.sorted {α : Type} : Tab α → Bool
  | [] => true
  | [_] => true
  | a :: b :: r => decide (a.1 < b.1) && Tab.sorted (b :: r)

/-- The canonical form: keys strictly ascending and no default listed. -/
def Tab.wf {α : Type} [DecidableEq α] (d : α) (t : Tab α) : Bool := Tab.sorted t && t.all (fun e => decide (e.2 ≠ d))

/-- Keys from a on, n of them. -/
def span (a n : Nat) : List Nat := (List.range n).map (· + a)

/-! ### Small arithmetic -/

/-- A count of n bits that wraps. -/
def wrap (n v : Nat) : Nat := v % 2 ^ n

/-- A count of n bits that saturates. -/
def sat (n v : Nat) : Nat := min v (2 ^ n - 1)

/-- A signed number held within n bits of two's complement by saturation. -/
def satI (n : Nat) (i : Int) : Int := max (-(2 ^ (n - 1) : Int)) (min i (2 ^ (n - 1) - 1))

/-- Rounded to the nearest integer, halves up. -/
def roundHalfUp (x : Rat) : Int := (x + 1 / 2).floor

/-- The integer square root by bisection over n bits. -/
def isqrtBits : Nat → Nat → Nat → Nat
  | 0, _, r => r
  | n + 1, x, r => let t := r + 2 ^ n; isqrtBits n x (if t * t ≤ x then t else r)

/-- The largest r with r·r ≤ x. -/
def isqrt (x : Nat) : Nat := isqrtBits (x.log2 / 2 + 1) x 0

/-- Rounded to the nearest integer at a named place; where a half has no stated direction, the tie is free (log 10). -/
def roundNear (site : Nat) (x : Rat) : Int :=
  if x - x.floor = 1 / 2 then (if Config.tieUp site x then x.floor + 1 else x.floor) else (x + 1 / 2).floor

/-- A value that a rule states without its rounding as an integer: itself where it is one, else one of its two neighbours
(log 10). -/
def roundOpen (site : Nat) (x : Rat) : Int :=
  if x.den = 1 then x.floor else if Config.roundUp site x then x.floor + 1 else x.floor

/-- The square root of a rational x ≥ 0 as an integer, where a rule states no rounding: itself where it is one, else one of its
two neighbours (log 10). -/
def sqrtOpen (site : Nat) (x : Rat) : Nat :=
  let r := isqrt x.floor.toNat
  if ((r * r : Nat) : Rat) = x then r else if Config.roundUp site x then r + 1 else r

/-- The integer part of √x + r, for rational x ≥ 0 and r. -/
def floorSqrtAdd (x r : Rat) : Int :=
  let fits (m : Int) : Bool := let d : Rat := m - r; decide (d ≤ 0) || decide (d * d ≤ x)
  let m : Int := isqrt x.floor.toNat + r.floor
  if fits (m + 2) then m + 2 else if fits (m + 1) then m + 1 else m

/-- a divided by b, rounded up; 0 where b is 0. -/
def ceilDiv (a b : Nat) : Nat := (a + b - 1) / b

/-- The square root of a rational rounded to the nearest integer, halves up. -/
def sqrtRound (x : Rat) : Nat := (isqrt (4 * x).floor.toNat + 1) / 2

/-- The sum of a list of rationals. -/
def sumR (l : List Rat) : Rat := l.foldl (· + ·) 0

/-! ### Free values -/

/-- A free value below n, and the state with the draw counted (log 5). -/
def State.draw (s : State) (n : Nat) : Nat × State := (Config.freeNat s.free % n, { s with free := s.free + 1 })

/-- n free words, and the state with the draws counted (log 5). -/
def State.freeWords (s : State) (n : Nat) : List Word × State :=
  ((List.range n).map (fun i => w32 (Config.freeNat (s.free + i))), { s with free := s.free + n })

/-! ### Parameters -/

/-- The written value of a parameter, which a read returns (each chapter's parameter commands). -/
def State.work (s : State) (p : Par) (i : Nat) : Nat := tget p.dflt s.p.par (parKey p.subj p.idx i)

/-- The value in force of a parameter. -/
def State.cur (s : State) (p : Par) (i : Nat) : Nat :=
  match tfind s.lag (parKey p.subj p.idx i) with
  | some v => v
  | none => s.work p i

/-- The value in force of a device-wide parameter. -/
def State.val (s : State) (p : Par) : Nat := s.cur p 0

/-- The value in force of a signed parameter. -/
def State.valI (s : State) (p : Par) (i : Nat) : Int := sgn p.bits (s.cur p i)

/-- A parameter's instance written: the working copy at once, the value in force at the instant that its chapter states. -/
def State.writePar (s : State) (p : Par) (v i : Nat) : State :=
  let k := parKey p.subj p.idx i
  let old := s.cur p i
  let lag := if p.eff == .now || p.eff == .readOnly then s.lag else if v = old then tdel s.lag k else tput s.lag k old
  { s with p := { s.p with par := tset p.dflt s.p.par k v }, lag := lag }

/-- The written value of the parameter of a key. -/
def State.written (s : State) (key : Nat) : Nat := tget (dfltOf key) s.p.par key

/-- The values named for their keys come into force; a value written since goes on waiting (R198). -/
def State.forceTo (s : State) (due : Tab Nat) : State :=
  { s with lag := due.foldl (fun l e => if e.2 = s.written e.1 then tdel l e.1 else tput l e.1 e.2) s.lag }

/-- A parameter written for instances from first on, n of them. -/
def State.writePars (s : State) (p : Par) (v first n : Nat) : State :=
  (span first n).foldl (fun t i => t.writePar p v i) s

/-- The written values that wait for e come into force. -/
def State.force (s : State) (e : Eff) : State := { s with lag := s.lag.filter (fun x => effOf x.1 != e) }

/-- The written values that wait for e come into force for one instance. -/
def State.forceAt (s : State) (e : Eff) (i : Nat) : State :=
  { s with lag := s.lag.filter (fun x => !(effOf x.1 == e && x.1 % 2 ^ 16 == i)) }

/-! ### Domains and device state -/

/-- Domain d is on. -/
def State.dom (s : State) (d : Nat) : Bool := s.pwr.on.getLsbD d

/-- Domain d takes part in the shots that fire now: it is on and has settled, or it has been switched off and has not yet
settled (R75). -/
def State.acts (s : State) (d : Nat) : Bool := s.dom d != s.pwr.settling.getLsbD d

/-- Domain d works: it takes part in the shots that fire now, or shots fired before it was switched off may still end in it
(R75). -/
def State.works (s : State) (d : Nat) : Bool := s.acts d || s.pwr.leaving.getLsbD d

/-- The block's analogue and digital domains are on (R43). -/
def State.blockOn (s : State) (b : Nat) : Bool := s.dom b && s.dom (32 + b)

/-- Shots may fire: the device is in RUN or enters it, with no fault and no reset (R57, R64, R607, R623). -/
def State.running (s : State) : Bool :=
  !s.pwr.safe && !s.pwr.failing && s.boot.phase == 0 &&
    (match s.pwr.dev, s.pwr.trans with
     | .run, none => true
     | .quiet, some t => t.next == .run
     | _, _ => false)

/-- Chain address, 0 before one is assigned. -/
def State.addr (s : State) : Nat := s.enum.addr.getD 0

/-- The device is a follower (R495). -/
def State.follower (s : State) : Bool := s.enum.addr.isSome && !s.enum.cond

/-- The warm flag as reported: the conductor's in a follower (R499). -/
def State.warm (s : State) : Bool := if s.follower then s.ch.condWarm else s.pwr.warm

/-- The state logic requests RUN (R65, R66). -/
def State.wantsRun (s : State) : Bool := s.running && (s.pwr.dev == .run || s.warm)

/-- PWR_GOOD (R63): every rail is in its band, and none falls in an ordered power-down (R62). -/
def State.pwrGood (s : State) : Bool := s.pwr.good && s.pwr.band == 0 && s.pwr.falling == 0

/-- FAULT_N is driven low (R627). -/
def State.faultLow (s : State) : Bool :=
  s.pwr.safe || s.boot.phase == 2 || s.boot.stage == 5 || s.pwr.failing || (s.pwr.alive && s.boot.stage != 4) || s.isl.fault

/-! ### Mapped time -/

/-- The magnitude of the slew that is removed k ticks after the origin (R97). -/
def Mapper.removed (m : Mapper) (k : Nat) : Rat := min m.slew.abs (256 * m.b * (m.ppb : Rat) / 1000000000 * (k : Nat))

/-- The part of the slew that has been removed F − F0 = d fine-time units after the origin. The rate changes at ticks only
(R89): it is changed by TB_SLEW_PPB in every tick but the last, and in that one by what is left (R97). -/
def Mapper.slewed (m : Mapper) (d : Rat) : Rat :=
  if d < 0 then 0
  else
    let k := (d / 256).floor.toNat
    let x := m.removed k + (m.removed (k + 1) - m.removed k) * (d / 256 - (k : Nat))
    if m.slew < 0 then -x else x

/-- Mapped time in ns of an instant in fine-time units (chapter 03, The mapper). -/
def Mapper.at (m : Mapper) (f : Rat) : Rat := m.a + m.b * (f - m.f0) + m.slewed (f - m.f0)

/-- The mapper with its origin moved to f; t is unchanged from f on (R89). -/
def Mapper.rebase (m : Mapper) (f : Rat) : Mapper :=
  { m with f0 := f, a := m.at f, slew := m.slew - m.slewed (f - m.f0) }

/-- The mapper at a tick edge: where its slew has at most one tick to go, the rate changes there and A and F0 move there
(R89, R97). -/
def Mapper.slewEdge (m : Mapper) (f : Rat) : Mapper :=
  if m.slew ≠ 0 && decide (m.f0 < f) && decide ((m.slew - m.slewed (f - m.f0)).abs ≤ m.removed 1) then m.rebase f else m

/-- The mapper with a step of d ns at f (R98). -/
def Mapper.stepped (m : Mapper) (f d : Rat) : Mapper := { m.rebase f with a := m.at f + d, slew := 0 }

/-- The present instant in fine-time units. -/
def State.fineNow (s : State) : Rat := (256 * s.tb.tick : Nat)

/-- Mapped time now, in whole ns rounded down. -/
def State.nowNs (s : State) : Int := (s.tb.map.at s.fineNow).floor

/-- Mapped time of a tick with fraction in fine-time units: whole ns rounded down, and the fine offset of 0 to 409
rounded to nearest, 410 carrying (R105); a tie is free (log 10). -/
def timeOf (m : Mapper) (f : Rat) : Int × Nat :=
  let t := m.at f
  let ns := t.floor
  let off := roundNear 0x0105 ((t - ns) * (4096 / 10))
  if off ≥ 410 then (ns + 1, 0) else (ns, off.toNat)

/-- Two 32-bit words of a 64-bit number, low half first, two's complement. -/
def lohi (i : Int) : List Word := [w32 (unsgn 64 i % 2 ^ 32), w32 (unsgn 64 i / 2 ^ 32)]

/-- Ticks of a number of µs. -/
def usTicks (us : Nat) : Nat := 1600 * us

/-! ### Performance counters (R596 to R600) -/

/-- The location of an event: the cell of a block, the block of a region, or none. -/
abbrev Loc := Option Nat

/-- An enabled counter counts the event (R597). -/
def Perf.counts (c : Perf) (ev qual : Nat) (loc : Loc) : Bool :=
  c.c0.bit 8 && c.c0.fld 7 0 == ev && ((qual ^^^ c.c0.fld 16 9) &&& c.c0.fld 24 17) == 0 &&
    (match loc with
     | none => true
     | some l => c.c1.fld 15 0 >>> l % 2 == 1)

/-- The counter with n more; it wraps and sets its sticky bit (R599). -/
def Perf.add (c : Perf) (n : Nat) : Perf :=
  if c.v + n < 2 ^ 48 then { c with v := c.v + n } else { c with v := (c.v + n) % 2 ^ 48, ovf := true }

/-- The events added to every counter numbered lo to hi that counts them. -/
def State.count (s : State) (lo hi ev qual : Nat) (loc : Loc) (n : Nat) : State :=
  { s with obs := { s.obs with perf := s.obs.perf.map (fun e =>
      if lo ≤ e.1 && e.1 ≤ hi && e.2.counts ev qual loc then (e.1, e.2.add n) else e) } }

/-- An event of block b. -/
def State.countB (s : State) (b ev qual : Nat) (loc : Loc) (n : Nat) : State :=
  if s.dom (32 + b) then s.count (8 * b) (8 * b + 7) ev qual loc n else s

/-- An event of region r. -/
def State.countR (s : State) (r ev qual : Nat) (loc : Loc) (n : Nat) : State :=
  if s.dom (64 + r) then s.count (256 + 8 * r) (263 + 8 * r) ev qual loc n else s

/-- The domain that holds a counter is on (R597). -/
def State.perfOn (s : State) (k : Nat) : Bool :=
  if k < 256 then s.dom (32 + k / 8) else if k < 320 then s.dom (64 + (k - 256) / 8) else true

/-- The two words of counter k: a counter whose domain is off reads 0, with its overflow bit (R597; DEDUCED, log 77). -/
def State.perfWords (s : State) (k : Nat) : List Word :=
  let c := tget {} s.obs.perf k
  let v := if s.perfOn k then c.v else 0
  [w32 v, pack [(v / 2 ^ 32, 16), (k, 9), (b2n (c.ovf && s.perfOn k), 1)]]

/-- Fabric cycles in the tick after n: five in eight ticks (R596; DESIGN CHOICE, log 78). -/
def fabricCycles (n : Nat) : Nat := 5 * (n + 1) / 8 - 5 * n / 8

/-- An event of the chip. -/
def State.countC (s : State) (ev qual n : Nat) : State := s.count 320 351 ev qual none n

end Sys2Proof.Machine
end

