-- ==== Sys2Proof/Machine/JournalRecs.lean ====
section
/-! DEFINITION. Journal records: what they hold, how class P is split into them and put together again, commit records and the
replay at boot (chapter 16, R579, R584, R586). Table codes and the layout of the payloads of tables are the model's own (log
90). -/
namespace Sys2Proof.Machine

/-! ### Tables and records -/

/-- An instance put into a table, or back to its default. -/
def jput {α : Type} (t : Tab α) (k : Nat) (v : Option α) : Tab α :=
  match v with
  | some x => tput t k x
  | none => tdel t k

/-- A record applied to a table whose instances lie step apart (R579, kinds 1 and 2). -/
def JVal.put {α : Type} (step : Nat) (x : JVal α) (t : Tab α) : Tab α :=
  (List.range x.n).foldl (fun t i => jput t (x.k + i * step) ((x.vs[i]?).getD (x.vs.getLast?.getD none))) t

/-- The entries in which two tables differ: key and new value. -/
def tabDiff {α : Type} [DecidableEq α] (old new : Tab α) : List (Nat × Option α) :=
  (new.filter (fun e => decide (tfind old e.1 ≠ some e.2))).map (fun e => (e.1, some e.2)) ++
    (old.filter (fun e => (tfind new e.1).isNone)).map (fun e => (e.1, none))

/-- Entries gathered into runs of instances that lie step apart. -/
def jruns {α : Type} (step : Nat) : List (Nat × Option α) → List (JVal α)
  | [] => []
  | (k, v) :: r =>
    match jruns step r with
    | x :: xs => if x.k = k + step then { k := k, n := x.n + 1, vs := v :: x.vs } :: xs else { k := k, n := 1, vs := [v] } :: x :: xs
    | [] => [{ k := k, n := 1, vs := [v] }]

/-- A run of equal values is one value for all instances (kind 1). -/
def JVal.tight {α : Type} [DecidableEq α] (x : JVal α) : JVal α :=
  match x.vs with
  | v :: r => if r.all (fun w => decide (w = v)) then { x with vs := [v] } else x
  | [] => x

/-- The records of the entries in which two tables differ. -/
def jdiff {α : Type} [DecidableEq α] (step : Nat) (old new : Tab α) : List (JVal α) :=
  (jruns step (tabDiff old new)).map JVal.tight

/-- The records of a table, one for each instance (R584). -/
def jall {α : Type} (t : Tab α) : List (JVal α) := t.map (fun e => { k := e.1, n := 1, vs := [some e.2] })

/-- A record applied to class P and the wear counters (R586). -/
def JItem.apply (pw : ClassP × Wear) : JItem → ClassP × Wear
  | .begin_ => pw
  | .par x => ({ pw.1 with par := x.put 1 pw.1.par }, pw.2)
  | .dom d => ({ pw.1 with dom := d }, pw.2)
  | .dest x => ({ pw.1 with dest := x.put 1 pw.1.dest }, pw.2)
  | .bind x => ({ pw.1 with bind := x.put 1 pw.1.bind }, pw.2)
  | .boot b => ({ pw.1 with boot := b }, pw.2)
  | .bt ws => ({ pw.1 with bt := ws }, pw.2)
  | .coef x => ({ pw.1 with coef := x.put 1 pw.1.coef }, pw.2)
  | .coinc x => ({ pw.1 with coinc := x.put 16 pw.1.coinc }, pw.2)
  | .prof x => ({ pw.1 with profs := x.put 1 pw.1.profs }, pw.2)
  | .timing x => ({ pw.1 with timing := x.put 8 pw.1.timing }, pw.2)
  | .inter x => ({ pw.1 with inter := x.put 1 pw.1.inter }, pw.2)
  | .ratio x => ({ pw.1 with ratio := x.put 1 pw.1.ratio }, pw.2)
  | .calSt x => ({ pw.1 with calSt := x.put 1 pw.1.calSt }, pw.2)
  | .slot x => ({ pw.1 with slots := x.put 1 pw.1.slots }, pw.2)
  | .curve x => ({ pw.1 with curves := x.put 1 pw.1.curves }, pw.2)
  | .hkCal x => ({ pw.1 with hkCal := x.put 1 pw.1.hkCal }, pw.2)
  | .saf t c => ({ pw.1 with saf := t, safCheck := c }, pw.2)
  | .brake v => ({ pw.1 with brake := v }, pw.2)
  | .health x => ({ pw.1 with health := x.put 1 pw.1.health }, pw.2)
  | .proof x => ({ pw.1 with proof := x.put 1 pw.1.proof }, pw.2)
  | .string x => ({ pw.1 with strings := x.put 1 pw.1.strings }, pw.2)
  | .enable v => ({ pw.1 with enable := v }, pw.2)
  | .wear w => (pw.1, w)
  | .retired _ => pw

/-- Records applied one after the other. -/
def applyRecs (pw : ClassP × Wear) (rs : List JItem) : ClassP × Wear := rs.foldl JItem.apply pw

/-- The records of the class P items in which two states of class P differ: the changes of a command (R579). -/
def ClassP.diff (a b : ClassP) : List JItem :=
  (jdiff 1 a.par b.par).map .par ++ (if a.dom = b.dom then [] else [.dom b.dom]) ++
    (jdiff 1 a.dest b.dest).map .dest ++ (jdiff 1 a.bind b.bind).map .bind ++ (if a.boot = b.boot then [] else [.boot b.boot]) ++
    (if a.bt = b.bt then [] else [.bt b.bt]) ++ (jdiff 1 a.coef b.coef).map .coef ++ (jdiff 16 a.coinc b.coinc).map .coinc ++
    (jdiff 1 a.profs b.profs).map .prof ++ (jdiff 8 a.timing b.timing).map .timing ++ (jdiff 1 a.inter b.inter).map .inter ++
    (jdiff 1 a.ratio b.ratio).map .ratio ++ (jdiff 1 a.calSt b.calSt).map .calSt ++ (jdiff 1 a.slots b.slots).map .slot ++
    (jdiff 1 a.curves b.curves).map .curve ++ (jdiff 1 a.hkCal b.hkCal).map .hkCal ++
    (if a.saf = b.saf && a.safCheck = b.safCheck then [] else [.saf b.saf b.safCheck]) ++
    (if a.brake = b.brake then [] else [.brake b.brake]) ++ (jdiff 1 a.health b.health).map .health ++
    (jdiff 1 a.proof b.proof).map .proof ++ (jdiff 1 a.strings b.strings).map .string ++
    (if a.enable = b.enable then [] else [.enable b.enable])

/-- One record for every class P item that differs from its default, in the order of JItem.place (R584). -/
def ClassP.items (p : ClassP) : List JItem :=
  (jall p.par).map .par ++ (if p.dom = BitVec.allOnes 96 then [] else [.dom p.dom]) ++
    (jall p.dest).map .dest ++ (jall p.bind).map .bind ++ (if p.boot = {} then [] else [.boot p.boot]) ++
    (if p.bt = [] then [] else [.bt p.bt]) ++ (jall p.coef).map .coef ++ (jall p.coinc).map .coinc ++
    (jall p.profs).map .prof ++ (jall p.timing).map .timing ++ (jall p.inter).map .inter ++
    (jall p.ratio).map .ratio ++ (jall p.calSt).map .calSt ++ (jall p.slots).map .slot ++
    (jall p.curves).map .curve ++ (jall p.hkCal).map .hkCal ++ (if p.saf.isNone then [] else [.saf p.saf p.safCheck]) ++
    (if p.brake = 3 then [] else [.brake p.brake]) ++ (jall p.health).map .health ++
    (jall p.proof).map .proof ++ (jall p.strings).map .string ++ (if p.enable = 0 then [] else [.enable p.enable])

/-! ### The bytes of records (R579) -/

/-- Kind, subject, index or table code, first instance, count and payload words of a record. -/
structure JHead where
  kind : Nat
  subj : Nat
  index : Nat
  first : Nat
  count : Nat
  payload : List Word
  deriving DecidableEq, Repr, Inhabited

/-- The words of a value, none for the default. -/
def jwords {α : Type} (f : α → List Word) (vs : List (Option α)) : List Word :=
  vs.flatMap (fun v => match v with
    | some x => f x
    | none => [])

/-- A record of a table. -/
def JVal.head {α : Type} (x : JVal α) (subj index : Nat) (f : α → List Word) : JHead :=
  { kind := if x.vs.length ≤ 1 then 1 else 2, subj := subj, index := index, first := x.k, count := x.n, payload := jwords f x.vs }

/-- The four words of a binding. -/
def Binding.words (b : Binding) : List Word :=
  [pack [(b.cls, 4), (b.port, 3), (b.pcp, 3), (b.dscp, 6), (b.dest, 10), (b.sel, 2)],
   pack [(b.first, 9), (b.count, 10)], pack [(b.quantum, 16), (b.flush, 10)], pack [(b.depth, 13)]]

/-- Six words of a coefficient set. -/
def coefWords (h : Coef) : List Word :=
  (List.range 6).map (fun i => pack [(unsgn 16 (h.getD (2 * i) 0), 16), (unsgn 16 (h.getD (2 * i + 1) 0), 16)])

/-- The payload of the wear counters: count and on-time of each emitter, hours of each channel, the four times and counts
(R591). -/
def Wear.words (w : Wear) : List Word :=
  (List.range 128).flatMap (fun e =>
    let n := tget 0 w.pulses e % 2 ^ 48 + tget 0 w.onTime e % 2 ^ 48 * 2 ^ 48
    [w32 n, w32 (n / 2 ^ 32), w32 (n / 2 ^ 64)]) ++
  (List.range 256).map (fun c =>
    let h (k : Nat) : Nat := match tfind w.calAt k with
      | some t => sat 16 ((w.runTicks - t) / 5760000000000)
      | none => 0
    pack [(h (2 * c), 16), (h (2 * c + 1), 16)]) ++
  [w32 w.runTicks, w32 (w.runTicks / 2 ^ 32), w32 w.parkTicks, w32 (w.parkTicks / 2 ^ 32), w32 w.powerOns, w32 w.brakeTime,
    w32 (w.brakeTime / 2 ^ 32), 0]

/-- The head of a record (R579). -/
def JItem.head : JItem → JHead
  | .begin_ => ⟨6, 15, 0, 0, 0, []⟩
  | .par x =>
    let subj := x.k / 2 ^ 24
    let idx := x.k / 2 ^ 16 % 256
    let one := (findPar subj idx).all (fun p => p.insts == 1)
    { x.head subj idx (fun v => [w32 v]) with first := x.k % 2 ^ 16, count := if one then 0 else x.n }
  | .dom d => ⟨3, 2, 0x80, 0, 0, [w32 d.toNat, w32 (d.toNat / 2 ^ 32), w32 (d.toNat / 2 ^ 64)]⟩
  | .dest x => x.head 11 0x80 id
  | .bind x => x.head 11 0x81 Binding.words
  | .boot b => ⟨5, 1, 0, 0, 0, [pack [(b.pref.getD 2, 2), (b2n b.trial, 1), (b.slot, 1)]]⟩
  | .bt ws => ⟨3, 15, 0x80, 0, 0, ws⟩
  | .coef x => x.head 5 0x80 (fun h => w32 h.length :: coefWords h)
  | .coinc x => { x.head 5 0x81 id with index := 0x81 + 4 * (x.k % 16), first := x.k / 16 }
  | .prof x => x.head 7 0x80 id
  | .timing x => { x.head 5 0 id with index := 0xE0 + x.k % 8, first := x.k / 8 }
  | .inter x => x.head 4 0x80 (fun v => [pack [(unsgn 16 (v.getD 0 0), 16), (unsgn 16 (v.getD 1 0), 16)],
      pack [(unsgn 16 (v.getD 2 0), 16), (unsgn 16 (v.getD 3 0), 16)], pack [(unsgn 16 (v.getD 4 0), 16)]])
  | .ratio x => x.head 4 0x81 (fun v => [w32 v])
  | .calSt x => x.head 14 0x80 (fun v => [w32 v])
  | .slot x => x.head 13 0x80 id
  | .curve x => x.head 13 0x81 (fun v => v.flatMap (fun q => [w32 (unsgn 32 q.1), w32 (unsgn 32 q.2)]))
  | .hkCal x => x.head 13 0x82 (fun v => [w32 (unsgn 32 v)])
  | .saf t c => ⟨3, 10, 0x80, 0, 0, match t with
      | some t => safPars.flatMap (fun p => (List.range p.insts).map (fun i => w32 (tget p.dflt t (p.idx * 8 + i)))) ++ [c]
      | none => []⟩
  | .brake v => ⟨1, 10, 0x81, 0, 0, [w32 v]⟩
  | .health x => x.head 6 0x80 (fun v => [w32 v])
  | .proof x => x.head 6 0x81 (fun v => [w32 v])
  | .string x => x.head 6 0x82 (fun v => [pack [(v.1, 8), (v.2.1, 8), (v.2.2, 16)]])
  | .enable v => ⟨1, 6, 0x83, 0, 0, [w32 v]⟩
  | .wear w => ⟨4, 15, 0, 0, 0, w.words⟩
  | .retired a => ⟨1, 15, 0x81, a, 1, []⟩

/-- The four header words of a record of a transaction. -/
def JHead.words (h : JHead) (seq : Nat) : List Word :=
  [pack [(h.kind, 4), (h.subj, 8), (h.index, 8)], pack [(h.first, 16), (h.count, 16)], pack [(h.payload.length, 16)], w32 seq]

/-- The words of a record: header and payload. -/
def JItem.words (x : JItem) (seq : Nat) : List Word := x.head.words seq ++ x.head.payload

/-- Bytes of a record with n payload words (R579). -/
def recordBytes (n : Nat) : Nat := 16 + 4 * n

/-- Bytes of a record. -/
def JItem.bytes (x : JItem) : Nat := recordBytes x.head.payload.length

/-- The commit record of a transaction of so many pages: header, counts, and the CRC-32C over every byte from the first record
header through the counts (R579). -/
def commitRecord (seq subj pages : Nat) (recs : List JItem) : List Word :=
  let h : JHead := ⟨7, subj, 0, 0, 0, [0, 0]⟩
  let ws := h.words seq ++ [pack [(recs.length, 16), (pages, 16)]]
  ws ++ [w32 (crc32c (wordsBytes (recs.flatMap (·.words seq) ++ ws)))]

/-- A transaction's commit record is there and its CRC holds (R586). -/
def JTxn.good (t : JTxn) : Bool :=
  t.commit.length == 6 &&
    t.commit.getD 5 0 == w32 (crc32c (wordsBytes (t.recs.flatMap (·.words t.seq) ++ t.commit.take 5)))

/-! ### The replay (R586) -/

/-- The newest snapshot whose commit record is valid. -/
def Journal.base (j : Journal) : Option JTxn :=
  (j.log.filter (fun t => t.snap && t.good)).foldl (fun b t => match b with
    | some x => if x.seq < t.seq then some t else b
    | none => some t) none

/-- A transaction put into a list in ascending sequence. -/
def JTxn.into (t : JTxn) : List JTxn → List JTxn
  | [] => [t]
  | x :: l => if t.seq ≤ x.seq then t :: x :: l else x :: t.into l

/-- The committed transactions with a higher sequence than the base snapshot, in ascending sequence. -/
def Journal.later (j : Journal) : List JTxn :=
  (j.log.filter (fun t => !t.snap && t.good && j.base.all (fun b => decide (b.seq < t.seq)))).foldr JTxn.into []

/-- Class P and the wear counters as the journal gives them; what is absent takes its default. -/
def Journal.replay (j : Journal) : ClassP × Wear :=
  j.later.foldl (fun pw t => applyRecs pw t.recs) (applyRecs ({}, {}) ((j.base.map (·.recs)).getD []))

/-- The transactions that are ignored for want of a valid commit record, snapshots apart. -/
def Journal.ignored (j : Journal) : List JTxn := j.log.filter (fun t => !t.snap && !t.good)

/-! ### Records that commit -/

/-- Records held from here on, under a sequence and with a valid commit record. -/
def Journal.keep (j : Journal) (seq subj pages blk : Nat) (recs : List JItem) : Journal :=
  let pw := applyRecs (j.held, j.wear) recs
  { j with held := pw.1, wear := pw.2,
           log := j.log ++ [{ seq := seq, subj := subj, recs := recs, commit := commitRecord seq subj pages recs, blk := blk }] }

/-- A class P change that the hardware makes itself is held at once (log 8). -/
def State.hwP (s : State) (f : ClassP → ClassP) : State :=
  let recs := s.jnl.held.diff (f s.jnl.held)
  { s with p := f s.p, jnl := if s.jnl.readOnly || recs.isEmpty then s.jnl else s.jnl.keep s.jnl.next 15 1 s.jnl.blockSeq recs }

end Sys2Proof.Machine
end

