-- ==== Sys2Proof/Machine/Wire.lean ====
section
/-! DEFINITION. The frame that carries an output datagram: Ethernet, 802.1Q, IP and UDP headers with their checksums, and the
FCS (R414, R417, R419). -/
namespace Sys2Proof.Machine

/-- The sum of a byte string read as 16-bit numbers in network order, an odd last byte padded with zero. -/
def sum16 : List Byte → Nat
  | a :: b :: r => a.toNat * 256 + b.toNat + sum16 r
  | [a] => a.toNat * 256
  | [] => 0

/-- The Internet checksum of a byte string: the complement of its sum with the carries added in. -/
def inetSum (l : List Byte) : Nat :=
  let carry (n : Nat) : Nat := n % 65536 + n / 65536
  65535 - carry (carry (carry (sum16 l)))

/-- What the headers of a datagram take from its port, binding and destination. -/
structure Headers where
  /-- Destination and source MAC address. -/
  dmac : Nat
  smac : Nat
  /-- VID, 0 untagged, and PCP. -/
  vid : Nat
  pcp : Nat
  /-- IPv6; DSCP; source and destination address, 4 or 16 bytes. -/
  v6 : Bool
  dscp : Nat
  src : List Byte
  dst : List Byte
  /-- Source and destination UDP port. -/
  sport : Nat
  dport : Nat
  deriving DecidableEq, Repr, Inhabited

/-- The UDP header and payload, its checksum always computed over the pseudo-header of either IP version; a sum of zero is
sent as FFFFh (R417; RFC 768, RFC 8200, which R414 names by UDP and IPv6). -/
def Headers.udp (h : Headers) (payload : List Byte) : List Byte :=
  let n := 8 + payload.length
  let head := bytesBE h.sport 2 ++ bytesBE h.dport 2 ++ bytesBE n 2
  let pseudo := h.src ++ h.dst ++ (if h.v6 then bytesBE n 4 ++ bytesBE 17 4 else bytesBE 17 2 ++ bytesBE n 2)
  let c := inetSum (pseudo ++ head ++ bytesBE 0 2 ++ payload)
  head ++ bytesBE (if c = 0 then 65535 else c) 2 ++ payload

/-- The IP header before n bytes: DF, identification 0, TTL or hop limit 64, no options, flow label 0, ECN 0 (R417). -/
def Headers.ip (h : Headers) (n : Nat) : List Byte :=
  if h.v6 then bytesBE (6 * 2 ^ 28 + h.dscp * 2 ^ 22) 4 ++ bytesBE n 2 ++ [17, 64] ++ h.src ++ h.dst
  else
    let a := [0x45] ++ bytesBE (h.dscp * 4) 1 ++ bytesBE (20 + n) 2 ++ bytesBE 0 2 ++ bytesBE 0x4000 2 ++ [64, 17]
    a ++ bytesBE (inetSum (a ++ h.src ++ h.dst)) 2 ++ h.src ++ h.dst

/-- The frame from its destination address to its FCS (R415, R417, R419). -/
def Headers.frame (h : Headers) (payload : List Byte) : List Byte :=
  let u := h.udp payload
  let tag := if h.vid = 0 then [] else bytesBE 0x8100 2 ++ bytesBE (h.pcp * 2 ^ 13 + h.vid) 2
  let f := bytesBE h.dmac 6 ++ bytesBE h.smac 6 ++ tag ++ bytesBE (if h.v6 then 0x86DD else 0x0800) 2 ++ h.ip u.length ++ u
  f ++ bytesLE (crc32 f) 4

end Sys2Proof.Machine
end

