-- ==== Sys2Proof/Machine/Records.lean ====
section
/-! DEFINITION. Records, output queues, datagrams and ports (chapter 11): one enqueue operation that every chapter uses,
the closing of datagrams, and the choice of the next datagram of a port. -/
namespace Sys2Proof.Machine

/-! ### Bindings and destinations -/

/-- The binding of a queue as written; queues 0 and 1 keep their class, port code and flush time (R423). -/
def State.bindOf (s : State) (q : Nat) : Binding :=
  let b := tget {} s.p.bind q
  if q = 0 then { b with cls := 11, port := 3, flush := 0 }
  else if q = 1 then { b with cls := 10, port := 3, flush := 0 }
  else b

/-- The queues that may be bound, ascending: 0, 1 and those with a binding written. -/
def State.queueList (s : State) : List Nat := 0 :: 1 :: (s.p.bind.map (·.1)).filter (fun q => 1 < q)

/-- The destination entry d (R419); the default entry has resolve at 1. -/
def State.destOf (s : State) (d : Nat) : List Word := tget [2, 0, 0, 0, 0, 0, 0, 0] s.p.dest d

/-- Word i of a list, 0 past its end. -/
def wd (l : List Word) (i : Nat) : Word := l.getD i 0

/-- The destination's IP version is 6. -/
def destV6 (e : List Word) : Bool := (wd e 0).bit 0

/-- The destination's VID. -/
def destVid (e : List Word) : Nat := (wd e 0).fld 13 2

/-- The IP address of a destination is multicast. -/
def destMulticast (e : List Word) : Bool :=
  if destV6 e then (wd e 4).fld 31 24 == 0xFF else (wd e 4).fld 31 28 == 0xE

/-- The MAC address that datagrams of a destination carry on port p, none while it is unresolved there (R420). -/
def State.destMac (s : State) (p d : Nat) : Option Nat :=
  let e := s.destOf d
  if !(wd e 0).bit 1 then some ((wd e 2).toNat + 2 ^ 32 * (wd e 3).fld 15 0)
  else if destMulticast e then
    some (if destV6 e then 0x333300000000 + (wd e 7).toNat else 0x01005E000000 + (wd e 4).fld 22 0)
  else match tget 0 s.eth.mac (2 * d + p) with
    | 0 => none
    | n + 1 => some n

/-- Port p of the device. -/
def State.port (s : State) (p : Nat) : EthPort := tget {} s.eth.port p

/-- Port p changed. -/
def State.setPort (s : State) (p : Nat) (f : EthPort → EthPort) : State :=
  { s with eth := { s.eth with port := tmod {} s.eth.port p f } }

/-- Queue q of the device. -/
def State.queue (s : State) (q : Nat) : Queue := tget {} s.eth.q q

/-- Queue q changed. -/
def State.setQueue (s : State) (q : Nat) (f : Queue → Queue) : State :=
  { s with eth := { s.eth with q := tmod {} s.eth.q q f } }

/-- The value of a port's ETH_MODE field in the board table as the port uses it (R415): 0 off. -/
def State.ethMode (s : State) (p : Nat) : Nat := tget 1 s.eth.bt (4 * p)

/-- The Skeic UDP port as port p uses it since its last power-up (R415, R449, R452). -/
def State.skeicAt (s : State) (p : Nat) : Nat := tget 0x4E20 s.eth.bt (4 * p + 3)

/-- The device forwards its datagrams: ETH_MODE is 0 on both ports (R517). -/
def State.forwarding (s : State) : Bool := s.ethMode 0 == 0 && s.ethMode 1 == 0

/-! ### Sizes -/

/-- The ETH_MTU that limits a queue's datagrams (R429). -/
def State.mtuOf (s : State) (portCode : Nat) : Nat :=
  if portCode = 1 then s.cur ETH_MTU 0 else if portCode = 2 then s.cur ETH_MTU 1
  else min (s.cur ETH_MTU 0) (s.cur ETH_MTU 1)

/-- Bytes of a frame to a destination that are not records: Ethernet, tag, IP, UDP, FCS and the datagram header (R415, R417,
R428). -/
def overhead (e : List Word) : Nat :=
  14 + (if destVid e = 0 then 0 else 4) + (if destV6 e then 40 else 20) + 8 + 4 + 16

/-- Bytes of a frame of this binding that are not records; destinations have no effect on a forwarding device (R517; log 86). -/
def State.headBytes (s : State) (b : Binding) : Nat :=
  if s.forwarding then Config.fwdOverhead else overhead (s.destOf b.dest)

/-- Bytes left for the records of a datagram of this binding that is begun now (R429, R430). -/
def State.room (s : State) (b : Binding) : Nat := s.mtuOf b.port - s.headBytes b

/-- Bytes that queue q's datagram may hold: a written ETH_MTU is for the next one (R429, R449). -/
def State.roomNow (s : State) (q : Nat) (b : Binding) : Nat :=
  if (s.queue q).cur.isEmpty then s.room b else (s.queue q).mtu - s.headBytes b

/-- Bytes of records. -/
def recBytes (rs : List (List Word)) : Nat := (rs.map (fun r => 4 * r.length)).sum

/-- Frame bytes of a datagram, from the destination address to the FCS (R415): its size on the wire (R434; DEDUCED, log 73). -/
def Dgram.frameBytes (d : Dgram) : Nat := recBytes d.recs + overhead d.dst

/-- The UDP payload of a datagram: header (R428) and records. -/
def Dgram.payload (d : Dgram) : List Word :=
  [pack [(d.queue, 15), (d.bind.cls, 4), (d.chain, 3), (0, 2), (1, 8)], w32 d.seq,
   pack [(d.recs.length, 16), (b2n (d.lost ≠ 0), 1)], w32 d.lost] ++ d.recs.flatten

/-- Bytes that wait in the on-chip pool, with the reservations of verdicts (R425, R426): those of queues 0 and 1 beyond the
64 KiB that each has of its own (R423), and those of the others that do not wait in LPDDR6. -/
def State.poolUsed (s : State) : Nat :=
  (s.eth.q.map (fun e => if e.1 ≤ 1 then e.2.held - 65536 else e.2.held - e.2.mem + e.2.resv)).sum

/-! ### LPDDR6 staging (R147, R276, R278, R425) -/

/-- Type byte of a record. -/
def recType (r : List Word) : Nat := (wd r 3).fld 7 0

/-- The record waits in LPDDR6: a segment, a converter-queue entry or a histogram (R425). -/
def recStaged (r : List Word) : Bool := [0x31, 0x39, 0x41].contains (recType r)

/-- Region of a record that waits in LPDDR6. -/
def recRegion (r : List Word) : Nat := (if recType r = 0x39 then (wd r 4).fld 8 0 else (wd r 0).fld 11 3) / 64

/-- The device's own datagrams that are closed and wait, or are on the wire. -/
def State.ownDgrams (s : State) : List Dgram :=
  let wire (p : Nat) : List Dgram := match (s.port p).wire with
    | some (.dgram d) => [d]
    | _ => []
  ((wire 0 ++ wire 1 ++ (s.port 0).wait ++ (s.port 1).wait ++ s.ch.up.dgrams).filter (fun d => d.chain == s.addr)).eraseDups

/-- The records that wait in LPDDR6, each once, in whatever number of queues. -/
def State.stagedRecs (s : State) : List (List Word) :=
  ((s.eth.q.flatMap (fun e => e.2.cur) ++ s.ownDgrams.flatMap (·.recs)).filter recStaged).eraseDups

/-- The records of some types of region r that wait in the staging of its home channel, or in the spill area of the next one
(R276, R278). -/
def State.stagedOf (s : State) (r : Nat) (spill : Bool) (types : List Nat) : List (List Word) :=
  s.stagedRecs.filter (fun x => types.contains (recType x) && recRegion x == r &&
    (tget {} s.regions r).spilt.contains x == spill)

/-- Bytes of these records. -/
def State.stagedIn (s : State) (r : Nat) (spill : Bool) (types : List Nat) : Nat := recBytes (s.stagedOf r spill types)

/-- Memory channel k takes writes: its domain is on and it is in use. -/
def State.memInUse (s : State) (k : Nat) : Bool := s.works (72 + k) && (tget {} s.mem k).st == 0

/-- Where region r writes: into its home channel (false), or, while that retrains or has failed, into the spill area of the
next one (true); nowhere where that one takes no writes either (R271, R278). -/
def State.writesTo (s : State) (r : Nat) : Option Bool :=
  if s.memInUse r then some false
  else if [1, 2].contains (tget {} s.mem r).st && s.memInUse ((r + 1) % 8) then some true
  else none

/-- The staging of region r has room for a record of a type of n bytes: 16 MiB for histograms, 32 MiB for converter-queue
entries, 64 MiB together in the spill area, where segments give way (R276, R278; DESIGN CHOICE, log 89). -/
def State.stageRoom (s : State) (r type n : Nat) : Bool :=
  match s.writesTo r with
  | none => false
  | some false => s.stagedIn r false [type] + n ≤ (if type = 0x41 then 16 else 32) * 2 ^ 20
  | some true => s.stagedIn r true [0x39, 0x41] + n ≤ 64 * 2 ^ 20

/-- A record has been staged: where its region writes to the spill area, it lies there (R278). -/
def State.noteSpilt (s : State) (x : List Word) : State :=
  let r := recRegion x
  if [0x39, 0x41].contains (recType x) && s.writesTo r = some true && s.stagedRecs.contains x then
    { s with regions := tmod {} s.regions r (fun g => { g with
        spilt := g.spilt.filter (fun y => s.stagedRecs.contains y && y ≠ x) ++ [x] }) }
  else s

/-- Area code and ring generation in the tag of the units of a staged record (R274; the codes in the order of R276's table:
PRESUMED, log 32). -/
def State.stagedTag (s : State) (x : List Word) : Nat × BitVec 8 :=
  (if (tget {} s.regions (recRegion x)).spilt.contains x then 5 else if recType x = 0x39 then 2 else 3, Config.stageGen x)

/-- Area code and ring generation in the tag of the units of a segment (R274). -/
def Seg.tag (g : Seg) : Nat × BitVec 8 := (if g.spill then 5 else 6, BitVec.ofNat 8 g.gen)

/-- LPDDR6 has room for a record that waits there: a segment waits in its ring (R279), and one that another queue holds too
is staged already. -/
def State.stages (s : State) (x : List Word) : Bool :=
  recType x = 0x31 || s.stagedRecs.contains x || s.stageRoom (recRegion x) (recType x) (4 * x.length)

/-! ### Ports -/

/-- Priority of a datagram at a port (R433). -/
def Dgram.prio (d : Dgram) : Nat := if d.bind.cls = 11 then 1 else if d.bind.cls = 10 then 2 else 4

/-- The key that orders a datagram's queue in the deficit round robin: its queue, or 32,768 + address for another
device's (R434, R518). -/
def Dgram.rr (d : Dgram) (own : Nat) : Nat := if d.chain = own then d.queue else 32768 + d.chain

/-- The deficit of a round-robin key at port p. -/
def State.deficit (s : State) (p k : Nat) : Nat :=
  if k < 32768 then (if p = 0 then (s.queue k).defA else (s.queue k).defB) else tget 0 (s.port p).fwdDef (k - 32768)

/-- The deficit of a round-robin key at port p, set. -/
def State.setDeficit (s : State) (p k v : Nat) : State :=
  if k < 32768 then s.setQueue k (fun q => if p = 0 then { q with defA := v } else { q with defB := v })
  else s.setPort p (fun e => { e with fwdDef := tset 0 e.fwdDef (k - 32768) v })

/-- The smallest of a list of keys above k, else the smallest of all: the next queue in ascending order. -/
def nextKey (k : Nat) (l : List Nat) : Option Nat :=
  match (l.filter (fun x => k < x)).min? with
  | some x => some x
  | none => l.min?

/-- A datagram still waits or is sent somewhere: on either port or on the chain link. -/
def State.pendingDgram (s : State) (d : Dgram) : Bool :=
  [0, 1].any (fun p => (s.port p).wire == some (.dgram d) || (s.port p).wait.contains d) || s.ch.up.dgrams.contains d

/-- A datagram's bytes given back to its queue, once its last copy is gone. -/
def State.release (s : State) (d : Dgram) : State :=
  if d.chain = s.addr && !s.pendingDgram d then
    s.setQueue d.queue (fun q => { q with held := q.held - recBytes d.recs, mem := q.mem - recBytes (d.recs.filter recStaged) })
  else s

/-! ### Fuses in use -/

/-- The key of a fuse field's instance. -/
def fuseKey (f inst : Nat) : Nat := f * 64 + inst

/-- The value of a fuse field in use: its shadow register (R569, R595). -/
def State.fuseVal (s : State) (f inst : Nat) : Nat := tget 0 s.fuse.shadow (fuseKey f inst)

/-- The port's MAC address from the fuses (R449). -/
def State.macOf (s : State) (p : Nat) : Nat := s.fuseVal (7 + p) 0

/-! ### Frames -/

/-- The port's own IP address, 4 or 16 bytes (R417, R449). -/
def State.ipOf (s : State) (p : Nat) (v6 : Bool) : List Byte :=
  if v6 then [ETH_IPV6_ADDR0, ETH_IPV6_ADDR1, ETH_IPV6_ADDR2, ETH_IPV6_ADDR3].flatMap (fun a => bytesBE (s.cur a p) 4)
  else bytesBE (s.cur ETH_IPV4_ADDR p) 4

/-- The headers of a datagram at port p (R417, R419, R421). -/
def State.headers (s : State) (p : Nat) (d : Dgram) : Headers :=
  let v6 := destV6 d.dst
  { dmac := if p = 0 then d.mac.1 else d.mac.2, smac := s.macOf p, vid := destVid d.dst, pcp := d.bind.pcp, v6 := v6, dscp := d.bind.dscp
    src := s.ipOf p v6, dst := (if v6 then span 4 4 else [4]).flatMap (fun i => bytesBE (wd d.dst i).toNat 4)
    sport := (wd d.dst 1).fld 31 16, dport := (wd d.dst 1).fld 15 0 }

/-- The bytes of the frame that carries a datagram from port p. -/
def State.frameOf (s : State) (p : Nat) (d : Dgram) : List Byte := (s.headers p d).frame (wordsBytes d.payload)

/-- The bytes of the frame that carries a Skeic response from port p: to the source of its command, with the VID of that
command's frame (R456; marks and MAC address log 86). -/
def State.respFrame (s : State) (p : Nat) (dst : Addr) (udp vid sport : Nat) (msg : List Word) : List Byte :=
  ({ dmac := (Config.peerMac p dst.bits).toNat, smac := s.macOf p, vid := vid, pcp := Config.respMark.1, v6 := dst.v6
     dscp := Config.respMark.2, src := s.ipOf p dst.v6, dst := bytesBE dst.bits.toNat (if dst.v6 then 16 else 4)
     sport := sport, dport := udp } : Headers).frame (wordsBytes msg)

/-- Port p puts an item on the wire. An 802.1AS frame is stamped there: the Follow_Up of a Sync and of a Pdelay_Resp carry the
instant at which the frame left, and a Pdelay_Req's is kept for the answer (two-step transmission, R100). -/
def State.putWire (s : State) (p : Nat) (it : Item) : State :=
  let s := s.setPort p (fun e => { e with wire := some it })
  let then_ (i : Item) : State := s.setPort p (fun e => { e with ctl := i :: e.ctl })
  match it with
  | .dgram d => s.setPort p (fun e => { e with frame := s.frameOf p d })
  | .resp dst udp vid sport msg => s.setPort p (fun e => { e with frame := s.respFrame p dst udp vid sport msg })
  | .ptp 0 q _ => then_ (.ptp 8 q [s.tb.map.at s.fineNow])
  | .ptp 3 q _ => then_ (.ptp 10 q [s.tb.map.at s.fineNow])
  | .ptp 2 q _ => { s with tb := { s.tb with asp := tmod {} s.tb.asp p (fun a => { a with reqAt := some (q, (s.tb.tick : Nat)) }) } }
  | _ => s

/-- The first waiting datagram of each queue of each device: those behind it wait for it, as datagrams of one queue leave in
sequence order (R436). -/
def headsOf (l : List Dgram) : List Dgram :=
  l.foldl (fun a d => if a.any (fun x => x.queue == d.queue && x.chain == d.chain) then a else a ++ [d]) []

/-- The first datagram of a round-robin key that waits at port p. -/
def State.firstOf (s : State) (p k : Nat) : Option Dgram :=
  (headsOf (s.port p).wait).find? (fun d => d.prio == 4 && d.rr s.addr == k)

/-- The quantum of a round-robin key at port p: that of the binding under which its datagram leaves (R424, R434, R518). -/
def State.quantum (s : State) (p k : Nat) : Nat :=
  if k < 32768 then (match s.firstOf p k with | some d => d.bind.quantum | none => 0) else s.val CH_FWD_QUANTUM

/-- The deficit of a key of which nothing waits at port p is zero (R434). -/
def State.idle (s : State) (p k : Nat) : State :=
  if (s.port p).wait.any (fun d => d.prio == 4 && d.rr s.addr == k) then s else s.setDeficit p k 0

/-- A datagram of round-robin key k leaves what port p waits to send, at the cost of its frame; the key's deficit is cleared
once nothing of it waits (R434). -/
def State.sendDgram (s : State) (p k : Nat) (d : Dgram) : State :=
  let s := s.setDeficit p k (s.deficit p k - d.frameBytes)
  let s := s.setPort p (fun e => { e with wait := e.wait.erase d, last := k })
  (s.idle p k).putWire p (.dgram d)

/-- The next round-robin key that holds a closed datagram is visited at port p, and its quantum added (R434). -/
def State.visit (s : State) (p k : Nat) : State :=
  (s.setDeficit p k (s.deficit p k + s.quantum p k)).setPort p (fun e => { e with last := k })

/-- The next round-robin key after k at port p (R434). -/
def State.nextRr (s : State) (p k : Nat) : Option Nat :=
  nextKey k (((headsOf (s.port p).wait).filter (fun d => d.prio == 4)).map (·.rr s.addr))

/-- One choice of the deficit round robin at port p (R434): the queue visited last goes on while its deficit reaches;
then the next queue that holds a closed datagram is visited and its quantum added. -/
def State.drr : Nat → State → Nat → State
  | 0, s, _ => s
  | n + 1, s, p =>
    let k := (s.port p).last
    let on := match s.nextRr p k with
      | none => s
      | some k' => State.drr n (s.visit p k') p
    match s.firstOf p k with
    | some d => if d.frameBytes ≤ s.deficit p k then s.sendDgram p k d else on
    | none => on

/-- Port p, with a link and nothing on the wire, chooses what it sends next (R433), of each queue its oldest datagram (R436). -/
def State.choose (s : State) (p : Nat) : State :=
  let e := s.port p
  if !e.up || e.wire.isSome then s else
  let first := headsOf e.wait
  match first.find? (fun d => d.prio == 1) with
  | some d => (s.setPort p (fun e => { e with wait := e.wait.erase d })).putWire p (.dgram d)
  | none =>
    match first.find? (fun d => d.prio == 2) with
    | some d => (s.setPort p (fun e => { e with wait := e.wait.erase d })).putWire p (.dgram d)
    | none =>
      match e.ctl with
      | it :: r => (s.setPort p (fun e => { e with ctl := r })).putWire p it
      | [] => if e.wait.isEmpty then s else s.drr (9300 * (e.wait.length + 1)) p

/-- A discarded datagram counted against ports (R420, R432). -/
def State.countDrop (s : State) (ps : List Nat) : State :=
  ps.foldl (fun s p => s.setPort p (fun e => { e with drop := wrap 32 (e.drop + 1) })) s

/-- A datagram without a way out: discarded and counted against ports (R420, R432). -/
def State.dropDgram (s : State) (d : Dgram) (ps : List Nat) : State := (s.countDrop ps).release d

/-- A datagram added to what port p waits to send. -/
def State.toPort (s : State) (d : Dgram) (p : Nat) : State :=
  (s.setPort p (fun e => { e with wait := e.wait ++ [d] })).choose p

/-- The ports that a closed datagram goes to under its port code (R431), with the ports it counts against when it has none:
its only or its first port (R432), with code 3 both (DESIGN CHOICE, log 74). -/
def State.routes (s : State) (code : Nat) : List Nat × List Nat :=
  let a := (s.port 0).up
  let b := (s.port 1).up
  match code with
  | 1 => (if a then [0] else [], [0])
  | 2 => (if b then [1] else [], [1])
  | 3 => ((if a then [0] else []) ++ (if b then [1] else []), [0, 1])
  | 4 => (if a then [0] else if b then [1] else [], [0])
  | _ => (if b then [1] else if a then [0] else [], [1])

/-- An item handed to the downstream (true) or upstream (false) chain link (R514). -/
def State.linkSend (s : State) (down : Bool) (prio : Nat) (ws : List Word) : State :=
  let f (l : Link) : Link := { l with sent := l.sent + 1, last := (prio, ws) }
  { s with ch := if down then { s.ch with down := f s.ch.down } else { s.ch with up := f s.ch.up } }

/-- A chain link. -/
def State.link (s : State) (down : Bool) : Link := if down then s.ch.down else s.ch.up

/-- This device passes on what other devices send: in its safe state too, unless a fabric fatal error or a supply fault has
caused it (R495, R515). -/
def State.passesOn (s : State) : Bool :=
  s.enum.addr.isSome && !(s.pwr.safe && (s.pwr.safeCause = 1 || s.pwr.safeCause = 4))

/-- An item handed to a chain link that is UP; it is lost where the link is not (DESIGN CHOICE, log 80). -/
def State.toLink (s : State) (down : Bool) (prio : Nat) (ws : List Word) : State :=
  if (s.link down).st = 2 then s.linkSend down prio ws else s

/-- The lane markers that a device sends on a link: lane number and its own chain address, one on each lane (R511). -/
def State.laneMarkers (s : State) : List (Nat × Nat) := (List.range 4).map (fun lane => (lane, s.addr))

/-- Priority of a datagram on a chain link (R514). -/
def Dgram.linkPrio (d : Dgram) : Nat := if d.bind.cls = 11 || d.bind.cls = 10 then 1 else 3

/-- A closed datagram sent on its way: to the chain link on a forwarding device (R517, R519), else to its ports (R431),
discarded where the destination is unresolved on a port (R420) or no port has a link (R432). It keeps the destination as it
stands at its closing (R419). With an enumeration fault the device forwards nothing (R495). -/
def State.route (s : State) (d : Dgram) : State :=
  if s.forwarding && d.chain = s.addr then
    if s.ch.up.st = 0 || s.enum.fault then s.dropDgram d (s.routes d.bind.port).2
    else if s.ch.up.st = 2 then (s.linkSend false d.linkPrio d.payload).release d
    else { s with ch := { s.ch with up := { s.ch.up with dgrams := s.ch.up.dgrams ++ [d] } } }
  else
    let r := s.routes d.bind.port
    let mac (p : Nat) : Option Nat := s.destMac p d.bind.dest
    let d := { d with dst := s.destOf d.bind.dest, mac := ((mac 0).getD 0, (mac 1).getD 0) }
    let out := r.1.filter (fun p => (mac p).isSome)
    let no := if r.1.isEmpty then r.2 else r.1.filter (fun p => (mac p).isNone)
    if out.isEmpty then s.dropDgram d no else out.foldl (fun t p => t.toPort d p) (s.countDrop no)

/-- The datagrams that wait for the upstream link have no way out any more (R432, R519). -/
def State.dropWaiting (s : State) : State :=
  let ds := s.ch.up.dgrams
  ds.foldl (fun (s : State) (d : Dgram) => s.dropDgram d (s.routes d.bind.port).2) { s with ch := { s.ch with up := { s.ch.up with dgrams := [] } } }

/-- The open datagram of queue q closes, if it holds a record (R429). -/
def State.closeDgram (s : State) (q : Nat) : State :=
  let e := s.queue q
  if e.cur.isEmpty then s else
  let d : Dgram := { queue := q, chain := s.addr, bind := e.curBind, seq := e.seq, recs := e.cur, lost := e.lost }
  let s := s.setQueue q (fun e => { e with cur := [], seq := wrap 32 (e.seq + 1), lost := 0 })
  s.route d

/-- A record of queue q discarded and counted (R425, R430). -/
def State.discardRec (s : State) (q : Nat) : State :=
  (s.setQueue q (fun e => { e with disc := wrap 32 (e.disc + 1), lost := sat 32 (e.lost + 1) })).countC 0x21 0 1

/-- Queue q has room for a record under its depth and the pool or the memory staging (R423, R425). -/
def State.hasRoom (s : State) (q : Nat) (r : List Word) : Bool :=
  let b := s.bindOf q
  let e := s.queue q
  let n := 4 * r.length
  let depthOk := e.held + e.resv + n ≤ 1024 * b.depth
  let placeOk :=
    if q ≤ 1 then e.held + n ≤ 65536 || s.poolUsed + n ≤ 16 * 2 ^ 20
    else if recStaged r then s.stages r
    else s.poolUsed + n ≤ 16 * 2 ^ 20
  depthOk && placeOk

/-- A record joins the open datagram of queue q, which closes first where the record does not fit (R424, R429). -/
def State.addRecord (s : State) (q : Nat) (r : List Word) : State :=
  let b := s.bindOf q
  let n := 4 * r.length
  let s := if recBytes (s.queue q).cur + n ≤ s.roomNow q b then s else s.closeDgram q
  let mtu := if (s.queue q).cur.isEmpty then s.mtuOf b.port else (s.queue q).mtu
  let s := s.setQueue q (fun e => { e with
    cur := e.cur ++ [r], curBind := b, mtu := mtu, enq := wrap 32 (e.enq + 1), held := e.held + n
    mem := if recStaged r then e.mem + n else e.mem })
  let s := (s.noteSpilt r).countC 0x20 b.cls 1
  if b.flush = 0 then s.closeDgram q else s

/-- A record put into queue q (R422 to R430): the answer says whether it was taken. -/
def State.enqueue (s : State) (q : Nat) (r : List Word) : Bool × State :=
  let b := s.bindOf q
  let n := 4 * r.length
  if b.port = 0 then (false, s)
  else if s.room b < n then (false, s.discardRec q)
  else if !s.hasRoom q r then (false, s.discardRec q)
  else (true, s.addRecord q r)

/-- A record put into every bound queue of its class that takes it (R422). -/
def State.enqueueAll (s : State) (cls : Nat) (takes : Binding → Bool) (r : Binding → List Word) : State :=
  s.queueList.foldl (fun t q =>
    let b := t.bindOf q
    if b.port ≠ 0 && b.cls = cls && takes b then (t.enqueue q (r b)).2 else t) s

/-- The binding's channel range holds channel c (R422). -/
def Binding.has (b : Binding) (c : Nat) : Bool := b.first ≤ c && c < b.first + b.count

/-- The word W3 of a record: type byte, low 8 bits of a frame sequence, and the rest. -/
def recW3 (frame typ rest : Nat) : Word := pack [(typ, 8), (frame, 8), (rest, 16)]

/-! ### Events (R446) -/

/-- The words of an event record. -/
def State.eventWords (s : State) (level inst code : Nat) (det : List Nat) (ns : Int) : List Word :=
  [pack [(s.addr, 3), (level, 3), (inst, 10), (code, 16)]] ++ lohi ns ++ [recW3 s.kept.frame 0x71 s.eth.evSeq] ++
    (det ++ List.replicate (4 - det.length) 0).map w32

/-- An event record enqueued; the event sequence increments for every event generated (R446, R427). -/
def State.pushEvent (s : State) (level inst code : Nat) (det : List Nat) (ns : Int) : State :=
  let r := s.eventWords level inst code det ns
  let s := { s with eth := { s.eth with evSeq := wrap 16 (s.eth.evSeq + 1) } }
  s.enqueueAll 10 (fun _ => true) (fun _ => r)

/-- An event of the chip: held while event 0210h is still to come (R613), else enqueued. -/
def State.event (s : State) (level inst code : Nat) (det : List Nat) : State :=
  if s.boot.hold then { s with boot := { s.boot with held := s.boot.held ++ [(level, inst, code, det, s.nowNs)] } }
  else s.pushEvent level inst code det s.nowNs

/-- An event at chip level, instance 0. -/
def State.chipEvent (s : State) (code : Nat) (det : List Nat) : State := s.event 3 0 code det

end Sys2Proof.Machine
end

