-- ==== Sys2Proof/Machine/Mailbox.lean ====
section
/-! DEFINITION. Mailboxes, message words, responses and the fuse values in use: what every Skeic command rests on
(chapter 12, chapter 15). -/
namespace Sys2Proof.Machine

/-! ### Fuses in use -/

/-- SKE_SP_LOCK: the service port is locked. -/
def State.spLocked (s : State) : Bool := s.fuseVal 13 0 % 2 == 1

/-- The eight serial bytes (R465). -/
def State.serialBytes (s : State) : List Byte := bytesLE (s.fuseVal 3 0) 8

/-- The session key of R465: role key, host nonce, device nonce, session number. -/
def State.sessionKey (s : State) (service : Bool) (nh nd : List Byte) (n : Nat) : List Byte :=
  hmac (bytesLE (s.fuseVal (if service then 10 else 9) 0) 32)
    (ascii "SKEIC-SES" ++ nh ++ nd ++ [BitVec.ofNat 8 n] ++ s.serialBytes)

/-- The wake key of R466. -/
def State.wakeKey (s : State) : List Byte := hmac (bytesLE (s.fuseVal 9 0) 32) (ascii "SKEIC-WAKE" ++ s.serialBytes)

/-- The trailer of R465 over a message's words: four words. -/
def trailer (key : List Byte) (ws : List Word) : List Word := bytesWords ((hmac key (wordsBytes ws)).take 16)

/-! ### Mailboxes -/

/-- Mailbox m. -/
def State.mbx (s : State) (m : Nat) : Mbx := tget {} s.ske.mbx m

/-- Mailbox m changed. -/
def State.setMbx (s : State) (m : Nat) (f : Mbx → Mbx) : State :=
  { s with ske := { s.ske with mbx := tmod {} s.ske.mbx m f } }

/-- Word i of mailbox m. -/
def State.mw (s : State) (m i : Nat) : Word := tget 0 s.ske.mem (m * 1024 + i)

/-- Word i of mailbox m written. -/
def State.setMw (s : State) (m i : Nat) (w : Word) : State :=
  { s with ske := { s.ske with mem := tset 0 s.ske.mem (m * 1024 + i) w } }

/-- A list of words written from word i of mailbox m on. -/
def State.setMws (s : State) (m : Nat) : Nat → List Word → State
  | _, [] => s
  | i, w :: r => (s.setMw m i w).setMws m (i + 1) r

/-- The opcode of the message in mailbox m (R459). -/
def State.opcode (s : State) (m : Nat) : Nat := (s.mw m 0).fld 15 0

/-- The payload length of the message in mailbox m. -/
def State.plen (s : State) (m : Nat) : Nat := (s.mw m 2).fld 25 16

/-- Payload word n of the message in mailbox m. -/
def State.pw (s : State) (m n : Nat) : Word := s.mw m (4 + n)

/-- The payload of the message in mailbox m. -/
def State.payload (s : State) (m : Nat) : List Word := (List.range (s.plen m)).map (s.pw m)

/-- The session of the message in mailbox m. -/
def State.sessOf (s : State) (m : Nat) : Nat := (s.mw m 2).fld 3 0

/-- Session n. -/
def State.sess (s : State) (n : Nat) : Sess := tget {} s.ske.sess n

/-- Session n changed. -/
def State.setSess (s : State) (n : Nat) (f : Sess → Sess) : State :=
  { s with ske := { s.ske with sess := tmod {} s.ske.sess n f } }

/-- The words of a response to the command header h0 to h3: response bit, session, status, payload, trailer under the key
(R459, R465); its reserved bits are 0, whatever the command carried there (R5). -/
def responseWords (h0 h1 h2 h3 : Word) (status : Nat) (payload : List Word) (key : List Byte) : List Word :=
  let pl := if status = 0 then payload else []
  let body := [pack [(h0.fld 24 0, 25), (1, 1)], h1, pack [(h2.fld 3 0, 4), (0, 4), (status, 8), (pl.length, 10)], h3] ++ pl
  if key.isEmpty then body else body ++ trailer key body

/-- The number of words of the message or response in mailbox m, with its trailer where it has one. -/
def State.msgLen (s : State) (m : Nat) : Nat := 4 + s.plen m + (if (s.mbx m).key.isEmpty then 0 else 4)

/-- The words of the message or response in mailbox m. -/
def State.message (s : State) (m : Nat) : List Word := (List.range (s.msgLen m)).map (s.mw m)

/-- The response of mailbox m is ready: written into the mailbox, for the port to take it or with the doorbell set
(R456, R457, R483). Nothing is sent for a mailbox that a reset has freed (R612). -/
def State.respond (s : State) (m status : Nat) (payload : List Word) : State :=
  let b := s.mbx m
  if b.st = 0 then s else
  let ws := responseWords (s.mw m 0) (s.mw m 1) (s.mw m 2) (s.mw m 3) status payload b.key
  let s := { s.setMws m 0 ws with ske := { (s.setMws m 0 ws).ske with order := s.ske.order.erase m } }
  if b.viaSp then
    let s := s.setMbx m (fun b => { b with st := 4, ready := false })
    { s with ske := { s.ske with bell := s.ske.bell ||| BitVec.ofNat 64 (2 ^ m) } }
  else s.setMbx m (fun b => { b with st := 3, ready := true })

/-- An item of priority 3 for port p: a Skeic response, an 802.1AS frame or a firmware frame (R433). -/
def State.toCtl (s : State) (p : Nat) (it : Item) : State :=
  (s.setPort p (fun e => { e with ctl := e.ctl ++ [it] })).choose p

/-- Discard count of cause c (R453): 0 framing, 1 unknown session, 2 authentication, 3 replay, 4 session-0 opcode, 5
busy. -/
def State.skeDiscard (s : State) (c : Nat) : State :=
  ({ s with ske := { s.ske with disc := tmod 0 s.ske.disc c (fun n => wrap 32 (n + 1)) } }).countC 0x28 0 1

end Sys2Proof.Machine
end

