-- ==== Sys2Proof/Machine/JournalOps.lean ====
section
/-! DEFINITION. Journal transactions: where pages go, how a transaction starts, commits and is abandoned (chapter 16). -/
namespace Sys2Proof.Machine

/-- Blocks of the journal area: capacity less 52 MiB, in blocks of 64 KiB (R578). -/
def Journal.blockCount (j : Journal) : Nat := (j.mib - 52) * 16

/-- Blocks that are not free: opened, waiting for erase or retired. -/
def Journal.busyBlocks (j : Journal) : Nat := (j.blocks.filter (fun e => e.2.st ≠ 0)).length

/-- Free blocks. -/
def Journal.freeBlocks (j : Journal) : Nat := j.blockCount - j.busyBlocks

/-- Pages of data that a block holds: 256 less its header (R577, R578). -/
def blockPages : Nat := 256

/-- The first free block at or after a, in ascending address and wrapping (R585); n blocks are looked at. -/
def Journal.findFree (j : Journal) : Nat → Nat → Option Nat
  | 0, _ => none
  | n + 1, a =>
    let a := if a < j.blockCount then a else 0
    if (tget {} j.blocks a).st = 0 then some a else j.findFree n (a + 1)

/-- The next block is opened (R578, R585). -/
def Journal.openBlock (j : Journal) : Journal :=
  match j.findFree j.blockCount (match j.cur with | none => 0 | some a => a + 1) with
  | none => { j with cur := none, page := 0 }
  | some a =>
    { j with blocks := tmod {} j.blocks a (fun b => { b with st := 1, seq := j.blockSeq }),
             cur := some a, page := 1, blockSeq := j.blockSeq + 1, opened := j.opened + 1 }

/-- One page taken from the journal, in a new block when the present one is full. -/
def Journal.takePage (j : Journal) : Journal :=
  let j := if j.cur.isNone || j.page ≥ blockPages then j.openBlock else j
  { j with page := j.page + 1 }

/-- Bytes of a commit record (R579). -/
def commitBytes : Nat := 24

/-- Pages of a transaction whose records take n bytes (R579). -/
def txnPages (n : Nat) : Nat := ceilDiv (n + commitBytes) 256

/-- A compaction starts, unless one runs: a snapshot, whose sequence is the next one (R583, R584). -/
def State.startCompaction (s : State) : State :=
  if s.jnl.comp.isSome || s.jnl.readOnly then s else
  { s with jnl := { s.jnl with comp := some { seq := s.jnl.next }, next := s.jnl.next + 1 } }

/-- Compaction where a trigger holds: fewer than 24 free blocks, or 128 opened since the snapshot (R583). -/
def State.compactIfDue (s : State) : State :=
  if s.jnl.freeBlocks < 24 || s.jnl.opened ≥ 128 then s.startCompaction else s

/-- One page programmed, and the header of a block that is opened for it: they count, and compaction may be due (R578, R583,
R596). -/
def State.takePage (s : State) : State :=
  let j := s.jnl.takePage
  (({ s with jnl := j } : State).countC 0x29 0 (if j.blockSeq = s.jnl.blockSeq then 1 else 2)).compactIfDue

/-- Sequence of the block being written. -/
def Journal.blockNow (j : Journal) : Nat :=
  match j.cur with
  | some a => (tget {} j.blocks a).seq
  | none => 0

/-- The next erase starts: of the first block that waits for one (R585). -/
def Journal.eraseOn (j : Journal) : Journal :=
  if j.erasing.isSome then j else { j with erasing := (j.blocks.find? (fun e => e.2.st == 2)).map (·.1) }

/-- Place of an item in the order in which a snapshot takes them. -/
def JItem.place : JItem → Nat
  | .begin_ => 0
  | .par x => x.k
  | .dom _ => 2 ^ 32
  | .dest x => 2 * 2 ^ 32 + x.k
  | .bind x => 3 * 2 ^ 32 + x.k
  | .boot _ => 4 * 2 ^ 32
  | .bt _ => 5 * 2 ^ 32
  | .coef x => 6 * 2 ^ 32 + x.k
  | .coinc x => 7 * 2 ^ 32 + x.k
  | .prof x => 8 * 2 ^ 32 + x.k
  | .timing x => 9 * 2 ^ 32 + x.k
  | .inter x => 10 * 2 ^ 32 + x.k
  | .ratio x => 11 * 2 ^ 32 + x.k
  | .calSt x => 12 * 2 ^ 32 + x.k
  | .slot x => 13 * 2 ^ 32 + x.k
  | .curve x => 14 * 2 ^ 32 + x.k
  | .hkCal x => 15 * 2 ^ 32 + x.k
  | .saf _ _ => 16 * 2 ^ 32
  | .brake _ => 17 * 2 ^ 32
  | .health x => 18 * 2 ^ 32 + x.k
  | .proof x => 19 * 2 ^ 32 + x.k
  | .string x => 20 * 2 ^ 32 + x.k
  | .enable _ => 21 * 2 ^ 32
  | .wear _ => 22 * 2 ^ 32
  | .retired a => 23 * 2 ^ 32 + a

/-- What a snapshot holds, as it stands now: class P as committed, the wear counters and the retired blocks (R584, R587). -/
def State.snapItems (s : State) : List JItem :=
  s.jnl.held.items ++ (if s.jnl.wear = {} then [] else [.wear s.jnl.wear]) ++
    (s.jnl.blocks.filter (fun e => e.2.st = 3)).map (fun e => .retired e.1)

/-- Records taken until they fill the page; the answer says whether none is left. -/
def fillPage (carry : Nat) : List JItem → List JItem × Nat × Bool
  | [] => ([], carry, true)
  | x :: xs =>
    if 256 ≤ carry then ([], carry, false)
    else
      let (a, c, b) := fillPage (carry + x.bytes) xs
      (x :: a, c, b)

/-- The next page of a snapshot: the items that follow, as they stand, and after the last one the commit record (R584); the answer
says whether the page ends the snapshot. -/
def State.nextSnapPage (s : State) (c : Compaction) : Compaction × Bool :=
  let (new, carry, done) := fillPage c.carry (s.snapItems.filter (fun x => decide (c.place ≤ x.place)))
  let carry := if done then carry + commitBytes else carry
  ({ c with
      recs := (if c.pages = 0 then [.begin_] else c.recs) ++ new
      place := match new.getLast? with
        | some x => x.place + 1
        | none => c.place
      carry := carry - 256, pages := c.pages + 1 }, done && carry ≤ 256)

/-- The snapshot has committed: the blocks that lie before its begin record are erased one after the other (R585), and those
opened since its begin record count from here on (R583). -/
def State.commitSnapshot (s : State) (c : Compaction) : State :=
  ({ s with jnl := ({ s.jnl with
      comp := none, live := (c.recs.map (·.bytes)).sum + commitBytes, opened := s.jnl.opened - c.opened, last := max s.jnl.last c.seq
      log := s.jnl.log ++ [{ seq := c.seq, snap := true, recs := c.recs, commit := commitRecord c.seq 15 c.pages c.recs
                             blk := c.beginBlock.getD 0 }]
      blocks := tmap {} s.jnl.blocks (fun _ b => if b.st = 1 && b.seq < c.beginBlock.getD 0 then { b with st := 2 } else b) } :
        Journal).eraseOn } : State).compactIfDue

/-- A snapshot page read back or failed: the page is taken, and that of the begin record says which block and which count of
opened blocks the snapshot starts from (R583, R585). -/
def State.snapPage (s : State) (c : Compaction) : State × Compaction :=
  let s := s.takePage
  (s, if c.pages = 0 then { c with beginBlock := some s.jnl.blockNow, opened := s.jnl.opened } else c)

/-- The snapshot's page in progress completes at a reset; where it holds the commit record the snapshot has committed, otherwise
it is ignored for want of one (R586, R617). -/
def State.stopSnapshot (s : State) : State :=
  match s.jnl.comp with
  | none => s
  | some c =>
    let (s, c) := s.snapPage c
    let (d, last) := s.nextSnapPage c
    if last then s.commitSnapshot d else s

/-- A transaction starts: n bytes of records of a subject (R579, R581). It holds the class P changes of the command, and wear
counters where it is to. -/
def State.startTxn (s : State) (subj n : Nat) (w : Waiter) (wear : Option Wear := none) : State :=
  let recs := s.jnl.held.diff s.p ++ (wear.map .wear).toList
  { s with jnl := { s.jnl with
      txn := some { seq := s.jnl.next, subj := subj, recs := recs, pages := txnPages n, left := txnPages n, waiter := w
                    wear := wear }
      next := s.jnl.next + 1 } }

/-- A change that writes class P answers: at the commit of its transaction (R580), at once where the journal is
read-only (R587). -/
def State.commitAnswer (s : State) (subj n m : Nat) (payload : List Word) : State :=
  if s.jnl.readOnly then s.respond m 0 payload else
  let s := s.startTxn subj n (.answer m payload)
  { s with ske := { s.ske with order := s.ske.order.erase m } }.setMbx m (fun b => { b with st := 3 })

/-- A transaction has its valid commit record: its records are held (R580), and on top of them what the hardware has held itself
since the transaction started, in the order of the replay (R586; log 8). -/
def Journal.commit (j : Journal) (t : Txn) : Journal :=
  let k := j.keep t.seq t.subj t.pages (t.blk.getD j.blockNow) t.recs
  let pw := (j.log.filter (fun e => !e.snap && decide (t.seq < e.seq))).foldl (fun pw e => applyRecs pw e.recs) (k.held, k.wear)
  { k with held := pw.1, wear := pw.2, last := max j.last t.seq, txn := none }

/-- A transaction in progress abandoned, once the page being programmed is complete: it leaves a transaction without a commit
record, unless that page holds the commit record; then it is completed (R588, R617). -/
def State.abandonTxn (s : State) : State :=
  match s.jnl.txn with
  | none => s
  | some t =>
    let s := s.takePage
    if t.left ≤ 1 then { s with jnl := s.jnl.commit t }
    else { s with jnl := { s.jnl with
        log := s.jnl.log ++ [{ seq := t.seq, subj := t.subj, recs := t.recs, blk := t.blk.getD s.jnl.blockNow }], txn := none } }

end Sys2Proof.Machine
end

