-- ==== Sys2Proof/Machine/SkeicCore.lean ====
section
/-! DEFINITION. How a placed Skeic message is executed: order, role, safe state, journal, answer (R463, R470 to R475,
R580, R581, R624). -/
namespace Sys2Proof.Machine

/-- What the application of a command comes to. -/
inductive Res where
  /-- Applied; the response is ready with this payload. -/
  | done (s : State) (payload : List Word)
  /-- Applied; it writes class P: n bytes of journal records, and the response follows the commit (R580). -/
  | commit (s : State) (n : Nat) (payload : List Word)
  /-- Applied; the response follows a later event that the owning chapter names. -/
  | later (s : State)
  /-- Its action goes on: later changes of its subject wait until it is answered (R471). -/
  | run (s : State)
  /-- Not executed: answered with this status (R459). -/
  | status (code : Nat)
  /-- Not applied yet: it waits. -/
  | wait
  /-- A host error of R474. -/
  | err (why : String)
  deriving Inhabited

/-- Queries (R470): names that end in _GET, _READ, _STATUS or _LIST, and ECHO. -/
def queries : Nat → List Nat
  | 1 => [0x0101, 0x0104, 0x0105, 0x0106, 0x0109, 0x010A]
  | 2 => [0x0201, 0x0204, 0x0205, 0x0207]
  | 3 => [0x0301, 0x0302, 0x0303, 0x0306]
  | 4 => [0x0401, 0x0403, 0x0406, 0x040A]
  | 5 => [0x0501, 0x0503, 0x0505, 0x0507, 0x0509]
  | 6 => [0x0601, 0x0603, 0x0609]
  | 7 => [0x0701, 0x0703, 0x0705, 0x0706]
  | 8 => [0x0801, 0x0803, 0x0804]
  | 9 => [0x0901, 0x0903, 0x0906]
  | 10 => [0x0A01, 0x0A03, 0x0A07]
  | 11 => [0x0B01, 0x0B03, 0x0B05, 0x0B07]
  | 12 => [0x0C01, 0x0C03, 0x0C05]
  | 13 => [0x0D01, 0x0D03, 0x0D05, 0x0D07, 0x0D08]
  | 14 => [0x0E01, 0x0E03, 0x0E06, 0x0E07]
  | 15 => [0x0F01, 0x0F03, 0x0F06, 0x0F09]
  | _ => []

/-- The number of opcodes of each subject: 01h up to it (R460). -/
def opcodeCount : Nat → Nat
  | 1 => 14
  | 2 => 7
  | 3 => 6
  | 4 => 10
  | 5 => 9
  | 6 => 11
  | 7 => 9
  | 8 => 5
  | 9 => 7
  | 10 => 7
  | 11 => 7
  | 12 => 5
  | 13 => 8
  | 14 => 8
  | 15 => 9
  | _ => 0

/-- The opcode is that of a command (R460). -/
def opcodeKnown (op : Nat) : Bool := 1 ≤ op % 256 && op % 256 ≤ opcodeCount (op / 256)

/-- The command is a query (R470). -/
def isQuery (op : Nat) : Bool := (queries (op / 256)).contains op

/-- The commands that an operate session may not issue (R463; FUSE_PROGRAM, chapter 15). -/
def serviceOnly (op : Nat) : Bool := [0x010B, 0x010C, 0x010E, 0x0E08].contains op

/-- An earlier placed change of the same subject is not applied yet (R471). -/
def State.behind (s : State) (m : Nat) : Bool :=
  (s.ske.order.takeWhile (· ≠ m)).any (fun k => s.opcode k / 256 == s.opcode m / 256)

/-- Mailbox m holds a placed, unapplied message with this opcode, and the firmware serves messages. -/
def State.holds (s : State) (m op : Nat) : Bool :=
  s.ske.serving && (s.mbx m).st == 2 && s.opcode m == op

/-- A placed command applied: R471 (order), R624 (safe state), R463 (role), R581 (one transaction at a time), R580
(answer after the commit). Where the mailbox holds no such message, or the command waits, the state stays (log 3). -/
def State.skeic (s : State) (op : Nat) (m : Fin 64) (body : State → Res) : Out :=
  if !s.holds m op then .next s
  else if !isQuery op && s.behind m then .next s
  else if !isQuery op && s.pwr.safe && op ≠ 0x0107 then .next (s.respond m 2 [])
  else if serviceOnly op && !(s.mbx m).service then .next (s.respond m 3 [])
  else match body s with
    | .done t p => .next (t.respond m 0 p)
    | .commit t n p => if s.jnl.txn.isSome then .next s else .next (t.commitAnswer (op / 256) n m p)
    | .later t =>
      .next ({ t with ske := { t.ske with order := t.ske.order.erase m } }.setMbx m
        (fun b => if b.st = 2 then { b with st := 3 } else b))
    | .run t => .next (t.setMbx m (fun b => if b.st = 2 then { b with st := 3 } else b))
    | .status c => .next (s.respond m c [])
    | .wait => .next s
    | .err why => .fault (.hostError why)

/-- A condition of the command's payload, else a host error (R474). -/
def need (c : Bool) (why : String) (r : Res) : Res := if c then r else .err why

/-! ### Parameter reads and writes, the same in every subject -/

/-- A device-wide parameter written from W0 [7:0] index and W1 value (each chapter's PARAM_WRITE). -/
def State.parWrite (s : State) (subj m : Nat) (after : State → Par → State) : Res :=
  need ((s.pw m 0).fld 31 8 = 0) "reserved bits" <|
  match findPar subj ((s.pw m 0).fld 7 0) with
  | none => .err "parameter index"
  | some p =>
    need (p.eff ≠ .readOnly) "read-only parameter" <|
    need (p.ok (s.pw m 1).toNat) "parameter value" <|
    .commit (after (s.writePar p (s.pw m 1).toNat 0) p) (recordBytes 1) []

/-- A device-wide parameter read: the response carries index word and value. -/
def State.parRead (s : State) (subj m : Nat) : Res :=
  need ((s.pw m 0).fld 31 8 = 0) "reserved bits" <|
  match findPar subj ((s.pw m 0).fld 7 0) with
  | none => .err "parameter index"
  | some p => .done s [s.pw m 0, w32 (s.work p 0)]

/-- A parameter written that has a range of instances: W0 [7:0] index, W0 [16:8] first, W0 [26:17] count, W1 value; a
device-wide parameter takes no range (as FE_PARAM_WRITE, R152). -/
def State.parWriteRange (s : State) (subj m : Nat) (after : State → Par → State) : Res :=
  need ((s.pw m 0).fld 31 27 = 0) "reserved bits" <|
  match findPar subj ((s.pw m 0).fld 7 0) with
  | none => .err "parameter index"
  | some p =>
    let first := (s.pw m 0).fld 16 8
    let n := (s.pw m 0).fld 26 17
    need (p.eff ≠ .readOnly) "read-only parameter" <|
    need (p.ok (s.pw m 1).toNat) "parameter value" <|
    if p.insts = 1 then .commit (after (s.writePar p (s.pw m 1).toNat 0) p) (recordBytes 1) []
    else
      need (first + n ≤ p.insts) "channel range" <|
      .commit (after (s.writePars p (s.pw m 1).toNat first n) p) (recordBytes 1) []

/-- A parameter read that has a range of instances: the response carries W0 and the value of the first instance. -/
def State.parReadRange (s : State) (subj m : Nat) : Res :=
  need ((s.pw m 0).fld 31 27 = 0) "reserved bits" <|
  match findPar subj ((s.pw m 0).fld 7 0) with
  | none => .err "parameter index"
  | some p =>
    need (p.insts = 1 || (s.pw m 0).fld 16 8 < p.insts) "channel range" <|
    .done s [s.pw m 0, w32 (s.work p (if p.insts = 1 then 0 else (s.pw m 0).fld 16 8))]

end Sys2Proof.Machine
end

