-- ==== Sys2Proof/Machine/TimeBase.lean ====
section
/-! DEFINITION. Time base: stamps, fits, steps and slewing, 802.1AS, PPS, and the 03xxh commands (chapter 03). -/
namespace Sys2Proof.Machine

/-- The nominal rate in ns per fine-time unit (chapter 03, Time units). -/
def nominalB : Rat := 1000000000 / 409600000000

/-- The sequencer is running or its first frame is scheduled. -/
def State.seqOn (s : State) : Bool := s.seq.run ≠ 0

/-- The mapper once every change that waits has taken effect. -/
def State.plan (s : State) : Mapper := (s.tb.copies.getLast?.map (·.2)).getD s.tb.map

/-- The changes of the mapper to come: those that wait for their ticks, and the step at the next frame boundary (R98,
R500). -/
def State.schedule (s : State) : List (Nat × Mapper) :=
  match s.tb.step with
  | none => s.tb.copies
  | some d =>
    if !s.seqOn then s.tb.copies
    else
      let b := s.seq.bound
      let before := s.tb.copies.filter (fun c => decide (c.1 < b))
      let m := (before.getLast?.map (·.2)).getD s.tb.map
      before ++ [(b, m.stepped (256 * b : Nat) d)] ++
        (s.tb.copies.filter (fun c => decide (b ≤ c.1))).map (fun c => (c.1, { c.2 with a := c.2.a + d }))

/-- A mapper and the tick at which it takes effect are handed to the downstream link (R500). The item's words on the link
are not stated: the tick is shown, and the mapper itself (log 33). -/
def State.sendMap (s : State) (e : Nat × Mapper) : State :=
  let s := s.linkSend true 1 [w32 e.1, w32 (e.1 / 2 ^ 32)]
  { s with ch := { s.ch with down := { s.ch.down with map := some e } } }

/-- The mapper in effect and the changes to come go to the devices downstream (R500). -/
def State.sendMaps (s : State) : State :=
  if s.ch.down.st = 2 && s.passesOn then ((s.tb.tick, s.tb.map) :: s.schedule).foldl State.sendMap s else s

/-- The tick at which a change of the mapper made now takes effect: now, or with followers on the link late enough for every
device to have it, and after the changes that wait (R500). How long that takes is not stated (log 85). -/
def State.mapEdge (s : State) : Nat :=
  max (s.tb.tick + (if s.enum.cond && s.ch.down.st = 2 then Config.mapLead else 0))
    ((s.tb.copies.getLast?.map (·.1)).getD 0)

/-- The mapper changed at the tick that every device takes; f has that instant in fine-time units (R89, R500). -/
def State.setMap (s : State) (f : Rat → Mapper → Mapper) : State :=
  let e := s.mapEdge
  let m := f (256 * e : Nat) s.plan
  let s := if e ≤ s.tb.tick then { s with tb := { s.tb with map := m, copies := [] } }
    else { s with tb := { s.tb with copies := s.tb.copies ++ [(e, m)] } }
  if s.enum.cond then s.sendMaps else s

/-- Time-base state changed, with event 0301h (R112). -/
def State.setTbState (s : State) (n : Nat) : State :=
  if s.tb.state = n then s
  else
    let old := s.tb.state
    ({ s with tb := { s.tb with state := n } }).chipEvent 0x0301 [n, old]

/-- The rate of the mapper changed from the change's tick on; t stays continuous (R89). -/
def State.setRate (s : State) (b : Rat) : State := s.setMap (fun f m => { m.rebase f with b := b })

/-- A step of d ns: at a frame boundary A changes at this tick, in the changes that wait too; else at the tick that every
device takes (R98, R500). The first frame after it carries it, and event 0302h names that frame (R98, R112). The step in ns
is one of its two neighbours where it is no whole number (log 10). The record of a frame before which several steps were
applied shows their sum (DESIGN CHOICE, log 65). -/
def State.doStep (s : State) (boundary : Bool) (d : Rat) : State :=
  let before := s.nowNs
  let s := { s with tb := { s.tb with step := none } }
  let s := if boundary then
      let s := { s with tb := { s.tb with
        map := s.tb.map.stepped s.fineNow d, copies := s.tb.copies.map (fun (c : Nat × Mapper) => (c.1, { c.2 with a := c.2.a + d })) } }
      if s.enum.cond then s.sendMaps else s
    else s.setMap (fun f m => m.stepped f d)
  let ns := roundOpen 0x0098 d
  let s := { s with tb := { s.tb with stepShow := some (ns + s.tb.stepShow.getD 0),
                                      ppsLast := if d < 0 then some (max (before / 1000000000) (s.tb.ppsLast.getD 0))
                                        else s.tb.ppsLast } }
  s.chipEvent 0x0302 [unsgn 64 ns % 2 ^ 32, unsgn 64 ns / 2 ^ 32, s.kept.frame]

/-- The pending step is applied at a frame boundary (R98); the part of a fit that completed at the same tick waits for the
following one (R99). -/
def State.stepBoundary (s : State) : State :=
  match s.tb.step with
  | none => s
  | some d =>
    let late : Rat := match s.tb.fresh with
      | some (n, own) => if n = s.tb.tick then own else 0
      | none => 0
    let t := if d = late then s else s.doStep true (d - late)
    { t with tb := { t.tb with step := if late = 0 then none else some late } }

/-- An offset difference of d ns removed: slewed up to TB_STEP_NS, else stepped at the next frame boundary, or at once while
the sequencer is stopped (R97, R98); with a fit's rate b where it has one (R92). It takes the place of a difference that was
still to be removed. -/
def State.applyOffset (s : State) (d : Rat) (b : Option Rat) : State :=
  let small := decide (d.abs ≤ (s.val TB_STEP_NS : Rat))
  let s := { s with tb := { s.tb with step := if small || !s.seqOn then none else some d, fresh := none } }
  let s := s.setMap (fun f m => { m.rebase f with
    b := b.getD m.b, slew := if small then d else 0, ppb := s.val TB_SLEW_PPB })
  if small || s.seqOn then s else s.doStep false d

/-- The fit history cleared: ACQUIRING at nominal rate (R94, R102). -/
def State.clearFit (s : State) : State :=
  let s := { s with tb := { s.tb with pairs := [], fit := none, firstDone := false, bad := 0 } }
  (s.setRate nominalB).setTbState 1

/-- The least-squares line of R92 over pairs (source ns, tick): newest first; x in seconds from the oldest pair. -/
def lsFit (ps : List (Rat × Rat)) : Fit :=
  let x0 := (ps.getLast?.getD (0, 0)).1
  let y0 := (ps.getLast?.getD (0, 0)).2
  let pts : List (Rat × Rat) := ps.map (fun q => ((q.1 - x0) / 1000000000, q.2 - y0))
  let n : Rat := (pts.length : Nat)
  let mx := sumR (pts.map (·.1)) / n
  let my := sumR (pts.map (·.2)) / n
  let sxy := sumR (pts.map (fun q => (q.1 - mx) * (q.2 - my)))
  let sxx := sumR (pts.map (fun q => (q.1 - mx) * (q.1 - mx)))
  let b := if sxx = 0 then 1600000000 else sxy / sxx
  let a := my - b * mx
  let rs := pts.map (fun q => (q.2 - a - b * q.1) * (q.2 - a - b * q.1))
  { a := a, b := b, base := y0, x0 := x0, msq := sumR rs / n, n := pts.length }

/-- Source time in ns that a fit gives for a tick. -/
def Fit.time (f : Fit) (y : Rat) : Rat := f.x0 + (y - f.base - f.a) / f.b * 1000000000

/-! ### 802.1AS: the best master clock algorithm (R100 to R102) -/

/-- 802.1AS state of port p. -/
def State.asp (s : State) (p : Nat) : AsPort := tget {} s.tb.asp p

/-- 802.1AS state of port p changed. -/
def State.setAsp (s : State) (p : Nat) (f : AsPort → AsPort) : State :=
  { s with tb := { s.tb with asp := tmod {} s.tb.asp p f } }

/-- The port runs 802.1AS (TB_AS_PORTS) and has a link. -/
def State.asOn (s : State) (p : Nat) : Bool := s.val TB_AS_PORTS >>> p % 2 == 1 && (s.port p).up

/-- Priority vector smaller, which is better: priority1, then the rest, then the identity. -/
def annLess (a b : Nat × Nat × Nat) : Bool :=
  a.1 < b.1 || (a.1 == b.1 && (a.2.1 < b.2.1 || (a.2.1 == b.2.1 && a.2.2 < b.2.2)))

/-- The device's own priority vector (R101; log 64). -/
def State.ownVector (s : State) : Nat × Nat × Nat := (s.val TB_GM_PRIORITY1, Config.clockRest, Config.clockId)

/-- The best master clock algorithm over both ports and the device itself (R100, R101): slave port 0 none, 1 A, 2 B; and
whether the device is grandmaster. An Announce heard before a port's link went down stands until its receipt times out
(DESIGN CHOICE, log 85). -/
def State.bmca (s : State) : Nat × Bool :=
  let cand (p : Nat) : Option (Nat × Nat × Nat) := if s.asOn p then (s.asp p).ann else none
  let best : Option (Nat × Nat × Nat × Nat) := match cand 0, cand 1 with
    | none, none => none
    | some a, none => some (1, a)
    | none, some b => some (2, b)
    | some a, some b => if annLess b a then some (2, b) else some (1, a)
  match best with
  | none => (0, s.val TB_GM_PRIORITY1 < 255)
  | some x => if s.val TB_GM_PRIORITY1 < 255 && annLess s.ownVector x.2 then (0, true) else (x.1, false)

/-- The fit history dropped. -/
def State.dropPairs (s : State) : State :=
  { s with tb := { s.tb with pairs := [], fit := none, firstDone := false, bad := 0 } }

/-- FREE_RUN: the rate is nominal and the offset stays (time-base states). -/
def State.freeRun (s : State) : State := (s.dropPairs.setRate nominalB).setTbState 0

/-- The device becomes grandmaster, or ceases to be (R101), with event 0306h: as one it runs free, unless PPS_IN steers it. -/
def State.setGm (s : State) (gm : Bool) : State :=
  if s.tb.isGm = gm then s
  else
    let s := ({ s with tb := { s.tb with isGm := gm } }).chipEvent 0x0306 [b2n gm]
    if gm && s.val TB_SOURCE ≠ 2 then s.freeRun else if !gm && s.val TB_SOURCE = 1 then s.clearFit else s

/-- The slave role moves (R102), with event 0304h: to the other port the fit history goes along where the grandmaster identity
is the one last received on the old port. -/
def State.setSlave (s : State) (sl : Nat) : State :=
  if s.tb.slave = sl then s
  else if sl = 0 then
    ({ s with tb := { s.tb with slave := 0 } }).chipEvent 0x0304 [4, s.tb.gm % 2 ^ 32, s.tb.gm / 2 ^ 32]
  else
    let id := match (s.asp (sl - 1)).ann with | some a => a.2.2 | none => 0
    let kept := s.tb.was = 0 || s.tb.was = sl || id = s.tb.gm || s.val TB_SOURCE ≠ 1
    let s := { s with tb := { s.tb with slave := sl, was := sl, gm := id } }
    let s := if kept then s else s.clearFit
    s.chipEvent 0x0304 [sl + 4 * b2n kept, id % 2 ^ 32, id / 2 ^ 32]

/-- Roles follow the best master clock algorithm on every enabled port, whatever steers the mapper (R100 to R102). -/
def State.runBmca (s : State) : State :=
  if s.follower then s else
  let (sl, gm) := s.bmca
  let role (p : Nat) : Nat := if !s.asOn p then 0 else if gm then 3 else if sl = p + 1 then 2 else 1
  let s := (s.setAsp 0 (fun a => { a with role := role 0 })).setAsp 1 (fun a => { a with role := role 1 })
  (s.setGm gm).setSlave sl

/-- Written time-base parameters come into force at a stamp or a frame boundary (R109), and the roles follow them; a new
source starts its own acquisition, free run and a grandmaster keep the offset at nominal rate (time-base states, R101). A
slew in progress goes on at the TB_SLEW_PPB in force (R97). -/
def State.forceTb (s : State) : State :=
  let old := s.val TB_SOURCE
  let s := s.force .stampFrame
  let new := s.val TB_SOURCE
  let s := if s.follower || old = new then s
    else if new = 0 || (new = 1 && s.tb.isGm) then s.freeRun
    else s.clearFit
  let ppb := s.val TB_SLEW_PPB
  let s := if s.follower || s.plan.slew = 0 || s.plan.ppb = ppb then s
    else s.setMap (fun f m => { m.rebase f with ppb := ppb })
  s.runBmca

/-! ### Stamps and fits (R91 to R99) -/

/-- A fit runs: rate and offset of the mapper (R92), LOCKED (R93); while a step is pending the fit's own difference is
added to it (R99). -/
def State.runFit (s : State) : State :=
  let f := lsFit s.tb.pairs
  let e := s.mapEdge
  let d := f.time e - s.plan.at (256 * e : Nat)
  let b := 1000000000 / (256 * f.b)
  let before := s.tb.step
  let s := { s with tb := { s.tb with fit := some f, step := before.map (fun _ => d) } }
  let s := if before.isSome then s.setRate b else s.applyOffset d (some b)
  let own := s.tb.step.map (fun d => (s.tb.tick, d - before.getD 0))
  { s with tb := { s.tb with fresh := own } }.setTbState 2

/-- A stamp pair of the active source: source time in ns and tick with fraction (R91 to R96). -/
def State.stamp (s : State) (x y : Rat) : State :=
  let accept (s : State) : State :=
    let n := s.val TB_FIT_COUNT
    let s := { s with tb := { s.tb with pairs := ((x, y) :: s.tb.pairs).take n, bad := 0, stampAt := s.tb.tick } }
    let s :=
      if s.tb.state = 1 && !s.tb.firstDone then
        let s := { s with tb := { s.tb with firstDone := true } }
        s.applyOffset (x - s.plan.at (256 * y)) none
      else s
    if s.tb.pairs.length ≥ n then s.runFit else s
  match s.tb.state, s.tb.fit with
  | 2, some f =>
    if 1000 < (f.time y - x).abs then
      let s := { s with tb := { s.tb with discards := wrap 32 (s.tb.discards + 1), bad := s.tb.bad + 1 } }
      if s.tb.bad ≥ 4 then (s.chipEvent 0x0303 [s.tb.discards]).clearFit else s
    else accept s
  | _, _ => accept s

/-- At a stamp of the source that steers, or of the one that is to steer, written parameters come into force (R109). -/
def State.atStamp (s : State) (source : Nat) : State :=
  if s.val TB_SOURCE = source || s.work TB_SOURCE 0 = source then s.forceTb else s

/-- No valid stamp for TB_FIT_TIMEOUT_MS: HOLDOVER; the mapper keeps rate and offset, stamps are collected anew (R95,
R96). The time runs from the newest accepted stamp of any source, or from lock; a discarded pair is none (DESIGN CHOICE,
log 85). -/
def execFitTimeout (s : State) : Out :=
  if s.follower || !s.tb.locked || s.val TB_SOURCE = 0 || s.tb.state = 3 || s.tb.state = 0 ||
      s.tb.tick < s.tb.stampAt + usTicks (1000 * s.val TB_FIT_TIMEOUT_MS) then .next s
  else .next ({ s with tb := { s.tb with pairs := [], bad := 0 } }.setTbState 3)

/-! ### PPS -/

/-- A rising edge of PPS_IN (R91): once TB_TIME_SET has named the second of an edge, edges count up from it. Half-way between
two seconds the nearest one is open (log 10). -/
def execPpsInEdge (s : State) : Out :=
  let named := s.tb.ppsIn
  let s := { s with tb := { s.tb with ppsIn := named.map (· + 1) } }
  if !s.tb.locked || s.follower then .next s else
  let s := s.atStamp 2
  if s.val TB_SOURCE ≠ 2 then .next s
  else
    let y : Rat := (s.tb.tick : Nat) - (s.valI TB_PPS_IN_DELAY_NS 0 : Rat) * (16 / 10)
    let sec : Int := match named with
      | some n => (n : Nat)
      | none => roundNear 0x0091 (s.tb.map.at (256 * y) / 1000000000)
    .next (s.stamp ((sec : Rat) * 1000000000) y)

/-- The whole second of mapped time that falls into the present tick, with its instant in 1/16 tk: one of the two steps about
it (R103; log 10). -/
def State.ppsSecond (s : State) : Option (Int × Nat) :=
  let t0 := s.tb.map.at s.fineNow
  let t1 := s.tb.map.at (s.fineNow + 256)
  let sec := (t0 / 1000000000).ceil
  if t1 ≤ sec * 1000000000 then none
  else some (sec, 16 * s.tb.tick + (roundOpen 0x0103 ((sec * 1000000000 - t0) / (t1 - t0) * 16)).toNat)

/-- PPS_OUT rises at a whole second of mapped time, unless the second has produced its edge or the width is 0 (R103,
R104). -/
def execPpsOutEdge (s : State) : Out :=
  if !s.tb.locked || s.val TB_PPS_OUT_WIDTH_US = 0 then .next s
  else match s.ppsSecond with
    | none => .next s
    | some (sec, at_) =>
      if s.tb.ppsLast.any (fun l => decide (sec ≤ l)) then .next s
      else .next { s with tb := { s.tb with ppsOut := true, ppsAt := at_, ppsLast := some sec } }

/-- PPS_OUT falls after its width, or 10 µs before the next edge where its width would reach that (R103, R104). -/
def execPpsOutWidthEnd (s : State) : Out :=
  let end_ := s.tb.ppsAt + 16 * usTicks (s.val TB_PPS_OUT_WIDTH_US)
  let t := s.tb.map.at s.fineNow
  let next : Int := max ((t / 1000000000).floor + 1) (s.tb.ppsLast.getD 0 + 1)
  let edge : Rat := 16 * (s.tb.tick : Nat) + (next * 1000000000 - t) / (256 * s.tb.map.b) * 16
  let cut := decide (edge ≤ (end_ : Nat)) && decide (edge ≤ 16 * (s.tb.tick : Nat) + (16 * usTicks 10 : Nat))
  .next (if decide (end_ ≤ 16 * s.tb.tick) || cut then { s with tb := { s.tb with ppsOut := false } } else s)

/-! ### 802.1AS messages (R100 to R102) -/

/-- A Sync's time at this device: origin and correction, plus the path delay (R91). Stamps come from the slave port (R102). -/
def State.syncStamp (s : State) (p : Nat) (origin corr : Int) (rx : Rat) : State :=
  if s.tb.slave ≠ p + 1 || s.tb.isGm then s
  else
    let s := s.atStamp 1
    if s.val TB_SOURCE = 1 && s.tb.slave = p + 1 then s.stamp (origin + corr / 65536 + (s.asp p).pdelay) rx else s

/-- An 802.1AS message is received (R100 to R102). In a follower 802.1AS does not steer the mapper (R500). -/
def execGptpMessage (p : Port) (g : Gptp) (s : State) : Out :=
  if !s.tb.locked || !s.asOn p.n then .next s else
  let n := p.n
  match g with
  | .sync q two origin corr rx =>
    if s.follower then .next s
    else if two then .next (s.setAsp n (fun a => { a with sync := some (q, rx) }))
    else .next (s.syncStamp n origin corr rx)
  | .followUp q origin corr =>
    match (s.asp n).sync with
    | some (q', rx) =>
      if s.follower || q ≠ q' then .next s
      else .next ((s.setAsp n (fun a => { a with sync := none })).syncStamp n origin corr rx)
    | none => .next s
  | .pdelayReq q rx => .next (s.toCtl n (.ptp 3 q [s.tb.map.at (256 * rx)]))
  | .pdelayResp q t2 rx => .next (s.setAsp n (fun a => { a with respAt := some (q, t2, rx) }))
  | .pdelayRespFollowUp q t3 =>
    match (s.asp n).reqAt, (s.asp n).respAt with
    | some (q1, t1), some (q2, t2, t4) =>
      if q = q1 && q = q2 then
        -- mean of the two directions: the round trip here in ns less the turn-round time at the peer
        let b := match s.tb.fit with | some f => f.b | none => 1600000000
        let d := ((t4 - t1) / b * 1000000000 - (t3 - t2)) / 2
        .next (s.setAsp n (fun a => { a with pdelay := d, reqAt := none, respAt := none }))
      else .next s
    | _, _ => .next s
  | .announce prio rest gm =>
    if s.follower then .next s
    else
      let s := s.setAsp n (fun a => { a with ann := some (prio, rest, gm) })
      let s := if s.tb.slave = n + 1 then { s with tb := { s.tb with gm := gm } } else s
      .next s.runBmca
  | .signaling => .next s

/-- An 802.1AS interval timer expires (R100, R101): Pdelay_Req, or as grandmaster Sync and Announce with the own priority
vector; announce receipt times out. -/
def execGptpTransmitInterval (p : Port) (t : GptpTimer) (s : State) : Out :=
  let n := p.n
  if !s.tb.locked || !s.asOn n then .next s else
  let q := (s.asp n).seq
  let s' := s.setAsp n (fun a => { a with seq := wrap 16 (a.seq + 1) })
  let v := s.ownVector
  match t with
  | .pdelay => .next (s'.toCtl n (.ptp 2 q []))
  | .sync => if s.tb.isGm then .next (s'.toCtl n (.ptp 0 q [])) else .next s
  | .announce => if s.tb.isGm then .next (s'.toCtl n (.ptp 11 q [(v.1 : Nat), (v.2.1 : Nat), (v.2.2 : Nat)])) else .next s
  | .announceReceipt => .next ((s.setAsp n (fun a => { a with ann := none })).runBmca)

/-! ### PLL, trees, Clove, reference -/

/-- Event 0305h where the warm flag that the device reports is no longer what it was (R80, R112, R499). -/
def State.warmSeen (s : State) (old : Bool) : State := if s.warm = old then s else s.chipEvent 0x0305 [b2n s.warm]

/-- The Clove's warm flag changed (R77, R80); a follower reports the conductor's (R499). -/
def State.setWarm (s : State) (w : Bool) : State := ({ s with pwr := { s.pwr with warm := w } }).warmSeen s.warm

/-- The warm flag sets, the heater being on (R77). -/
def execCloveWarmSet (s : State) : Out := .next (if s.dom 93 then s.setWarm true else s)

/-- The warm flag clears (R77). -/
def execCloveWarmClear (s : State) : Out := .next (s.setWarm false)

/-- The timing PLL locks: the tick counter starts from zero (R81, R85); the mapper starts in the state that TB_SOURCE
gives (R616), with event 0301h where that changes the state (R112). -/
def execTimingPllLock (s : State) : Out :=
  if s.tb.locked || s.pwr.rails < 2 || s.boot.phase = 2 || (s.follower && !s.enum.clock) then .next s else
  let s := { s with tb := { s.tb with locked := true, tick := 0, map := {}, copies := [], pairs := [], fit := none } }
  let s := s.force .stampFrame
  .next (s.setTbState (if s.val TB_SOURCE = 0 then 0 else 1)).runBmca

/-- A region tree's delay line steps by 1 ps (R83). -/
def execTreeDeskewStep (r : Fin 8) (later : Bool) (s : State) : Out :=
  if !s.tb.locked then .next s else
  .next { s with tb := { s.tb with trees := tmod 0 s.tb.trees r (fun d => if later then d + 1 else d - 1) } }

/-! ### 03xxh commands -/

/-- TB_STATUS_GET; encErr is the measured enclosure error in m°C. A follower returns the conductor's values (R500), with the
conductor's warm flag as its newest state report has it (R499). -/
def execTbStatusGet (m : Fin 64) (encErr : Int) (s : State) : Out :=
  s.skeic 0x0301 m fun s => .done s <|
    if s.follower then (wd s.ch.tbStatus 0 &&& ~~~(4 : Word) ||| pack [(0, 2), (b2n s.warm, 1)]) :: s.ch.tbStatus.drop 1 else
    [pack [(s.tb.state, 2), (b2n s.warm, 1), (s.val TB_SOURCE, 2), (b2n s.tb.step.isSome, 1), (b2n s.tb.isGm, 1),
      (s.tb.slave, 2), (b2n s.tb.locked, 1)],
     pack [(unsgn 16 encErr, 16), (min 65535 ((s.tb.tick - s.tb.stampAt) / 1600000), 16)], w32 s.tb.discards]

/-- TB_TIME_GET: tick count and mapped time at one instant. -/
def execTbTimeGet (m : Fin 64) (s : State) : Out :=
  s.skeic 0x0302 m fun s =>
    let t := timeOf s.tb.map s.fineNow
    .done s ([w32 s.tb.tick, w32 (s.tb.tick / 2 ^ 32)] ++ lohi t.1 ++ [pack [(t.2, 9)]])

/-- Offset still to be slewed or stepped, in ns. -/
def State.offsetLeft (s : State) : Rat :=
  s.plan.slew - s.plan.slewed (s.fineNow - s.plan.f0) + s.tb.step.getD 0

/-- TB_FIT_GET: fitted rate, residual, remaining offset; their roundings are open (log 10), and where they do not fit their
fields the residual saturates and the others keep their low 32 bits (DESIGN CHOICE, log 85). A follower returns the
conductor's values (R500). -/
def execTbFitGet (m : Fin 64) (s : State) : Out :=
  s.skeic 0x0303 m fun s =>
    let (rate, res, n) : Int × Nat × Nat := match s.tb.fit with
      | some f => (roundOpen 0x0303 ((f.b / 1600000000 - 1) * 1000000000 * 65536), (sqrtOpen 0x0305 (f.msq * 390625) : Nat), f.n)
      | none => (0, 0, 0)
    .done s <| if s.follower then s.ch.tbFit else [w32 (unsgn 32 rate), pack [(min 65535 res, 16), (n, 7)],
      w32 (unsgn 32 (roundOpen 0x0304 s.offsetLeft))]

/-- TB_TIME_SET: applied under R97 and R98; ignored with source 802.1AS (R110), and in a follower (R500). In free run it
names the time at the next frame boundary, or now, in place of a difference that was still to be slewed or stepped. With
PPS_IN it names the second of the next edge; only such a one ends the reading of edges as the nearest second (DESIGN CHOICE,
log 85). -/
def execTbTimeSet (m : Fin 64) (s : State) : Out :=
  s.skeic 0x0304 m fun s =>
    need (s.pw m 2 = 0) "reserved word" <|
    let sec := (s.pw m 0).toNat + 2 ^ 32 * (s.pw m 1).toNat
    match s.follower, s.val TB_SOURCE with
    | false, 0 =>
      let f : Rat := if s.seqOn then (256 * s.seq.bound : Nat) else s.fineNow
      let e : Rat := (256 * s.mapEdge : Nat)
      .done (s.applyOffset ((sec : Nat) * 1000000000 - ({ s.plan.rebase e with slew := 0 } : Mapper).at f) none) []
    | false, 2 => .done { s with tb := { s.tb with ppsIn := some sec } } []
    | _, _ => .done s []

/-- TB_PARAM_WRITE (R109). TB_AS_PORTS at zero with TB_SOURCE at 802.1AS is a host error. -/
def execTbParamWrite (m : Fin 64) (s : State) : Out :=
  s.skeic 0x0305 m fun s =>
    match s.parWrite 3 m (fun t _ => t) with
    | .commit t n p =>
      need (!(t.work TB_SOURCE 0 = 1 && t.work TB_AS_PORTS 0 = 0)) "TB_AS_PORTS zero" (.commit t n p)
    | r => r

/-- TB_PARAM_READ. -/
def execTbParamRead (m : Fin 64) (s : State) : Out := s.skeic 0x0306 m fun s => s.parRead 3 m

/-- The conductor's mapper arrives over the chain link, to take effect at a tick (R500), with what the conductor's
TB_STATUS_GET and TB_FIT_GET return; a follower passes it on (R515). It takes the place of changes that were to come at its
tick or later. -/
def execMapperCopyReceive (tick : Nat) (f0 a b slew : Rat) (ppb : Nat) (status fit : List Word) (s : State) : Out :=
  if !s.follower then .next s
  else
    let s := { s with ch := { s.ch with tbStatus := status, tbFit := fit } }
    let mp : Mapper := { f0 := f0, a := a, b := b, slew := slew, ppb := ppb }
    let s := if s.ch.down.st = 2 && s.passesOn then s.sendMap (tick, mp) else s
    if tick ≤ s.tb.tick then .next { s with tb := { s.tb with map := mp, copies := [] } }
    else .next { s with tb := { s.tb with copies := s.tb.copies.filter (fun c => decide (c.1 < tick)) ++ [(tick, mp)] } }

end Sys2Proof.Machine
end

