-- ==== Sys2Proof/Machine/Ethernet.lean ====
section
/-! DEFINITION. Ports, destinations, queue bindings: the 0Bxxh commands and the events of chapter 11. -/
namespace Sys2Proof.Machine

/-! ### The board table (R603) -/

/-- The default board table's words W4 to W10 (R603). -/
def btDefault : List Word :=
  [pack [(12800, 14), (16, 5), (1, 2)], pack [(1, 2), (2, 2), (1, 2), (2, 2)], 0x4E20#32,
   pack [(12, 4), (2, 4), (8, 5), (6, 4), (0, 6)], pack [(12, 4), (2, 4), (8, 5), (6, 4), (0, 6)],
   pack [(12, 4), (2, 4), (8, 5), (6, 4), (0, 6)], pack [(12, 4), (2, 4), (8, 5), (6, 4), (0, 6)]]

/-- Word n (4 to 10) of the board table held, or of its default (R603). -/
def State.btWord (s : State) (n : Nat) : Word := if s.p.bt.isEmpty then wd btDefault (n - 4) else wd s.p.bt n

/-- The board-table value of port p's ETH_MODE (0) or ETH_FEC (1). -/
def State.btPort (s : State) (p field : Nat) : Nat := (s.btWord 5).fld (4 * p + 2 * field + 1) (4 * p + 2 * field)

/-- Port p's equalisation word in the board table: W7 and W8 (R415, R603). -/
def State.btEq (s : State) (p : Nat) : Nat := (s.btWord (7 + p)).fld 22 0

/-- The Skeic UDP port in the board table (R452). -/
def State.skeicPort (s : State) : Nat := (s.btWord 6).fld 15 0

/-- The working value of a port parameter as ETH_PARAM_READ returns it: indices 0, 1 and 12 are board-table fields
(R449). -/
def State.ethPar (s : State) (idx port : Nat) : Nat :=
  if idx = 0 then s.btPort port 0 else if idx = 1 then s.btPort port 1 else if idx = 12 then s.skeicPort
  else match findPar 11 idx with
    | some p => s.work p port
    | none => 0

/-! ### 0Bxxh commands -/

/-- Some queue fails over to port p: its first port is the other one, which has no link (R431). -/
def State.carrying (s : State) (p : Nat) : Bool :=
  (s.port p).up && !(s.port (1 - p)).up && s.queueList.any (fun q => (s.bindOf q).port == (if p = 1 then 4 else 5))

/-- ETH_STATUS_GET. -/
def execEthStatusGet (m : Fin 64) (s : State) : Out :=
  s.skeic 0x0B01 m fun s =>
    need ((s.pw m 0).fld 31 1 = 0) "reserved bits" <|
    let p := (s.pw m 0).fld 0 0
    let e := s.port p
    .done s [pack [(b2n e.up, 1), (s.ethMode p, 2), (b2n (s.carrying p), 1)], w32 e.sent, w32 e.drop, w32 e.rcv,
      w32 e.rcvDrop, w32 e.fcs, w32 (s.macOf p), pack [(s.macOf p / 2 ^ 32, 16)]]

/-- ETH_PARAM_WRITE: a port parameter; indices 0, 1 and 12 are read-only (R449). -/
def execEthParamWrite (m : Fin 64) (s : State) : Out :=
  s.skeic 0x0B02 m fun s =>
    need ((s.pw m 0).fld 31 9 = 0) "reserved bits" <|
    match findPar 11 ((s.pw m 0).fld 7 0) with
    | none => .err "parameter index"
    | some p =>
      need (p.eff ≠ .readOnly) "read-only parameter" <|
      need (p.ok (s.pw m 1).toNat) "parameter value" <|
      .commit (s.writePar p (s.pw m 1).toNat ((s.pw m 0).fld 8 8)) (recordBytes 1) []

/-- ETH_PARAM_READ. -/
def execEthParamRead (m : Fin 64) (s : State) : Out :=
  s.skeic 0x0B03 m fun s =>
    let i := (s.pw m 0).fld 7 0
    need ((s.pw m 0).fld 31 9 = 0 && i ≤ 12) "reserved bits or index" <|
    .done s [s.pw m 0, w32 (s.ethPar i ((s.pw m 0).fld 8 8))]

/-- The destination entry has no reserved bit set (R419). -/
def destOk (e : List Word) : Bool :=
  (wd e 0).fld 31 14 == 0 && (wd e 0).fld 13 2 ≤ 4094 && (wd e 3).fld 31 16 == 0 &&
    (destV6 e || (wd e 5 == 0 && wd e 6 == 0 && wd e 7 == 0))

/-- ETH_DEST_SET: a destination entry (R450); it applies from the next datagram that closes (R419), and is resolved
anew. -/
def execEthDestSet (m : Fin 64) (s : State) : Out :=
  s.skeic 0x0B04 m fun s =>
    let d := (s.pw m 0).fld 9 0
    let e := (span 1 8).map (s.pw m)
    need ((s.pw m 0).fld 31 10 = 0 && destOk e) "reserved bits or VID" <|
    .commit { s with p := { s.p with dest := tput s.p.dest d e },
                     eth := { s.eth with mac := tset 0 (tset 0 s.eth.mac (2 * d) 0) (2 * d + 1) 0 } } (recordBytes 8) []

/-- ETH_DEST_GET: the entry, and whether its MAC address is resolved, on either port (R450; log 86). -/
def execEthDestGet (m : Fin 64) (s : State) : Out :=
  s.skeic 0x0B05 m fun s =>
    let d := (s.pw m 0).fld 9 0
    need ((s.pw m 0).fld 31 10 = 0) "reserved bits" <|
    .done s (s.destOf d ++ [pack [(b2n ((s.destMac 0 d).isSome || (s.destMac 1 d).isSome), 1)]])

/-- The binding that four words spell (R421). -/
def bindingOf (w : Nat → Word) : Binding :=
  { cls := (w 0).fld 3 0, port := (w 0).fld 6 4, pcp := (w 0).fld 9 7, dscp := (w 0).fld 15 10,
    dest := (w 0).fld 25 16, sel := (w 0).fld 27 26, first := (w 1).fld 8 0, count := (w 1).fld 18 9,
    quantum := (w 2).fld 15 0, flush := (w 2).fld 25 16, depth := (w 3).fld 12 0 }

/-- A binding written to n queues from first on is within its ranges and without reserved bits, and none of these queues is
bound with a zero or to a destination that is not set; queues 0 and 1 are always bound, and take of it only PCP, DSCP,
destination and depth (R421, R423 and the host errors of chapter 11). -/
def State.bindingOk (s : State) (w : Nat → Word) (first n : Nat) : Bool :=
  let b := bindingOf w
  let toSet := (tfind s.p.dest b.dest).isSome
  (w 0).fld 31 28 == 0 && (w 1).fld 31 19 == 0 && (w 2).fld 31 26 == 0 && (w 3).fld 31 13 == 0 &&
    b.cls ≤ 11 && b.port ≤ 5 && b.sel ≤ 2 && b.flush ≤ 1000 && b.first + b.count ≤ 512 && b.depth ≤ 4096 &&
    (n == 0 || 1 < first || (0 < b.depth && toSet)) &&
    (n == 0 || first + n ≤ 2 || b.port == 0 || (0 < b.quantum && 0 < b.depth && !(b.cls == 6 && b.count == 0) && toSet))

/-- ETH_Q_BIND: a binding written to a range of queues; open datagrams close first (R424). On queues 0 and 1 only PCP,
DSCP, destination and depth change (R423). -/
def execEthQBind (m : Fin 64) (s : State) : Out :=
  s.skeic 0x0B06 m fun s =>
    let first := (s.pw m 0).fld 14 0
    let n := (s.pw m 0).fld 30 15
    let w := fun i => s.pw m (1 + i)
    need (!(s.pw m 0).bit 31 && first + n ≤ 32768 && s.bindingOk w first n) "binding" <|
    let b := bindingOf w
    let put (s : State) (q : Nat) : State :=
      let s := s.closeDgram q
      let v := if q ≤ 1 then { tget {} s.p.bind q with pcp := b.pcp, dscp := b.dscp, dest := b.dest, depth := b.depth }
        else b
      { s with p := { s.p with bind := tset {} s.p.bind q v } }
    .commit ((span first n).foldl put s) (recordBytes 4) []

/-- ETH_Q_GET. -/
def execEthQGet (m : Fin 64) (s : State) : Out :=
  s.skeic 0x0B07 m fun s =>
    let q := (s.pw m 0).fld 14 0
    let e := s.queue q
    need ((s.pw m 0).fld 31 15 = 0) "reserved bits" <|
    .done s ((s.bindOf q).words ++ [w32 e.enq, w32 e.disc, w32 e.seq, pack [(sat 24 (ceilDiv e.held 1024), 24)]])

/-! ### Events -/

/-- The frame is addressed to the port (R418): its MAC address, broadcast, the 802.1AS group, or a solicited-node
group. -/
def State.rxMine (s : State) (p : Nat) (f : RxFrame) : Bool :=
  f.mac == s.macOf p || f.mac == 0xFFFFFFFFFFFF || f.mac == 0x0180C200000E ||
    f.mac == 0x3333FF000000 + s.cur ETH_IPV6_ADDR3 p % 2 ^ 24

/-- The IP address is the port's own. -/
def State.rxAddr (s : State) (p : Nat) (f : RxFrame) : Bool :=
  if f.ip = 4 then f.dst.toNat == s.cur ETH_IPV4_ADDR p
  else f.dst.toNat == ((s.cur ETH_IPV6_ADDR0 p * 2 ^ 32 + s.cur ETH_IPV6_ADDR1 p) * 2 ^ 32 +
    s.cur ETH_IPV6_ADDR2 p) * 2 ^ 32 + s.cur ETH_IPV6_ADDR3 p

/-- The router list of a port after an advertisement: its preference and place kept when already known, removed at a
lifetime of 0 (R420). -/
def learnRouter (l : List (BitVec 128 × Int)) (r : BitVec 128) (pref : Int) (alive : Bool) : List (BitVec 128 × Int) :=
  if !alive then l.filter (fun x => x.1 ≠ r)
  else if l.any (fun x => x.1 == r) then l.map (fun x => if x.1 = r then (r, pref) else x) else l ++ [(r, pref)]

/-- The default router in use: highest preference, on a tie the one heard first (R420). -/
def defaultRouter (l : List (BitVec 128 × Int)) : Option (BitVec 128) :=
  (l.foldl (fun b x => match b with
    | none => some x
    | some y => if y.2 < x.2 then some x else b) none).map (·.1)

/-- A frame for the firmware: ARP, ICMP, ICMPv6 or neighbour discovery; a request to this device is answered (R414, R418). -/
def State.firmwareFrame (s : State) (p : Nat) (f : RxFrame) : State :=
  let s := { s with eth := { s.eth with fwFrames := s.eth.fwFrames + 1 } }
  if f.asks then s.toCtl p (.fw true f.from_.toNat) else s

/-- A frame is received: counted, classified, and discarded where R416 and R418 say so, or where it is longer than 9,216 bytes
(R414). The Skeic message or 802.1AS message inside arrives as an event of its own. -/
def execEthFrameReceive (p : Port) (f : RxFrame) (s : State) : Out :=
  if !(s.port p.n).up then .next s else
  let s := s.setPort p.n (fun e => { e with rcv := wrap 32 (e.rcv + 1) })
  let drop (s : State) : State := s.setPort p.n (fun e => { e with rcvDrop := wrap 32 (e.rcvDrop + 1) })
  if !f.fcsOk then .next (drop (s.setPort p.n (fun e => { e with fcs := wrap 32 (e.fcs + 1) })))
  else if 9216 < f.size then .next (drop s)
  else if !s.rxMine p.n f || (f.vid.isSome && f.vid != some (s.cur ETH_VID p.n)) then .next (drop s)
  else if f.etype = 0x88F7 then .next s
  else if f.etype = 0x0806 then .next (s.firmwareFrame p.n f)
  else if (f.ip = 4 || f.ip = 6) && !f.odd then
    if f.proto = 17 && s.rxAddr p.n f && f.udp = s.skeicAt p.n then .next s
    else if f.proto = 1 || f.proto = 58 then
      let s := s.firmwareFrame p.n f
      match f.router with
      | some (r, pref, alive) =>
        .next (s.setPort p.n (fun e => { e with routers := learnRouter e.routers r pref alive }))
      | none => .next s
    else .next (drop s)
  else .next (drop s)

/-- The IP address of a destination as one number. -/
def destIp (e : List Word) : Nat :=
  if destV6 e then (((wd e 4).toNat * 2 ^ 32 + (wd e 5).toNat) * 2 ^ 32 + (wd e 6).toNat) * 2 ^ 32 + (wd e 7).toNat
  else (wd e 4).toNat

/-- A destination lies outside port p's prefix (R420). -/
def State.offPrefix (s : State) (p : Nat) (e : List Word) : Bool :=
  let own := ((s.cur ETH_IPV6_ADDR0 p * 2 ^ 32 + s.cur ETH_IPV6_ADDR1 p) * 2 ^ 32 + s.cur ETH_IPV6_ADDR2 p) * 2 ^ 32 +
    s.cur ETH_IPV6_ADDR3 p
  if destV6 e then own >>> (128 - s.cur ETH_IPV6_PREFIX p) != destIp e >>> (128 - s.cur ETH_IPV6_PREFIX p)
  else s.cur ETH_IPV4_ADDR p >>> (32 - s.cur ETH_IPV4_PREFIX p) != destIp e >>> (32 - s.cur ETH_IPV4_PREFIX p)

/-- The address that port p asks for on the way to a destination: its own inside the prefix, else the gateway, which is
ETH_IPV4_GW, or the default router that the port has learned; none while there is no router (R420). -/
def State.nextHop (s : State) (p : Nat) (e : List Word) : Option Nat :=
  if !s.offPrefix p e then some (destIp e)
  else if destV6 e then (defaultRouter (s.port p).routers).map (·.toNat)
  else some (s.cur ETH_IPV4_GW p)

/-- A destination's MAC address on port p, plus 1, or 0 where it is unresolved. -/
def State.setMac (s : State) (d p v : Nat) : State := { s with eth := { s.eth with mac := tset 0 s.eth.mac (2 * d + p) v } }

/-- The firmware resolves destination d on port p: it asks for the next hop, and takes the answer, if one is among those found
(port, address and MAC address); without a next hop the destination is unresolved (R420). -/
def State.resolve (s : State) (found : List (Nat × Nat × Nat)) (d p : Nat) : State :=
  let e := s.destOf d
  if !(wd e 0).bit 1 || destMulticast e || !(s.port p).up then s
  else match s.nextHop p e with
    | none => s.setMac d p 0
    | some ip =>
      let s := s.toCtl p (.fw false ip)
      match found.find? (fun x => x.1 == p && x.2.1 == ip) with
      | some x => s.setMac d p (x.2.2 % 2 ^ 48 + 1)
      | none => s

/-- Every 60 s the firmware resolves every destination that is set, on each port with a link (R420). -/
def execAddressResolution (found : List (Nat × Nat × Nat)) (s : State) : Out :=
  .next (s.p.dest.foldl (fun s x => (s.resolve found x.1 0).resolve found x.1 1) s)

/-- The flush time of queue q's open datagram expires (R429). -/
def execDatagramFlush (q : Fin 32768) (s : State) : Out := .next (s.closeDgram q)

/-- A frame ends on the wire; the port chooses its next datagram (R433 to R435). -/
def execPortTransmitComplete (p : Port) (s : State) : Out :=
  match (s.port p.n).wire with
  | none => .next s
  | some it =>
    let s := s.setPort p.n (fun e => { e with wire := none })
    match it with
    | .dgram d =>
      let s := (s.setPort p.n (fun e => { e with sent := wrap 32 (e.sent + 1) })).countC 0x22 p.n 1
      .next ((s.release d).choose p.n)
    | _ => .next (s.choose p.n)

/-- A port's link comes up (R431): its domain is on and its mode is not off. -/
def execPortLinkUp (p : Port) (s : State) : Out :=
  if s.dom (80 + p.n) && s.ethMode p.n ≠ 0 then .next ((s.setPort p.n (fun e => { e with up := true })).choose p.n).runBmca
  else .next s

/-- Datagrams that waited at a port without a link: copies with another port go there or stay there, the others are
discarded and counted (R431, R432). -/
def State.reroute (s : State) (p : Nat) (ds : List Dgram) : State :=
  ds.foldl (fun t d =>
    if d.bind.port = 3 && (t.port (1 - p)).up then t.release d
    else t.dropDgram d [p]) s

/-- The deficits of port p at zero: no queue of it holds a closed datagram (R434). -/
def State.clearDeficits (s : State) (p : Nat) : State :=
  let s := s.setPort p (fun e => { e with fwdDef := [] })
  { s with eth := { s.eth with q := tmap {} s.eth.q (fun _ q => if p = 0 then { q with defA := 0 } else { q with defB := 0 }) } }

/-- Port p has no link any more: failover queues move at the next datagram that closes (R431); what waits for this port
alone has no link (R432); ready responses are lost (R456). -/
def State.portDown (s : State) (p : Nat) : State :=
  let e := s.port p
  let onWire := match e.wire with | some (.dgram d) => [d] | _ => []
  let lost := (e.ctl.filter (fun it => match it with | .resp _ _ _ _ _ => true | _ => false)).length
  let s := s.setPort p (fun e => { e with up := false, wire := none, wait := [], ctl := [] })
  let s := { s with ske := { s.ske with lost := wrap 32 (s.ske.lost + lost) } }
  ((s.clearDeficits p).reroute p (onWire ++ e.wait)).runBmca

/-- A port's link goes down. -/
def execPortLinkDown (p : Port) (s : State) : Out := .next (if (s.port p.n).up then s.portDown p.n else s)

/-- The router lifetime of a learned default router runs out; the destinations of its port that have no next hop any more become
unresolved (R420). -/
def execRouterLifetimeExpiry (p : Port) (router : BitVec 128) (s : State) : Out :=
  let s := s.setPort p.n (fun e => { e with routers := e.routers.filter (fun x => x.1 ≠ router) })
  .next { s with eth := { s.eth with mac := s.eth.mac.filter (fun x =>
    x.1 % 2 ≠ p.n || (s.nextHop p.n (s.destOf (x.1 / 2))).isSome) } }

end Sys2Proof.Machine
end

