-- ==== Sys2Proof/Machine/Persistence.lean ====
section
/-! DEFINITION. The 0Fxxh commands: journal status, parameters, compaction, board table, wear, performance counters
(chapter 16). -/
namespace Sys2Proof.Machine

/-! ### Journal commands -/

/-- Lowest and highest erase count over the journal's blocks (R593). -/
def Journal.eraseSpan (j : Journal) : Nat × Nat :=
  let l := j.blocks.map (fun e => e.2.erases)
  let lo := if j.blocks.length < j.blockCount then 0 else l.min?.getD 0
  (lo, l.max?.getD 0)

/-- JNL_STATUS_GET. -/
def execJnlStatusGet (m : Fin 64) (s : State) : Out :=
  s.skeic 0x0F01 m fun s =>
    let j := s.jnl
    let st := if j.readOnly then 2 else if j.comp.isSome then 1 else 0
    let (lo, hi) := j.eraseSpan
    .done s [pack [(st, 2), (b2n j.ignoredAtBoot, 1)],
      pack [(j.freeBlocks, 16), ((j.blocks.filter (fun e => e.2.st = 3)).length, 16)],
      pack [(sat 16 lo, 16), (sat 16 hi, 16)], w32 j.last, w32 j.live, w32 s.obs.passes, w32 s.obs.corrections,
      w32 s.fuse.mismatches]

/-- JNL_PARAM_WRITE (R602). -/
def execJnlParamWrite (m : Fin 64) (s : State) : Out := s.skeic 0x0F02 m fun s => s.parWrite 15 m (fun t _ => t)

/-- JNL_PARAM_READ. -/
def execJnlParamRead (m : Fin 64) (s : State) : Out := s.skeic 0x0F03 m fun s => s.parRead 15 m

/-- JNL_COMPACT: a compaction starts, unless one runs (R583). -/
def execJnlCompact (m : Fin 64) (s : State) : Out := s.skeic 0x0F04 m fun s => .done s.startCompaction []

/-! ### Board table (R603, R604) -/

/-- The memory fields of word 4 hold values of R269. -/
def memOk (w : Word) : Bool :=
  w.fld 31 21 == 0 && [6400, 8533, 10667, 12800].contains (w.fld 13 0) && [2, 4, 8, 16].contains (w.fld 18 14) &&
    [1, 2].contains (w.fld 20 19)

/-- The image has the layout of R603 and every field lies in its range; ranges of the memory fields: R269, of the port
fields: R449. -/
def btOk (w : List Word) : Bool :=
  wd w 0 == 0x42544C31#32 && wd w 1 == 1 && wd w 2 == 12 && wd w 3 == 0 && memOk (wd w 4) &&
    (wd w 5).fld 31 8 == 0 && (wd w 5).fld 3 2 ≤ 2 && (wd w 5).fld 7 6 ≤ 2 && (wd w 6).fld 31 16 == 0 &&
    [7, 8, 9, 10].all (fun i => (wd w i).fld 31 23 == 0) && wd w 11 == 0 && w.length == 12

/-- BT_WRITE: replaces the whole board table, or removes it with length 0 (R604). -/
def execBtWrite (m : Fin 64) (s : State) : Out :=
  s.skeic 0x0F05 m fun s =>
    let n := (s.pw m 0).fld 9 0
    let img := (span 1 n).map (s.pw m)
    need ((s.pw m 0).fld 31 10 = 0 && (n = 0 || btOk img)) "board-table image" <|
    .commit { s with p := { s.p with bt := img } } (recordBytes n) []

/-- BT_READ: length and image. -/
def execBtRead (m : Fin 64) (s : State) : Out := s.skeic 0x0F06 m fun s => .done s (w32 s.p.bt.length :: s.p.bt)

/-! ### Wear (R592, R605) -/

/-- The wear counters with those of the emitters of a mask of string k at zero. -/
def Wear.clear (w : Wear) (k mask : Nat) : Wear :=
  let keep (x : Nat × Nat) : Bool := !(x.1 / 16 == k && mask >>> (x.1 % 16) % 2 == 1)
  { w with pulses := w.pulses.filter keep, onTime := w.onTime.filter keep }

/-- WEAR_RESET: the counts of the named emitters become zero (R592). -/
def execWearReset (m : Fin 64) (s : State) : Out :=
  s.skeic 0x0F07 m fun s =>
    let k := (s.pw m 0).fld 2 0
    let mask := (s.pw m 0).fld 31 16
    need ((s.pw m 0).fld 15 3 = 0) "reserved bits" <|
    if s.jnl.txn.isSome then .wait
    else if s.jnl.readOnly then .done { s with wear := s.wear.clear k mask } []
    else
      let t := ({ s with wear := s.wear.clear k mask }).startTxn 15 (recordBytes 40) (.answer m [])
        (some (s.jnl.wear.clear k mask))
      .later t

/-! ### Performance counters (R596 to R601) -/

/-- The event code belongs to the counter's level (R596); the default 00h is reserved as a written code (R7). -/
def perfEventOk (k ev : Nat) : Bool :=
  (if k < 256 then 1 ≤ ev && ev ≤ 0x0E else if k < 320 then 0x10 ≤ ev && ev ≤ 0x16
    else 0x20 ≤ ev && ev ≤ 0x2B)

/-- The location mask fits the counter's level (R596). -/
def perfLocOk (k loc : Nat) : Bool := k < 256 || (k < 320 && loc < 16) || loc == 0

/-- PERF_CONFIG: the counters of a range take one configuration; value and overflow bit are cleared (R600). -/
def execPerfConfig (m : Fin 64) (s : State) : Out :=
  s.skeic 0x0F08 m fun s =>
    let first := (s.pw m 0).fld 8 0
    let n := (s.pw m 0).fld 17 9
    let c0 := s.pw m 1
    let c1 := s.pw m 2
    need ((s.pw m 0).fld 31 18 = 0 && first < 352 && first + n ≤ 352 && c0.fld 31 25 = 0 && c1.fld 31 16 = 0) "range" <|
    need ((span first n).all (fun k => perfEventOk k (c0.fld 7 0) && perfLocOk k (c1.fld 15 0))) "event code" <|
    let new := (span first n).foldl (fun t k => tset {} t k { c0 := c0, c1 := c1 }) s.obs.perf
    .done { s with obs := { s.obs with perf := new } } []

/-- PERF_READ: values and overflow bits at one instant, cleared where asked (R600). -/
def execPerfRead (m : Fin 64) (s : State) : Out :=
  s.skeic 0x0F09 m fun s =>
    let first := (s.pw m 0).fld 8 0
    let n := (s.pw m 0).fld 15 9
    need ((s.pw m 0).fld 31 17 = 0 && n ≤ 64 && first + n ≤ 352) "range" <|
    let ws := (span first n).flatMap s.perfWords
    if (s.pw m 0).bit 16 then
      let new := (span first n).foldl (fun t k => tmod {} t k (fun c => { c with v := 0, ovf := false })) s.obs.perf
      .done { s with obs := { s.obs with perf := new } } ws
    else .done s ws

/-- An LPDDR6 patrol read of channel ch: a corrected error is counted and rewritten, with those that read errors have queued
(R275); a pass may end (R594). It pauses in self-refresh, that is while the channel's domain is off. -/
def execPatrolScrub (ch : Fin 8) (corrected endOfPass : Bool) (s : State) : Out :=
  if !s.dom (72 + ch) then .next s else
  let s := { s with mem := tmod {} s.mem ch (fun x => { x with scrub := 0 }) }
  let s := if corrected then { s with obs := { s.obs with corrections := wrap 32 (s.obs.corrections + 1) } }.countC 0x2A ch 1
    else s
  .next (if endOfPass then { s with obs := { s.obs with passes := wrap 32 (s.obs.passes + 1) } } else s)

/-- A fuse shadow is compared with the generation chosen at the last boot (R595): seen = the shadow as it reads now,
genOk = the generation still passes its check. -/
def execFuseShadowCompare (f : Fin 20) (inst : Fin 64) (seen : Nat) (genOk : Bool) (s : State) : Out :=
  let k := fuseKey f inst
  match tget 0 s.fuse.chosen k with
  | 0 => .next s
  | g + 1 =>
    let v := (tget {} s.fuse.gens (k * 8 + g)).value
    let s := { s with fuse := { s.fuse with shadow := tset 0 s.fuse.shadow k seen } }
    if genOk && seen = v then .next s
    else
      let s := { s with fuse := { s.fuse with mismatches := wrap 32 (s.fuse.mismatches + 1) } }
      if genOk then
        .next (({ s with fuse := { s.fuse with shadow := tset 0 s.fuse.shadow k v } }).chipEvent 0x0F04 [f, inst, 1])
      else .next (s.chipEvent 0x0F04 [f, inst, 2])

end Sys2Proof.Machine
end

