-- ==== Sys2Proof/Machine/Fuse.lean ====
section
/-! DEFINITION. Fuses: generations, the choice at boot, FUSE_READ and FUSE_PROGRAM (chapter 15). -/
namespace Sys2Proof.Machine

/-- Width in bits of each fuse field, 0 to 19 (R572). -/
def fuseBits : List Nat := [16, 8, 4, 64, 12, 16, 24, 48, 48, 256, 256, 384, 6, 1, 32, 24, 24, 14, 11, 16]

/-- Instances of each field: per block 32, per string 8, else 1 (R572). -/
def fuseInsts : List Nat := [1, 1, 1, 1, 32, 32, 1, 1, 1, 1, 1, 1, 1, 1, 1, 1, 8, 1, 1, 1]

/-- The field and instance exist. -/
def fuseExists (f i : Nat) : Bool := i < fuseInsts.getD f 0

/-- The check of a value: CRC-8 over its bytes, lowest first (chapter 15, Fuses). -/
def fuseCheck (f v : Nat) : BitVec 8 := crc8 (bytesLE v ((fuseBits.getD f 0 + 7) / 8))

/-- Generation g of a field's instance. -/
def State.fuseGen (s : State) (f i g : Nat) : FuseGen := tget {} s.fuse.gens (fuseKey f i * 8 + g)

/-- A generation is valid: marker set and check matching (R569). -/
def FuseGen.valid (x : FuseGen) (f : Nat) : Bool := x.marker && x.check == fuseCheck f x.value

/-- A generation is free: marker clear and nothing programmed (R571). -/
def FuseGen.isFree (x : FuseGen) : Bool := !x.marker && x.value == 0 && x.check == 0

/-- The highest-numbered valid generation plus 1, 0 for none (R569). -/
def State.newestValid (s : State) (f i : Nat) : Nat :=
  (List.range 8).foldl (fun b g => if (s.fuseGen f i g).valid f then g + 1 else b) 0

/-- Every field and instance. -/
def fuseAll : List (Nat × Nat) := (List.range 20).flatMap (fun f => (List.range (fuseInsts.getD f 0)).map (fun i => (f, i)))

/-- The fuse controller chooses generations at a run of the boot ROM (R570). -/
def State.chooseFuses (s : State) : State :=
  let one (x : Fuses) (fi : Nat × Nat) : Fuses :=
    let k := fuseKey fi.1 fi.2
    let g := s.newestValid fi.1 fi.2
    { x with chosen := tset 0 x.chosen k g,
             shadow := tset 0 x.shadow k (if g = 0 then 0 else (s.fuseGen fi.1 fi.2 (g - 1)).value) }
  { s with fuse := fuseAll.foldl one s.fuse }

/-- The fields without a valid generation, reported once boot has finished (R569). -/
def State.fuseEvents (s : State) : State :=
  fuseAll.foldl (fun t fi => if tget 0 t.fuse.chosen (fuseKey fi.1 fi.2) = 0 then t.chipEvent 0x0E03 [fi.1, fi.2] else t) s

/-- FUSE_READ: generations and the value in use; keys read as 0 (R572). -/
def execFuseRead (m : Fin 64) (s : State) : Out :=
  s.skeic 0x0E07 m fun s =>
    let f := (s.pw m 0).fld 4 0
    let i := (s.pw m 0).fld 9 5
    need ((s.pw m 0).fld 31 10 = 0 && fuseExists f i) "field or instance" <|
    let c := tget 0 s.fuse.chosen (fuseKey f i)
    let mark := ((List.range 8).map (fun g => b2n (s.fuseGen f i g).marker * 2 ^ g)).sum
    let valid := ((List.range 8).map (fun g => b2n ((s.fuseGen f i g).valid f) * 2 ^ g)).sum
    let v := if f = 9 || f = 10 then 0 else s.fuseVal f i
    .done s (pack [(c - 1, 3), (b2n (c = 0), 1), (mark, 8), (valid, 8), (b2n (c < s.newestValid f i), 1)] ::
      (List.range ((fuseBits.getD f 0 + 31) / 32)).map (fun j => w32 (v >>> (32 * j))))

/-- The lowest-numbered free generation. -/
def State.freeGen (s : State) (f i : Nat) : Option Nat := (List.range 8).find? (fun g => (s.fuseGen f i g).isFree)

/-- FUSE_PROGRAM: programming of the lowest free generation starts, or its result tells why not (R571 to R573). The
generation and its result come with FUSE_PROGRAM_COMPLETE. -/
def execFuseProgram (m : Fin 64) (s : State) : Out :=
  s.skeic 0x0E08 m fun s =>
    let f := (s.pw m 0).fld 4 0
    let i := (s.pw m 0).fld 9 5
    let n := fuseBits.getD f 0
    let v := leNat (wordsBytes ((span 1 ((n + 31) / 32)).map (s.pw m)))
    need ((s.pw m 0).fld 31 10 = 0 && fuseExists f i && v < 2 ^ n) "field, instance or value" <|
    if s.fuse.work.isSome then .wait
    else if f ≤ 6 then .done s [5]
    else if (f = 9 || f = 10) && !(s.mbx m).viaSp then .done s [3]
    else if (f = 9 || f = 10) && s.pwr.dev ≠ .park then .done s [2]
    else match s.freeGen f i with
      | none => .done s [1]
      | some g => .run { s with fuse := { s.fuse with
          work := some { field := f, inst := i, gen := g, value := v, mbx := m } } }

/-- Programming and read-back of a generation complete: what the generation holds now, as read back. It is valid, or
used up with event 0E02h and result 4 (R571). -/
def execFuseProgramComplete (value : Nat) (check : BitVec 8) (marker : Bool) (s : State) : Out :=
  match s.fuse.work with
  | none => .next s
  | some w =>
    let x : FuseGen := { value := value, check := check, marker := marker }
    let s := { s with fuse := { s.fuse with
      gens := tset {} s.fuse.gens (fuseKey w.field w.inst * 8 + w.gen) x, work := none } }
    if x.valid w.field && value = w.value then .next (s.respond w.mbx 0 [pack [(0, 3), (w.gen, 3)]])
    else .next ((s.chipEvent 0x0E02 [w.field, w.inst, w.gen]).respond w.mbx 0 [pack [(4, 3), (w.gen, 3)]])

end Sys2Proof.Machine
end

