-- ==== Sys2Proof/Machine/CellOps.lean ====
section
/-! DEFINITION. Cells, blocks, regions, shots and frames: what is present, which windows are open, which instants are
permitted (chapters 01, 04, 06). -/
namespace Sys2Proof.Machine

/-! ### Access -/

/-- Cell of channel c. -/
def State.cell (s : State) (c : Nat) : Cell := tget {} s.cells c

/-- Cell of channel c changed. -/
def State.setCell (s : State) (c : Nat) (f : Cell → Cell) : State := { s with cells := tmod {} s.cells c f }

/-- Block b. -/
def State.blk (s : State) (b : Nat) : Block := tget {} s.blocks b

/-- Block b changed. -/
def State.setBlk (s : State) (b : Nat) (f : Block → Block) : State := { s with blocks := tmod {} s.blocks b f }

/-- Region r. -/
def State.reg (s : State) (r : Nat) : Region := tget {} s.regions r

/-- Region r changed. -/
def State.setReg (s : State) (r : Nat) (f : Region → Region) : State := { s with regions := tmod {} s.regions r f }

/-- The shot that fires at a tick. -/
def State.shot (s : State) (fire : Nat) : Option Shot := s.seq.shots.find? (fun x => x.fire == fire)

/-- The shot that fires at a tick, changed. -/
def State.setShot (s : State) (fire : Nat) (f : Shot → Shot) : State :=
  { s with seq := { s.seq with shots := s.seq.shots.map (fun x => if x.fire == fire then f x else x) } }

/-- The frame of a sequence, changed. -/
def State.setFrame (s : State) (k : Nat) (f : Frame → Frame) : State :=
  { s with seq := { s.seq with frames := s.seq.frames.map (fun x => if x.seq == k then f x else x) } }

/-- Count word w of the record of frame k increased by n, saturating (R445). -/
def State.countFrame (s : State) (k w n : Nat) : State :=
  s.setFrame k (fun x => { x with n := tmod 0 x.n w (fun v => sat 32 (v + n)) })

/-- A count that belongs to no shot, in the frame in progress (R445). -/
def State.countNow (s : State) (w n : Nat) : State := s.countFrame s.kept.frame w n

/-! ### Quarantine and presence -/

/-- A cause of silencing is found (R15). -/
def Cell.silenced (c : Cell) : Bool := c.open_ || c.short || c.stuck

/-- The cell is flagged and not silenced (R15). -/
def Cell.flagged (c : Cell) : Bool := c.mism && !c.silenced

/-- Region r neither restarts nor is disabled (R29, R32). -/
def State.regionOk (s : State) (r : Nat) : Bool := !(s.reg r).restart && !(s.reg r).disabled

/-- Confirmed returns that the collector holds (R196). -/
def State.collected (s : State) : Nat := (s.regions.map (fun e => (e.2.eng.filter (·.col)).length)).sum

/-- Region r takes part in the shots that fire now (R29, R32, R43, R75). -/
def State.regionUp (s : State) (r : Nat) : Bool := s.acts 95 && s.acts (64 + r) && s.regionOk r

/-- Region r works, if only for shots fired before its domain was switched off (R75). -/
def State.regionWorks (s : State) (r : Nat) : Bool := s.works (64 + r) && s.regionOk r

/-- Region r calibrates: it opens no listen window and counts as absent (R560). -/
def State.calibrating (s : State) (r : Nat) : Bool := s.cal.run.any (fun x => x.part == some r)

/-- Block b takes part in the shots that fire now (R23, R25, R43, R75). -/
def State.blockUp (s : State) (b : Nat) : Bool :=
  s.acts b && s.acts (32 + b) && !(s.blk b).restart && s.regionUp (b / 4)

/-- Block b works, if only for shots fired before a domain of it was switched off (R75). -/
def State.blockWorks (s : State) (b : Nat) : Bool :=
  s.works b && s.works (32 + b) && !(s.blk b).restart && s.regionWorks (b / 4)

/-- Channel c is silenced: by its own quarantine or by its block's hold-off (R15, R25). -/
def State.silent (s : State) (c : Nat) : Bool := (s.cell c).silenced || (s.blk (c / 16)).held

/-- Channel c gives the converter queue nothing: its quarantine is in effect, or its block is held off (R16, R25, R149). -/
def State.muted (s : State) (c : Nat) : Bool := (s.cell c).mute || (s.blk (c / 16)).held

/-- The channels for which a test holds, as a mask. -/
def maskOf (f : Nat → Bool) : BitVec 512 := BitVec.ofNat 512 (((List.range 512).filter f).map (2 ^ ·)).sum

/-- A channel that is silenced is so in the frame in progress (R445). -/
def State.noteSilent (s : State) (c : Nat) : State :=
  if s.silent c then s.setFrame s.kept.frame (fun f => { f with sil := f.sil ||| BitVec.ofNat 512 (2 ^ c) }) else s

/-- A region or its blocks that are absent are so in the frame in progress (R445). -/
def State.noteAbsent (s : State) : State :=
  let regs := ((List.range 8).filter (fun r => !s.regionUp r || !s.dom (64 + r) || s.calibrating r)).map (2 ^ ·)
  let blks := ((List.range 32).filter (fun b => !s.blockUp b || !s.blockOn b || (s.blk b).held)).map (2 ^ ·)
  s.setFrame s.kept.frame (fun f => { f with regs := f.regs ||| BitVec.ofNat 8 regs.sum, blks := f.blks ||| BitVec.ofNat 32 blks.sum })

/-! ### The region's write port (R27) -/

/-- A histogram bank of region r is being read out: histograms have its write port, and segments and converter-queue entries
come after them (R27). -/
def State.portBusy (s : State) (r : Nat) : Bool := (span (4 * r) 4).any (fun b => !(s.blk b).rd.isEmpty)

/-- The write port of region r takes a converter-queue entry: no histogram and no segment has precedence (R27, R148), and a
memory channel takes what it writes. -/
def State.portFree (s : State) (r : Nat) : Bool := !s.portBusy r && (s.reg r).wq.isEmpty && (s.writesTo r).isSome

/-! ### Per-shot parameters -/

/-- The value in force for a shot of a parameter that changes from frame to frame (R198, R327). -/
def State.valFor (s : State) (sh : Shot) (p : Par) (i : Nat) : Nat :=
  match tfind sh.old (parKey p.subj p.idx i) with
  | some v => v
  | none => s.cur p i

/-- The coincidence pattern in force for a shot (R199). -/
def State.coincFor (s : State) (sh : Shot) (b p : Nat) : List Word :=
  match tfind sh.oldCo (b * 16 + p) with
  | some v => v
  | none => match tfind s.coincNow (b * 16 + p) with
    | some v => v
    | none => tget [0, 0] s.p.coinc (b * 16 + p)

/-- The capture profile in force, three words (R253). -/
def defaultProfile (p : Nat) : List Word :=
  [pack [(if p = 0 then 64 else 0, 9), (if p = 0 then 16 else 0, 8), (0, 3), (1, 1)], 0, pack [(16, 7), (1, 3)]]

/-- The stored capture profile. -/
def State.profile (s : State) (p : Nat) : List Word := (tfind s.p.profs p).getD (defaultProfile p)

/-- The capture profile in force for the shots that fire now. -/
def State.profileNow (s : State) (p : Nat) : List Word := (tfind s.profNow p).getD (s.profile p)

/-! ### Windows -/

/-- Code span of a shot: its last offset, 0 for a histogram entry, which makes no detection (R117, R206). -/
def Shot.span (x : Shot) : Nat := if x.hist then 0 else x.offs.foldl max 0

/-- First tick after the shot's window. -/
def Shot.winEnd (x : Shot) : Nat := x.fire + x.win

/-- First tick after the shot's sub-pulse search (R173). -/
def Shot.searchEnd (x : Shot) : Nat := x.fire + x.win + x.span

/-- The shot opened a window on channel c, quarantined or not (R117, R165). -/
def Shot.opensOn (x : Shot) (c : Nat) : Bool := x.fired && x.win ≠ 0 && x.opened.getLsbD c

/-- The shot opened a window on channel c that contributes (R15). -/
def Shot.took (x : Shot) (c : Nat) : Bool := x.fired && x.win ≠ 0 && x.part.getLsbD c

/-- Channel c listened in the shot: its window contributes and was not abandoned (R23, R318). -/
def Shot.listened (x : Shot) (c : Nat) : Bool := x.took c && !x.deaf.getLsbD c

/-- The window of the shot on channel c is open at tick n. -/
def Shot.openAt (x : Shot) (c n : Nat) : Bool := x.listened c && x.fire ≤ n && n < x.winEnd

/-- The window of the shot on channel c, or the sub-pulse search that follows it, runs at tick n; a histogram entry has no
search (R117, R173). -/
def Shot.runsAt (x : Shot) (c n : Nat) : Bool := x.opensOn c && x.fire ≤ n && n < x.searchEnd

/-- The shot's window of channel c is announced and has not opened (R118, R217). -/
def Shot.announced (x : Shot) (c : Nat) : Bool :=
  !x.fired && !x.gone && x.run && x.win ≠ 0 && x.proof.isNone && x.rset.getLsbD c

/-- A listen window of channel c is open, or a sub-pulse search of it runs, at tick n. -/
def State.busyAt (s : State) (c n : Nat) : Bool := s.seq.shots.any (fun x => x.runsAt c n)

/-- Channel c opens the windows announced to it: its block takes part and its region does not calibrate (R23, R29, R560). -/
def State.willOpen (s : State) (c : Nat) : Bool := s.blockUp (c / 16) && !s.calibrating (c / 64)

/-- A window that channel c will open is announced to open before tick n. -/
def State.opensBefore (s : State) (c n : Nat) : Bool :=
  s.willOpen c && s.seq.shots.any (fun x => x.announced c && x.fire < n)

/-- A window that channel c will open is announced. -/
def State.anyAnnounced (s : State) (c : Nat) : Bool := s.willOpen c && s.seq.shots.any (fun x => x.announced c)

/-- A permitted instant of channel c (R117): no window open, no search, none opens within 8 tk; and either a search ends
at this tick or no window is announced. -/
def State.permitted (s : State) (c : Nat) : Bool :=
  let n := s.tb.tick
  !s.busyAt c n && !s.opensBefore c (n + 8) &&
    (!s.anyAnnounced c || s.seq.shots.any (fun x => x.opensOn c && x.searchEnd == n))

/-- Shots run in RUN, so that every gap between windows ends (R138). -/
def State.gapsEnd (s : State) : Bool := s.running && (s.seq.run ≠ 0 || s.follower)

/-- A new action may start in this gap of channel c: at most one starts in a gap; where no shots run, and the gap has no
end, the next one follows the end of the last (R138; log 20). -/
def State.mayAct (s : State) (c : Nat) : Bool :=
  let x := s.cell c
  !x.changing && !x.measuring && (!x.gapUsed || !s.gapsEnd)

/-- A gap of 3,200 tk is ahead of channel c (R136, R138). A window announced for that time counts although the block restarts
or the region calibrates now: it may be back by then. -/
def State.longGap (s : State) (c : Nat) : Bool :=
  !s.busyAt c s.tb.tick && !s.seq.shots.any (fun x => x.announced c && decide (x.fire < s.tb.tick + 3200))

/-- The key of FE_INPUT_BIAS_MV of channel c. -/
def biasKey (c : Nat) : Nat := parKey 4 2 c

/-- A change of FE_INPUT_BIAS_MV of channel c waits. -/
def State.biasPending (s : State) (c : Nat) : Bool := (tfind s.lag (biasKey c)).isSome

/-- Cause of a stale calibration of channel c by its front end: the interleave estimator has not converged (R132). -/
def State.unconverged (s : State) (c : Nat) : Bool := !(s.cell c).conv

end Sys2Proof.Machine
end

