-- ==== Sys2Proof/Machine/FrontEnd.lean ====
section
/-! DEFINITION. The return channel front end: gain ranges, quarantine, bias test, interleave correction and the converter
queue (chapter 04). -/
namespace Sys2Proof.Machine

/-! ### 04xxh queries and parameters -/

/-- Gain ratio of channel c in 1/256; nominal 16 until a passing run has written it (R645). -/
def State.gainRatio (s : State) (c : Nat) : Nat := tget 4096 s.p.ratio c

/-- The target of channel c that has fallen due: that of a waiting change of FE_GAIN_MODE, else that of the latest decision (R121,
R122). -/
def State.dueRange (s : State) (c : Nat) : Option Bool :=
  let mode := s.work FE_GAIN_MODE c
  if (tfind s.lag (parKey 4 0 c)).isSome && mode ≠ 0 then some (mode == 2) else (s.cell c).target

/-- The pending target of channel c: the one that has fallen due, else the range to which it returns after a calibration run
(R561); none where it is the range in use. -/
def State.pendingRange (s : State) (c : Nat) : Option Bool :=
  let t := (s.dueRange c).or (s.cell c).back
  if t = some (s.cell c).low then none else t

/-- The range that channel c goes to at a permitted instant: its pending target; while its region calibrates, what the engine
sets, which the spec leaves open (R561). -/
def State.nextRange (s : State) (c : Nat) : Option Bool × State :=
  if s.calibrating (c / 64) then
    let (k, t) := s.draw 2
    let e := k == 1
    (if e = (s.cell c).low then none else some e,
      t.setCell c (fun x => { x with back := some (x.back.getD x.low), target := s.dueRange c }))
  else (s.pendingRange c, s.setCell c (fun x => { x with back := none, target := s.pendingRange c }))

/-- The two words of FE_STATUS_GET for channel c. -/
def State.feWords (s : State) (c : Nat) : List Word :=
  let x := s.cell c
  let q := if s.silent c then 2 else if x.flagged then 1 else 0
  [pack [(b2n x.low, 1), (b2n (s.pendingRange c).isSome, 1), (b2n ((s.pendingRange c).getD x.low), 1), (q, 2), (b2n x.open_, 1),
      (b2n x.short, 1), (b2n x.stuck, 1), (b2n x.mism, 1), (b2n x.conv, 1), (b2n x.untested, 1), (0, 5),
      (unsgn 16 x.servo, 16)],
   pack [(min 255 x.cap, 8), (s.gainRatio c, 13)]]

/-- FE_STATUS_GET. -/
def execFeStatusGet (m : Fin 64) (s : State) : Out :=
  s.skeic 0x0401 m fun s =>
    let first := (s.pw m 0).fld 8 0
    let n := (s.pw m 0).fld 15 9
    need ((s.pw m 0).fld 31 16 = 0 && n ≤ 64 && first + n ≤ 512) "channel range" <|
    .done s ((span first n).flatMap s.feWords)

/-- FE_PARAM_WRITE (R152, R153). -/
def execFeParamWrite (m : Fin 64) (s : State) : Out :=
  s.skeic 0x0402 m fun s => s.parWriteRange 4 m fun t _ => t

/-- FE_PARAM_READ. -/
def execFeParamRead (m : Fin 64) (s : State) : Out := s.skeic 0x0403 m fun s => s.parReadRange 4 m

/-- FE_BIAS_TEST: a measurement becomes due on each named channel (R154). While another one runs it waits, and what follows
it with it (DESIGN CHOICE, log 46). -/
def execFeBiasTest (m : Fin 64) (s : State) : Out :=
  s.skeic 0x0404 m fun s =>
    let first := (s.pw m 0).fld 8 0
    let n := (s.pw m 0).fld 18 9
    need ((s.pw m 0).fld 31 19 = 0 && first + n ≤ 512) "channel range" <|
    if s.biasTest.isSome then .wait
    else if n = 0 then .done s [0, 0]
    else
      let t := (span first n).foldl (fun t c => t.setCell c (fun x => { x with due := true })) s
      .later { t with biasTest := some { mbx := m, all := maskOf (fun c => first ≤ c && c < first + n)
                                         early := maskOf (fun c => (s.cell c).measuring) } }

/-- The number of channels of a mask. -/
def popcount (m : BitVec 512) : Nat := ((List.range 512).filter (fun c => m.getLsbD c)).length

/-- The answer of FE_BIAS_TEST: channels measured, those that found no gap, and those found open and shorted (R154). -/
def State.biasTestAnswer (s : State) (b : BiasTest) : State :=
  let n := popcount b.cap
  { s with biasTest := none }.respond b.mbx 0 [pack [(n, 10), (popcount b.all - n, 10)],
    pack [(popcount b.open_, 10), (popcount b.short, 10)]]

/-- The bit of channel c. -/
def chBit (c : Nat) : BitVec 512 := BitVec.ofNat 512 (2 ^ c)

/-- A part of FE_BIAS_TEST has run on a channel: the test takes note, and responds once both parts have run on each named
channel (R154). -/
def State.biasTestPart (s : State) (f : BiasTest → BiasTest) : State :=
  match s.biasTest with
  | some b =>
    let b := f b
    if b.cap = b.all && b.dc = b.all then s.biasTestAnswer b else { s with biasTest := some b }
  | none => s

/-- 100 ms after FE_BIAS_TEST it responds (R154). -/
def execBiasTestTimeout (s : State) : Out :=
  match s.biasTest with
  | some b => .next (s.biasTestAnswer b)
  | none => .next s

/-- FE_QUARANTINE_CLEAR ends the quarantine of the named channels (R155). -/
def execFeQuarantineClear (m : Fin 64) (s : State) : Out :=
  s.skeic 0x0405 m fun s =>
    let first := (s.pw m 0).fld 8 0
    let n := (s.pw m 0).fld 18 9
    need ((s.pw m 0).fld 31 19 = 0 && first + n ≤ 512) "channel range" <|
    .done ((span first n).foldl (fun t c => t.setCell c (fun x =>
      { x with open_ := false, short := false, stuck := false, mism := false,
               runA := 0, runB := 0, seenA := [], seenB := [] })) s) []

/-- FE_INTERLEAVE_GET. -/
def execFeInterleaveGet (m : Fin 64) (s : State) : Out :=
  s.skeic 0x0406 m fun s =>
    need ((s.pw m 0).fld 31 9 = 0) "reserved bits" <|
    let x := s.cell ((s.pw m 0).fld 8 0)
    .done s [pack [(unsgn 16 x.offA, 16), (unsgn 16 x.offB, 16)], pack [(unsgn 16 x.gainA, 16), (unsgn 16 x.gainB, 16)],
      pack [(unsgn 16 x.skew, 16)], pack [(min 255 x.resO, 8), (min 255 x.resG, 8), (min 255 x.resS, 8), (b2n x.conv, 1)]]

/-- FE_INTERLEAVE_SAVE: the corrections in use of every channel whose analogue domain is on become its start values
(R156). -/
def execFeInterleaveSave (m : Fin 64) (s : State) : Out :=
  s.skeic 0x0407 m fun s =>
    let save (t : Tab (List Int)) (c : Nat) : Tab (List Int) :=
      let x := s.cell c
      if s.dom (c / 16) then tset [0, 0, 0, 0, 0] t c [x.offA, x.offB, x.gainA, x.gainB, x.skew] else t
    .commit { s with p := { s.p with inter := (List.range 512).foldl save s.p.inter } } (recordBytes (512 * 3)) []

/-! ### Settling, tests and quarantine -/

/-- The front ends of block b have settled after their domain switched on: a first measurement is due (R115, R137). -/
def execFrontEndSettled (b : Fin 32) (s : State) : Out :=
  if !s.dom b then .next s else
  .next ((span (16 * b) 16).foldl (fun t c => t.setCell c (fun x => { x with settled := true, due := true })) s)

/-- The 1 ms average of the servo current of channel c in 0.1 µA, and whether the servo stayed at its limit (R114, R135).
A shorted detector silences the cell; a silenced cell is measured as well (R139). -/
def execBiasDcEvaluation (c : Fin 512) (avg : Int) (limit : Bool) (s : State) : Out :=
  if !s.dom (c / 16) then .next s else
  let found : Bool := limit || decide ((10 * s.val FE_SHORT_UA : Nat) < avg)
  let s := (s.setCell c (fun x => { x with servo := satI 16 avg, short := x.short || found })).noteSilent c
  .next (s.biasTestPart (fun b => { b with
    dc := b.dc ||| (b.all &&& chBit c), short := if found then b.short ||| (b.all &&& chBit c) else b.short }))

/-- A capacitance measurement starts (R136, R138): last in the order of precedence. -/
def execCapacitanceMeasurementStart (c : Fin 512) (s : State) : Out :=
  let x := s.cell c
  if s.dom (c / 16) && x.settled && x.due && (s.pendingRange c).isNone && !s.biasPending c && s.mayAct c && s.longGap c then
    .next (s.setCell c (fun x => { x with due := false, measuring := true, gapUsed := true }))
  else .next s

/-- A capacitance measurement ends with a value in 0.1 pF (R136). It is the periodic one of the interval in which it began
(R137). An FE_BIAS_TEST whose channels have all been measured since responds (R154). -/
def execCapacitanceMeasurementEnd (c : Fin 512) (tenthPf : Nat) (s : State) : Out :=
  if !(s.cell c).measuring then .next s else
  let found : Bool := tenthPf < s.val FE_OPEN_PF
  let s := (s.setCell c (fun x => { x with
    measuring := false, cap := min 255 tenthPf, measured := x.measured || !x.older, older := false, untested := false
    open_ := x.open_ || found })).noteSilent c
  .next (s.biasTestPart (fun b =>
    if b.early.getLsbD c then { b with early := b.early &&& ~~~(chBit c) } else { b with
      cap := b.cap ||| (b.all &&& chBit c), open_ := if found then b.open_ ||| (b.all &&& chBit c) else b.open_ }))

/-- A periodic measurement interval of channel c ends: untested where no gap came, and the next one is due (R137). One under
way has had its gap. -/
def execBiasTestInterval (c : Fin 512) (s : State) : Out :=
  if s.val FE_BIAS_TEST_INTERVAL_MS = 0 || !s.dom (c / 16) then .next s else
  .next (s.setCell c (fun x => { x with
    untested := !x.measured && (!x.measuring || x.older), measured := false, older := x.measuring, due := true }))

/-- A converter of channel c has stuck (R134): 4,096 identical codes of its own while its partner gave four distinct
ones; not where both stand at one end code. -/
def execStuckConverter (c : Fin 512) (s : State) : Out :=
  let x := s.cell c
  let ends : Bool := x.codeA == x.codeB && (x.codeA == 0 || x.codeA == 1023)
  let four (l : List (Nat × Nat)) : Bool := 4 ≤ (l.filter (fun e => decide (s.tb.tick ≤ e.2 + 8192))).length
  let a : Bool := decide (4096 ≤ x.runA) && four x.seenB
  let b : Bool := decide (4096 ≤ x.runB) && four x.seenA
  .next (if (a || b) && !ends then (s.setCell c (fun x => { x with stuck := true })).noteSilent c else s)

/-! ### Interleave correction -/

/-- A correction moved by at most one step within its range. -/
def moved (x d lim : Int) : Int := max (-lim) (min lim (x + max (-1) (min 1 d)))

/-- The estimator's step on channel c (R130): the directions it found and its estimated residuals (offset 1/64 LSB, gain
0.01 %, skew 0.1 ps). Convergence is reported once every residual is within its maximum (R131), and stays reported until the cell starts anew
(DESIGN CHOICE, log 47). -/
def execInterleaveEstimatorStep (c : Fin 512) (dOffA dOffB dGainA dGainB dSkew : Int) (resO resG resS : Nat)
    (s : State) : Out :=
  if s.val FE_INTERLEAVE_TRACK = 0 || !s.dom (c / 16) then .next s else
  .next (s.setCell c (fun x => { x with
    offA := moved x.offA dOffA 512, offB := moved x.offB dOffB 512, gainA := moved x.gainA dGainA 983
    gainB := moved x.gainB dGainB 983, skew := moved x.skew dSkew 240, resO := min 255 resO, resG := min 255 resG
    resS := min 255 resS
    conv := x.conv || (decide (resO ≤ 16) && decide (resG ≤ 10) && decide (resS ≤ 5)) }))

/-- Interleave mismatch on channel c (R133): after convergence, a correction at the end of its range, or a residual above
its tolerance, which the command says has lasted 1 s. -/
def execInterleaveMismatch (c : Fin 512) (s : State) : Out :=
  let x := s.cell c
  let atEnd : Bool := [(x.offA, 512), (x.offB, 512), (x.gainA, 983), (x.gainB, 983), (x.skew, 240)].any
    (fun e => decide (e.2 ≤ e.1) || decide (e.1 ≤ -e.2))
  let off : Bool := decide (64 < x.resO) || decide (40 < x.resG) || decide (20 < x.resS)
  .next (if x.conv && (atEnd || off) then s.setCell c (fun x => { x with mism := true }) else s)

/-! ### Gain range -/

/-- The recovery interval of an overload of a peak in nA in a range, in tk (R125, R646). -/
def recoveryTicks (low : Bool) (peak : Nat) : Nat :=
  if low then (if peak ≤ 1600000 then 3 else 12)
  else if peak ≤ 100000 then 3 else if peak ≤ 2000000 then 10 else 40

/-- The recovery interval of channel c is over (R125). -/
def execOverloadRecoveryEnd (c : Fin 512) (s : State) : Out :=
  .next (if (s.cell c).recover ≤ s.tb.tick then s.setCell c (fun x => { x with recover := 0 }) else s)

/-- The gain decision at the close of a window of channel c (R121), from the window's peak and saturation. -/
def Cell.decide_ (x : Cell) (mode up : Nat) (sat : Bool) (peak : Int) : Cell :=
  if mode ≠ 0 then x
  else if !x.low then (if sat then { x with target := some true, quiet := 0 } else x)
  else
    let q := if peak < 236 then x.quiet + 1 else 0
    if q ≥ up then { x with target := some false, quiet := 0 } else { x with quiet := q }

/-- The window of the shot fired at a tick closes on channel c: the gain decision is taken once (R121, R122). -/
def execListenWindowClose (c : Fin 512) (fire : Nat) (s : State) : Out :=
  match s.shot fire with
  | none => .next s
  | some x =>
    if !x.opensOn c || s.tb.tick < x.winEnd || x.closed.getLsbD c then .next s else
    let s := s.setShot fire (fun y => { y with closed := y.closed ||| chBit c })
    .next (s.setCell c (fun k => k.decide_ (s.cur FE_GAIN_MODE c) (s.val FE_GAIN_UP_WINDOWS) (x.sats.getLsbD c)
      (tget 0 x.peaks c)))

/-- The segments of a cell that lack samples end now, truncated (R258). -/
def Cell.cutSegs (x : Cell) (n : Nat) : Cell :=
  let cut (g : Seg) : Bool := !g.ended && decide (g.smp.length < g.len)
  if x.segs.any cut then
    { x with segs := x.segs.map (fun g => if cut g then { g with len := g.smp.length, trunc := true } else g), rearm := n - 1 + 64 }
  else x

/-- The level of the timing comparator: baseline plus threshold floor of the present gain range (R174). -/
def State.latchLevel (s : State) (c : Nat) : State :=
  s.setCell c (fun x => { x with
    level := (if x.low then x.lo else x.hi).map (fun t => t.b + (s.cur (if x.low then DET_THR_FLOOR_LO else DET_THR_FLOOR_HI) c : Nat)) })

/-- An open detection that the range change interrupts closes with what it holds (DESIGN CHOICE, log 48). -/
def Cell.cutDet (x : Cell) (n : Nat) : Cell :=
  match x.det with
  | some d => { x with det := none, armed := true, after := n + 17, dets := x.dets ++ [{ d with closed := true }] }
  | none => x

/-- The groups of channel c in block b take no more members and close early (R263). -/
def State.endGroups (s : State) (c : Nat) : State :=
  s.setBlk (c / 16) (fun b => { b with acc := b.acc.map (fun g =>
    if g.ch = c && !g.ending then { g with ending := true, early := true } else g) })

/-- A permitted instant of channel c: the changes that wait for it are applied, and a pending gain change starts (R117,
R119, R122, R153, R174, R198, R200, R303). -/
def execPermittedInstant (c : Fin 512) (s : State) : Out :=
  if !s.permitted c then .next s else
  let (want, s) := s.nextRange c
  let s := s.forceAt .permitted c
  let due (e : Nat × Nat) : Bool := e.1 % 2 ^ 16 == c.val
  let s := { s.forceTo (s.ready.filter due) with ready := s.ready.filter (fun e => !due e) }
  let s := s.setCell c (fun x => { x with
    tabs := [], sunIn := x.sun, q0S := if (tfind x.tabs 7).isSome then none else x.q0S })
  let s := s.latchLevel c
  match want with
  | some t =>
    if !s.mayAct c then .next s
    else
      let s := s.setCell c (fun x => { ((x.cutSegs s.tb.tick).cutDet s.tb.tick) with
        target := if s.calibrating (c.val / 64) then x.target else none, changing := true, newLow := t, gapUsed := true })
      .next (s.endGroups c)
  | none => .next s

/-- The range change of channel c is complete (R119): its tracker goes on from the values held for the new range, or
starts anew (R162). The run of excluded samples ends with the range left, and a sample that waits to move its baseline is
dropped (DESIGN CHOICE, log 48). -/
def execGainChangeComplete (c : Fin 512) (s : State) : Out :=
  if !(s.cell c).changing then .next s else
  .next ((s.setCell c (fun x => { x with changing := false, low := x.newLow, armed := true, excluded := 0
                                         override := none })).latchLevel c)

/-- A pending FE_INPUT_BIAS_MV change of channel c is applied at a permitted instant with a gap of 3,200 tk ahead, after a
pending gain change (R138, R153). -/
def execInputBiasChange (c : Fin 512) (s : State) : Out :=
  if s.permitted c && s.biasPending c && (s.pendingRange c).isNone && s.mayAct c && s.longGap c then
    .next ((s.forceAt .bias c).setCell c (fun x => { x with gapUsed := true }))
  else .next s

/-! ### Sample formats (R140 to R143) -/

/-- A sample in its 16-bit container. -/
def container (fmt : Nat) (x : Smp) : Nat :=
  match fmt with
  | 0 => x.code
  | 1 => unsgn 16 x.sv
  | 2 => x.code * 64
  | _ => unsgn 16 (x.sv * 8)

/-- 16-bit values two to a word, the first in the low half. -/
def halves : List Nat → List Word
  | [] => []
  | [a] => [pack [(a, 16)]]
  | a :: b :: r => pack [(a, 16), (b, 16)] :: halves r

/-! ### The converter queue -/

/-- The 96-byte record of an entry (R145, R146, R442). -/
def State.cqRecord (s : State) (e : CqEntry) (num drops : Nat) : List Word :=
  [pack [(s.addr, 3)], 0, 0, recW3 e.frame 0x39 0,
   pack [(e.ch, 9), (b2n e.low, 1), (e.fmt, 2), (e.smp.length, 6), (b2n (drops ≠ 0), 1), (b2n (e.smp.any (·.sat)), 1),
     (b2n e.fault, 1)],
   w32 e.first, w32 (e.first / 2 ^ 32), pack [(min 65535 drops, 16), (num, 16)]] ++
  halves ((e.smp.map (container e.fmt)) ++ List.replicate (32 - e.smp.length) 0)

/-- The state once nothing is captured any more: delivering while closed entries wait, else idle. -/
def Cq.idleOr3 (q : Cq) : Nat := if q.full.isEmpty && q.closing.isEmpty then 0 else 3

/-- An entry closes: it is counted in its capture, and an entry of an earlier capture goes ahead of those of a later one
(R151, R157). -/
def Cq.closed (q : Cq) (h : CqHeld) : Cq :=
  if h.num = q.num then { q with full := q.full ++ [h], captured := wrap 32 (q.captured + 1) }
  else { q with full := q.full.takeWhile (fun x => x.num ≠ q.num) ++ [h] ++ q.full.dropWhile (fun x => x.num ≠ q.num) }

/-- The entry that a channel of the capture in progress fills, as one of that capture. -/
def Cq.part (q : Cq) (x : CqCh) : Option CqHeld := x.cur.map (fun e => { e := e, num := q.num, dest := q.dest, left := x.left })

/-- The capture ends: partly filled entries close early (R146, R150). -/
def Cq.finish (q : Cq) : Cq :=
  let q := (q.closing ++ q.chs.filterMap q.part).foldl Cq.closed { q with chs := [], closing := [] }
  { q with st := q.idleOr3 }

/-- The capture is stopped: it ends at each channel's next entry boundary, which a channel that has its samples has reached
(R146, R157). -/
def Cq.stop (q : Cq) : Cq :=
  let es := q.chs.filterMap q.part
  let q := (es.filter (fun h => h.left == 0)).foldl Cq.closed { q with
    chs := [], closing := q.closing ++ es.filter (fun h => h.left ≠ 0) }
  { q with st := if q.st = 1 then q.idleOr3 else q.st }

/-- The channels listed in FE_CQ_START. -/
def State.cqChannels (s : State) (m n : Nat) : List Nat :=
  (List.range n).map (fun i => if i % 2 = 0 then (s.pw m (5 + i / 2)).fld 8 0 else (s.pw m (5 + i / 2)).fld 24 16)

/-- The queue is bound to a destination. -/
def State.bound (s : State) (q : Nat) : Bool := (s.bindOf q).port ≠ 0

/-- FE_CQ_START: a capture that is armed or runs ends first; the new one is armed or starts at once (R144, R150, R151). The
three counts start anew and count its own entries only (DESIGN CHOICE, log 49). A channel silenced already contributes
nothing (R149). -/
def execFeCqStart (m : Fin 64) (s : State) : Out :=
  s.skeic 0x0408 m fun s =>
    let n := (s.pw m 0).fld 4 0
    let chs := s.cqChannels m n
    let k := (s.pw m 1).fld 23 0
    let dest := (s.pw m 2).fld 14 0
    let start := (s.pw m 3).toNat + 2 ^ 32 * (s.pw m 4).toNat
    need ((s.pw m 0).fld 31 6 = 0 && n ≤ 16 && k ≤ 8388608 && (s.pw m 1).fld 31 24 = 0 && (s.pw m 2).fld 31 15 = 0 &&
      (span 5 8).all (fun i => (s.pw m i).fld 15 9 = 0 && (s.pw m i).fld 31 25 = 0)) "field" <|
    need (decide chs.Nodup) "channel named twice" <|
    need (s.bound dest) "destination queue not bound" <|
    let q := s.cq.stop
    let late := !(s.pw m 0).bit 5 || start ≤ s.tb.tick
    let q := { q with
      st := if n = 0 || k = 0 then q.idleOr3 else if late then 2 else 1
      chs := if k = 0 then [] else chs.map (fun c => { ch := c, left := k }), start := start, dest := dest
      fmt := s.work FE_CODE_FORMAT 0, num := wrap 16 (q.num + 1), captured := 0, delivered := 0, dropped := 0 }
    .done ((if k = 0 then [] else chs).foldl (fun s c => s.setCell c (fun x => { x with mute := s.silent c, tag := x.flagged }))
      { s with cq := q }) []

/-- FE_CQ_STOP: capture ends at each channel's next entry boundary; the response counts the entries captured, those
that fill up to it with them (R157). -/
def execFeCqStop (m : Fin 64) (s : State) : Out :=
  s.skeic 0x0409 m fun s =>
    let q := s.cq.stop
    .done { s with cq := q } [w32 (q.captured + (q.closing.filter (fun h => h.num == q.num)).length)]

/-- FE_CQ_STATUS. -/
def execFeCqStatus (m : Fin 64) (s : State) : Out :=
  s.skeic 0x040A m fun s => .done s [pack [(s.cq.st, 2)], w32 s.cq.captured, w32 s.cq.delivered, w32 s.cq.dropped]

/-- Capture begins at the named tick (R150). -/
def execCqCaptureStart (s : State) : Out :=
  .next (if s.cq.st = 1 && s.cq.start ≤ s.tb.tick then { s with cq := { s.cq with st := 2 } } else s)

/-- Capture ends once each channel has its samples (R150), or a stopped one has reached its boundaries (R157). -/
def execCqCaptureEnd (s : State) : Out :=
  let dead (c : Nat) : Bool := s.muted c || !s.blockUp (c / 16)
  .next (if 2 ≤ s.cq.st && s.cq.chs.all (fun x => x.left == 0 || dead x.ch) && s.cq.closing.all (fun h => dead h.e.ch)
    then { s with cq := s.cq.finish } else s)

/-- An entry of a stopped capture whose channel contributes no more closes with what it holds (R146, R149). -/
def State.cqSettle (s : State) : State :=
  let dead (h : CqHeld) : Bool := s.muted h.e.ch || !s.blockUp (h.e.ch / 16)
  { s with cq := (s.cq.closing.filter dead).foldl Cq.closed { s.cq with closing := s.cq.closing.filter (fun h => !dead h) } }

end Sys2Proof.Machine
end

