-- ==== Sys2Proof/Machine/Estimator.lean ====
section
/-! DEFINITION. The foreign-train estimator's fits and masks (chapter 08, Foreign pulse trains). -/
namespace Sys2Proof.Machine

/-- Fine-time units of a number of µs. -/
def fineUs (us : Nat) : Rat := (409600 * us : Nat)

/-- A stamp's time in fine-time units. -/
def Stamp.at (z : Stamp) : Rat := (z.t : Rat) / 16

/-- A stamp lies within the last REJ_GATE_US (R312, R314). -/
def State.inGate (s : State) (z : Stamp) : Bool := decide (s.fineNow - z.at ≤ fineUs (s.val REJ_GATE_US))

/-- The predicted arrival nearest to an instant (R311). -/
def Train.near (t : Train) (x : Rat) : Rat := t.phi + t.per * roundHalfUp ((x - t.phi) / t.per)

/-- Block b is in the train's block mask (R315). -/
def State.inMask (s : State) (t : Train) (b : Nat) : Bool := t.st.any (fun z => z.ch / 16 == b && s.inGate z)

/-- The block mask of a train as a word (R315). -/
def State.maskWord (s : State) (t : Train) : Nat := (((List.range 32).filter (s.inMask t)).map (2 ^ ·)).sum

/-- A crossing tick in block b is masked (R315): near an arrival that falls 2 µs or more after the train's acquisition or
latest refit. -/
def State.masked (s : State) (b nd : Nat) : Bool :=
  let w := s.val REJ_MASK_TK
  w ≠ 0 && s.est.trains.any (fun e =>
    let a := e.2.near (256 * nd : Nat)
    s.inMask e.2 b && decide (((256 * nd : Nat) - a : Rat).abs ≤ (256 * w : Nat)) &&
      decide (((256 * e.2.fitAt : Nat) : Rat) + fineUs 2 ≤ a))

/-- A crossing tick in block b is within 256 × w of an arrival of a train of its block's masks that lies no earlier than
an instant (R316, R319). -/
def State.nearTrain (s : State) (b nd w : Nat) (from_ : Rat) : Bool :=
  s.est.trains.any (fun e =>
    let x : Rat := (256 * nd : Nat)
    let a := e.2.near x
    let hit (a : Rat) : Bool := decide ((x - a).abs ≤ (256 * w : Nat)) && decide (from_ ≤ a)
    s.inMask e.2 b && (hit a || hit (a + e.2.per)))

/-- Distance from a crossing tick in block b to the nearest arrival of a train of its block's masks, less 256 × REJ_MASK_TK
(R300, R316). -/
def State.trainDist (s : State) (b nd : Nat) : Option Rat :=
  let x : Rat := (256 * nd : Nat)
  s.est.trains.foldl (fun (o : Option Rat) e =>
    if !s.inMask e.2 b then o else
    let d : Rat := (x - e.2.near x).abs - (256 * s.val REJ_MASK_TK : Nat)
    match o with
    | some r => some (min r d)
    | none => some d) none

/-- A detection is near a foreign arrival as the block masks stand at its crossing, under the REJ_ADJ_TK of a shot (R300,
R327). -/
def State.adjDet (s : State) (sh : Shot) (d : Det) : Bool :=
  match d.near with
  | some r => decide (r ≤ (256 * s.valFor sh REJ_ADJ_TK 0 : Nat))
  | none => false

/-- A return is interference-adjacent (R316). -/
def State.adjacent (s : State) (sh : Shot) (r : Ret) : Bool :=
  r.uses.any (fun n => s.nearTrain (r.ch / 16) n (s.val REJ_MASK_TK + s.valFor sh REJ_ADJ_TK 0) (-(2 ^ 80 : Int)))

/-- A stamp offered to the queue toward the estimator (R310): with stamps waiting, whether the queue can take it is not
stated, so it is a free value (log 5). A stamp it cannot take is dropped and counted. -/
def State.pushStamp (s : State) (z : Stamp) : State :=
  let s := s.countC 0x26 0 1
  let (d, s) := if s.est.q.isEmpty then (0, s) else s.draw 2
  if d = 0 then { s with est := { s.est with q := s.est.q ++ [z] } }
  else { s with rej := { s.rej with n := tmod 0 s.rej.n 26 (fun v => wrap 32 (v + 1)) } }

/-! ### Fits (R311) -/

/-- The least-squares fit of stamps with indices: period, phase, variance of the residuals. -/
def trainFit (st : List Stamp) : Rat × Rat × Rat :=
  let n : Rat := (st.length : Nat)
  let mk := sumR (st.map (fun z => (z.k : Rat))) / n
  let mt := sumR (st.map Stamp.at) / n
  let per := sumR (st.map (fun z => (z.k - mk) * (z.at - mt))) / sumR (st.map (fun z => (z.k - mk) * (z.k - mk)))
  let phi := mt - per * mk
  let res := st.map (fun z => (z.at - phi - per * z.k) * (z.at - phi - per * z.k))
  (per, phi, sumR res / (n - 2))

/-- A train over stamps, newest first, fitted now. -/
def State.trainOf (s : State) (st : List Stamp) : Train :=
  let (per, phi, var) := trainFit st
  { st := st, per := per, phi := phi, var := var, n := st.length
    inten := (roundOpen 0x0317 (sumR (st.map (fun z => (z.inten : Rat))) / (st.length : Nat))).toNat
    fitAt := s.tb.tick }

/-- A set of stamps with indices, oldest first, meets every condition of R312 but its size. -/
def State.qualifies (s : State) (st : List Stamp) : Bool :=
  let (per, phi, _) := trainFit st
  let t0 := ((st.head?.map Stamp.at).getD 0)
  let tol : Rat := (256 * s.val REJ_TRACK_TOL_TK : Nat)
  let lo : Rat := (s.val REJ_PERIOD_MIN_NS : Nat) * (4096 / 10)
  decide (lo ≤ per) && decide (per ≤ fineUs (s.val REJ_GATE_US) / 15) && decide (0 < per) &&
    st.all (fun z => z.k == roundHalfUp ((z.at - t0) / per) && decide ((z.at - phi - per * z.k).abs ≤ tol))

/-- The better of two sets: more stamps, then the larger period (R312). -/
def better (a b : List Stamp) : List Stamp :=
  if a.length < b.length then b
  else if b.length < a.length then a
  else if (trainFit a).1 < (trainFit b).1 then b else a

/-- The best qualifying set that extends a chosen part (newest first) by some of the remaining stamps (oldest first): each
is left out, or taken with an index 0 to 4 above the last one. Sets that cannot reach the size of the best one found are
not followed (R312). -/
def State.bestSet (s : State) : List Stamp → List Stamp → List Stamp → List Stamp
  | [], part, best =>
    let st := part.reverse
    if 16 ≤ st.length && s.qualifies st then better best st else best
  | z :: rest, part, best =>
    if part.length + rest.length + 1 < max 16 best.length then best else
    let best := match part with
      | [] => s.bestSet rest [{ z with k := 0 }] best
      | p :: _ =>
        [0, 1, 2, 3, 4].foldl (fun b (d : Int) =>
          let k := p.k + d
          let t0 := ((part.getLast?.map Stamp.at).getD 0)
          -- an index is possible only for a period within the limits
          let dt := z.at - t0
          let ok : Bool := decide (((s.val REJ_PERIOD_MIN_NS : Nat) : Rat) * (4096 / 10) * ((k : Rat) - 1) ≤ dt) &&
            decide (dt ≤ fineUs (s.val REJ_GATE_US) / 15 * ((k : Rat) + 1))
          if ok then s.bestSet rest ({ z with k := k } :: part) b else b) best
    s.bestSet rest part best

/-- The words of the foreign-train telemetry record (R317, R448). -/
def State.trainRecord (s : State) (event j : Nat) (t : Train) : List Word :=
  let now := s.fineNow
  let k := ((now - t.phi) / t.per).floor + 1
  let a := roundNear 0x0317 (t.phi + t.per * k)
  [pack [(s.addr, 3), (0, 5), (1, 8), (event, 2), (j, 5), (b2n t.coast, 1), (t.n, 7)],
   w32 (roundNear 0x1317 (t.per * 256)).toNat, pack [(8, 16), (min 65535 t.inten, 16)], recW3 s.kept.frame 0x69 0,
   w32 (a.toNat / 256), w32 (a.toNat / 256 / 2 ^ 32), pack [(a.toNat % 256, 8), (min 65535 (sqrtOpen 0x2317 (t.var * 256)), 16)],
   w32 (s.maskWord t)]

/-- The capacity record (R314, R317, R448). -/
def State.capacityRecord (s : State) : List Word :=
  [pack [(s.addr, 3), (0, 5), (1, 8), (3, 2)], 0, pack [(8, 16)], recW3 s.kept.frame 0x69 0, 0, 0, 0, 0]

/-- A telemetry record on every bound TELEMETRY queue (R422). -/
def State.telemetry (s : State) (r : List Word) : State := s.enqueueAll 9 (fun _ => true) (fun _ => r)

end Sys2Proof.Machine
end

