-- ==== Sys2Proof/Machine/Detection.lean ====
section
/-! DEFINITION. From detections to echoes: correlation, fine timing, coincidence, echo slots, merger and region FIFO, and
the 05xxh commands (chapter 05). -/
namespace Sys2Proof.Machine

/-! ### Timing tables (R643) -/

/-- Words of each timing table. -/
def tableLen (t : Nat) : Nat := [32, 32, 8, 8, 8, 8, 2, 1].getD t 0

/-- The built-in tables (R643). -/
def defaultTable (t : Nat) : List Word :=
  match t with
  | 4 => List.replicate 8 (pack [(1918, 16), (1918, 16)])
  | 5 => List.replicate 8 (pack [(30688, 16), (30688, 16)])
  | 7 => [pack [(256, 16), (3840, 16)]]
  | _ => List.replicate (tableLen t) 0

/-- The table as written last. -/
def State.tableW (s : State) (c t : Nat) : List Word := (tfind s.p.timing (c * 8 + t)).getD (defaultTable t)

/-- The table in effect (R200). -/
def State.table (s : State) (c t : Nat) : List Word := (tfind (s.cell c).tabs t).getD (s.tableW c t)

/-- Entry i of a table. -/
def entry (ws : List Word) (i : Nat) : Nat := if i % 2 = 0 then (wd ws (i / 2)).fld 15 0 else (wd ws (i / 2)).fld 31 16

/-- Converter offset and slope in use, in 1/16 code (R177). -/
def State.q0S (s : State) (c : Nat) : Nat × Nat :=
  (s.cell c).q0S.getD ((wd (s.table c 7) 0).fld 15 0, (wd (s.table c 7) 0).fld 31 16)

/-- A timing table written: it takes effect at the channel's next permitted instant (R200). -/
def State.writeTable (s : State) (c t : Nat) (ws : List Word) : State :=
  let old := s.table c t
  let s := s.setCell c (fun x => { x with tabs := tput x.tabs t old, q0S := if t = 7 then some (s.q0S c) else x.q0S })
  { s with p := { s.p with timing := tset (defaultTable t) s.p.timing (c * 8 + t) ws } }

/-! ### Temperature and stale calibration -/

/-- Temperature θ of block b in 1/16 °C (R180, R548). -/
def State.theta (s : State) (b : Nat) : Int := tget 0 s.therm.t (b / 4)

/-- θ_cal of channel c. -/
def State.thetaCal (s : State) (c : Nat) : Int := sgn 16 ((wd (s.tableW c 6) 1).fld 15 0)

/-- Ticks of one hour. -/
def hourTicks : Nat := 5760000000000

/-- Stale causes of channel c, bits 0 to 4 (R566). -/
def State.staleBits (s : State) (c : Nat) : Nat :=
  let st := tget 0 s.p.calSt c
  let age := s.wear.runTicks - tget 0 s.wear.calAt c
  b2n (s.unconverged c) + 2 * b2n (st == 0) + 4 * b2n (st == 3 || st == 4) +
    8 * b2n (s.val CAL_STALE_H ≠ 0 && (tfind s.wear.calAt c).isSome && decide (s.val CAL_STALE_H * hourTicks < age)) +
    16 * b2n (decide ((16 * s.val CAL_STALE_DT : Nat) < (s.theta (c / 16) - s.thetaCal c).natAbs))

/-! ### Thresholds -/

/-- The threshold floor of a gain range of channel c (R167). -/
def State.floorOf (s : State) (c : Nat) (low : Bool) : Nat :=
  s.cur (if low then DET_THR_FLOOR_LO else DET_THR_FLOOR_HI) c

/-- The tracker of the present gain range. -/
def Cell.trk (x : Cell) : Option Trk := if x.low then x.lo else x.hi

/-- The tracker of the present gain range, set. -/
def Cell.setTrk (x : Cell) (t : Trk) : Cell := if x.low then { x with lo := some t } else { x with hi := some t }

/-- v of R160, before the first used sample as R161 starts it. -/
def State.noiseV (s : State) (c : Nat) : Rat :=
  let f : Rat := s.floorOf c (s.cell c).low
  match (s.cell c).trk with
  | some t => t.v
  | none => f * f / 25

/-- The square of the threshold of R167 on channel c, in (1/4 LSB)². -/
def State.thrSq (s : State) (c : Nat) : Rat :=
  let f : Rat := s.floorOf c (s.cell c).low
  let k : Rat := s.cur DET_THR_K c
  max (f * f) (k * k * s.noiseV c / 256)

/-! ### Fine timing (R174 to R184) -/

/-- The fraction f of R178 in 1/16 fine-time unit of a code, and whether it lies at or above q0 + S (R177). -/
def fraction (q : Nat) (q0S : Nat × Nat) : Int × Bool :=
  let x : Int := 16 * q - q0S.1
  if x < 0 then (0, false)
  else if (q0S.2 : Int) ≤ x then (4095, true)
  else (min 4095 (roundNear 0x0178 ((x : Rat) * 4096 / (q0S.2 : Rat))), false)

/-- Crossing time in 1/16 fine-time unit by linear interpolation between the outputs y0 at tick n − 1 and y1 at tick n, of
a threshold whose square is given (R176). Where y was at the threshold before, the crossing is taken at the tick at which it
was; halves round up (DESIGN CHOICE, log 88). -/
def interpolated (n : Nat) (y0 y1 : Int) (tsq : Rat) : Int :=
  if y1 ≤ y0 then 4096 * n
  else
    let a : Rat := 4096 / (y1 - y0 : Int)
    4096 * ((n : Int) - 1) + max 0 (min 4096 (floorSqrtAdd (a * a * tsq) (1 / 2 - a * y0)))

/-- The walk correction in 1/16 fine-time unit (R179, R184): peak in 1/4 LSB, time over full scale m. -/
def State.walk (s : State) (c : Nat) (low : Bool) (peak : Rat) (m : Nat) : Int :=
  if m ≥ 1 then sgn 16 (entry (s.table c (if low then 3 else 2)) (min m 16 - 1))
  else
    let t := s.table c (if low then 1 else 0)
    let e (i : Nat) : Int := sgn 16 (entry t i)
    let x := peak / 64
    let i := x.floor.toNat
    if x < 0 then e 0
    else if 63 ≤ i then e 63
    else roundNear 0x0179 (e i + (e (i + 1) - e i : Int) * (x - i))

/-- The skew correction in 1/16 fine-time unit (R178, R180). -/
def State.skewOf (s : State) (c track : Nat) : Int :=
  let t := s.table c 6
  let cal := sgn 16 ((wd t 0).fld 15 0)
  let tc := sgn 16 ((wd t 0).fld 31 16)
  if track = 0 then cal
  else cal + roundNear 0x0180 (((tc * (s.theta (c / 16) - sgn 16 ((wd t 1).fld 15 0)) : Int) : Rat) / 256)

/-- Time y of a detection spends at or above half its peak, in 1/8 tk (chapter 05, Intensity, width and confidence); the
rounding is not stated (log 10). -/
def Det.width (d : Det) : Nat :=
  let h : Rat := (d.peak : Rat) / 2
  let y (i : Nat) : Rat := d.ys.getD i 0
  let p := d.peakAt - d.ysAt
  let up : Rat := match (List.range p).reverse.find? (fun i => decide (y i < h)) with
    | some i => i + (h - y i) / (y (i + 1) - y i)
    | none => 0
  let down : Rat := match (List.range (d.ys.length - p - 1)).find? (fun j => decide (y (p + 1 + j) < h)) with
    | some j => (p + j : Nat) + (y (p + j) - h) / (y (p + j) - y (p + 1 + j))
    | none => (d.ys.length - 1 : Nat)
  min 255 (roundOpen 0x0185 (8 * (down - up))).toNat

/-- Confidence of a peak over a noise v (R185); halves round up (DESIGN CHOICE, log 88). -/
def confidence (peak v : Rat) (m : Nat) : Nat :=
  if m ≥ 1 then 255 else if v ≤ 0 then 255 else min 255 (sqrtRound (16 * peak * peak / v))

/-- Intensity of a peak in 1/4 LSB (R184, R185); the rounding in low gain is not stated (log 10). -/
def State.intensity (s : State) (c : Nat) (low : Bool) (peak : Rat) (m : Nat) : Nat :=
  if m ≥ 1 then entry (s.table c (if low then 5 else 4)) (min m 16 - 1)
  else min 65535 (roundOpen 0x0186
    (if low then peak / 2 * (s.gainRatio c : Nat) / 256 else peak / 2)).toNat

/-- The stamp of a detection, if its confidence is high enough (R308). -/
def State.stampOf (s : State) (c : Nat) (d : Det) : State :=
  let conf := if d.interp || d.forced then min (confidence d.peak d.v d.full) (s.val DET_LOW_CONF - 1)
    else confidence d.peak d.v d.full
  if conf < s.val REJ_STAMP_MIN_CONF then s
  else s.pushStamp { t := d.cross - s.walk c d.low d.peak d.full - s.skewOf c (s.val DET_SKEW_TRACK), ch := c
                     inten := s.intensity c d.low d.peak d.full }

/-- The return that detections ds of channel c make for a shot, the first one giving its time (R171, R178, R185). -/
def State.mkRet (s : State) (c : Nat) (sh : Shot) (ds : List Det) (accum : Bool) : Ret :=
  let d := ds.headD default
  let peak : Rat := ((ds.map (·.peak)).foldl (· + ·) 0 : Int) / ((ds.length : Nat) : Rat)
  let lc := s.valFor sh DET_LOW_CONF 0
  let r16 : Int := d.cross - (4096 * sh.fire + 256 * sh.edge : Nat) - s.walk c d.low peak d.full -
    s.skewOf c (s.valFor sh DET_SKEW_TRACK 0) - (s.cur CAL_SYS_DELAY c : Nat)
  let capped : Bool := (!accum && ds.any (·.interp)) || ds.any (·.forced) || decide (r16 < 0)
  let conf := confidence peak d.v d.full
  { shot := sh.fire, idx := sh.idx, frame := sh.frame, ch := c, nd := d.nd
    fin := (ds.map (fun e => e.nd + e.span)).foldl max 0, uses := ds.map (·.nd)
    range := if r16 < 0 then 0 else min 4194303 (roundHalfUp ((r16 : Rat) / 16)).toNat
    inten := s.intensity c d.low peak d.full, width := d.width, conf := if capped then min conf (lc - 1) else conf
    sat := ds.any (·.sat), low := d.low, fault := sh.flag.getLsbD c, stale := s.staleBits c ≠ 0
    thr := decide (sh.s < 256), adj := ds.any (s.adjDet sh), accum := accum, born := s.tb.tick }

/-! ### Code correlation (R170 to R173, R225, R226) -/

/-- The detection that a candidate takes for offset tick x: the nearest free one within the tolerance, the earlier on a
tie. -/
def nearestDet (ds : List Det) (x tol : Nat) (used : List Nat) : Option Det :=
  let dist (d : Det) : Nat := (d.nd - x) + (x - d.nd)
  ds.foldl (fun b d =>
    if d.masked || tol < dist d || used.contains d.nd then b
    else match b with
      | none => some d
      | some e => if dist d < dist e then some d else b) none

/-- The candidate of a code that starts at detection d: all its sub-pulses, or none. -/
def chainFrom (ds : List Det) (d : Det) (offs : List Nat) (tol : Nat) (used : List Nat) : Option (List Det) :=
  offs.foldl (fun acc o => match acc with
    | none => none
    | some l => if o = 0 then some l else (nearestDet ds (d.nd + o) tol used).map (fun e => l ++ [e])) (some [d])

/-- The candidates of one shot over the detections of a cell, in ascending crossing tick; a detection is consumed once
(R172). -/
def shotCands (ds : List Det) (sh : Shot) (tol : Nat) : List (Nat × List Det) :=
  (ds.foldl (fun (a : List Nat × List (Nat × List Det)) d =>
    if d.masked || a.1.contains d.nd || d.nd < sh.fire || sh.winEnd ≤ d.nd then a
    else match chainFrom ds d sh.offs tol a.1 with
      | none => a
      | some l => (a.1 ++ l.map (·.nd), a.2 ++ [(sh.fire, l)])) ([], [])).2

/-- The shots whose codes are tested on channel c: those that listened there in an ordinary window. -/
def State.codedShots (s : State) (c : Nat) : List Shot := s.seq.shots.filter (fun x => x.listened c && !x.hist)

/-- All candidates of channel c. -/
def State.cands (s : State) (c : Nat) : List (Nat × List Det) :=
  (s.codedShots c).flatMap (fun sh => shotCands (s.cell c).dets sh (s.valFor sh DET_CODE_TOL_TK 0))

/-- Two candidates share a detection. -/
def shares (a b : List Det) : Bool := a.any (fun d => b.any (fun e => d.nd == e.nd))

/-- Every detection that could share in a candidate with one that crosses at nd is closed and known: twice the longest
span and tolerance, and the 64 tk of the longest detection, are past (R225; log 21). -/
def State.correlable (s : State) (c nd : Nat) : Bool :=
  let w := ((s.codedShots c).map (fun x => x.span + 3)).foldl max 0
  decide (nd + 2 * w + 66 ≤ s.tb.tick)

/-- The fate of the segment of a detection of channel c, in its cell or in its region's write queue and ring (R255). A freed segment
leaves these; in the cell it holds its buffer until it has drained. -/
def State.segFate (s : State) (c nd : Nat) (f : Seg → Seg) : State :=
  let g (x : Seg) : Seg := if x.ch == c && x.nd == some nd then f x else x
  let s := s.setCell c (fun x => { x with segs := x.segs.map g })
  s.setReg (c / 64) (fun r => { r with
    wq := (r.wq.map g).filter (fun x => x.fate ≠ 3), ring := (r.ring.map g).filter (fun x => x.fate ≠ 3) })

/-- The segment of a detection freed without trace (R255). -/
def State.freeSeg (s : State) (c nd : Nat) : State := s.segFate c nd (fun x => { x with fate := 3 })

/-- The oldest detection of channel c that is not correlated yet is correlated (R170, R172, R225, R226, R308). -/
def execCodeCorrelation (c : Fin 512) (s : State) : Out :=
  match (s.cell c).dets.find? (fun d => !d.done) with
  | none => .next s
  | some d =>
    if !s.correlable c d.nd then .next s else
    let mark (s : State) : State := s.setCell c (fun x => { x with
      dets := (x.dets.map (fun e => if e.nd == d.nd then { e with done := true } else e)).filter
        (fun e => !e.done || decide (s.tb.tick < e.nd + 2000)) })
    let inWindow := (s.codedShots c).any (fun x => x.fire ≤ d.nd && d.nd < x.winEnd)
    if d.masked then .next (let t := mark (s.freeSeg c d.nd); if inWindow then t.stampOf c d else t) else
    let cs := s.cands c
    let mine := cs.filter (fun x => (x.2.headD default).nd == d.nd)
    let amb (x : Nat × List Det) : Bool := cs.any (fun y => y.1 ≠ x.1 && shares x.2 y.2)
    let s := mark s
    if mine.isEmpty then
      let s := s.freeSeg c d.nd
      if cs.any (fun x => x.2.any (fun e => e.nd == d.nd)) || !inWindow then .next s
      else .next ((s.countB (c / 16) 0x03 0 (some (c % 16)) 1).stampOf c d)
    else
      match mine.find? (fun x => !amb x) with
      | some (fire, ds) =>
        match s.shot fire with
        | none => .next s
        | some sh =>
          let r := s.mkRet c sh ds false
          let s := s.setShot fire (fun x => { x with rets := x.rets ++ [(c.val, d.nd)] })
          let s := s.setBlk (c / 16) (fun b => { b with rets := b.rets ++ [r] })
          let s := s.countB (c / 16) 0x02 0 (some (c % 16)) 1
          .next (if r.sat then s.countB (c / 16) 0x08 0 (some (c % 16)) 1 else s)
      | none =>
        -- ambiguous: a set of detections is one candidate, counted in the frame of the earliest shot it is ambiguous with
        let s := s.freeSeg c d.nd
        let nds (l : List Det) : List Nat := l.map (·.nd)
        let sets := (mine.map (fun x => x.2)).foldl (fun (l : List (List Det)) x => if l.any (fun y => nds y == nds x) then l else l ++ [x]) []
        .next (sets.foldl (fun s x =>
          let fires := (cs.filter (fun y => shares x y.2)).map (·.1)
          let k := ((s.shot (fires.min?.getD 0)).map (·.frame)).getD s.kept.frame
          (s.countFrame k 15 1).countB (c / 16) 0x04 0 (some (c % 16)) 1) s)

/-! ### Coincidence and echo slots (R186 to R192) -/

/-- Whether a pattern applies to a return in cell c of its block and matches the present set (R186, R187). -/
def patternHit (p : List Word) (c : Nat) (present : Nat → Bool) : Bool :=
  let must := (wd p 1).fld 15 0
  let not_ := (wd p 1).fld 31 16
  let rel := (wd p 0).bit 17
  let cellAt (j : Nat) : Option Nat :=
    if !rel then some j else if c + j < 8 || 16 ≤ c + j - 8 then none else some (c + j - 8)
  let ok (j : Nat) : Bool := match cellAt j with
    | none => true
    | some k => (must >>> j % 2 == 0 || present k) && (not_ >>> j % 2 == 0 || !present k)
  (rel || must >>> c % 2 == 1) && (List.range 16).all ok

/-- The outcome of the coincidence test for a return: true when it is kept (R187). -/
def State.coincides (s : State) (sh : Shot) (r : Ret) : Bool :=
  let b := r.ch / 16
  let w := s.valFor sh DET_COINC_WINDOW_TK b
  let present (k : Nat) : Bool := k == r.ch % 16 ||
    sh.rets.any (fun e => e.1 == 16 * b + k && e.2 ≤ r.nd + w && r.nd ≤ e.2 + w)
  let ps := (List.range 16).map (s.coincFor sh b)
  let on (a : Bool) (p : List Word) : Bool := (wd p 0).bit 15 && (wd p 0).bit 16 == a
  if ps.any (fun p => on true p && patternHit p (r.ch % 16) present) then false
  else !ps.any (on false) || ps.any (fun p => on false p && patternHit p (r.ch % 16) present)

/-- A return removed from its block, with the segment it triggered (R255). -/
def State.dropRet (s : State) (r : Ret) : State :=
  (s.setBlk (r.ch / 16) (fun b => { b with rets := b.rets.filter (fun x => !(x.ch == r.ch && x.nd == r.nd && x.shot == r.shot)) })).freeSeg
    r.ch r.nd

/-- A return changed in its block. -/
def State.modRet (s : State) (r : Ret) (f : Ret → Ret) : State :=
  s.setBlk (r.ch / 16) (fun b => { b with
    rets := b.rets.map (fun x => if x.ch == r.ch && x.nd == r.nd && x.shot == r.shot then f x else x) })

/-- An overflow of channel c: q 0 echo, 1 cell (R189, R190, R192). -/
def State.overflow (s : State) (c q : Nat) : State :=
  (s.setCell c (fun x => { x with ovr := wrap 16 (x.ovr + 1) })).countB (c / 16) 0x06 q (some (c % 16)) 1

/-- An echo takes slot number e and is passed on, unless ladder step 1 drops it (R285) or eight echoes of its cell wait
(R192). Its segment is retained (R255). -/
def State.passOn (s : State) (sh : Shot) (r : Ret) (e : Nat) : State :=
  let s := s.setShot sh.fire (fun x => { x with slots := tmod 0 x.slots r.ch (· + 1) })
  let waiting := ((s.blk (r.ch / 16)).rets.filter (fun x => x.ch == r.ch && x.passed)).length
  if 1 ≤ sh.lad && 2 ≤ e && r.conf < s.valFor sh DET_LOW_CONF 0 then (s.dropRet r).countFrame sh.frame 17 1
  else if 8 ≤ waiting then ((s.dropRet r).overflow r.ch 1).countFrame sh.frame 16 1
  else
    let s := s.modRet r (fun x => { x with tested := true, passed := true, echo := e })
    let s := s.setShot sh.fire (fun x => { x with passed := x.passed ++ [(r.ch, r.nd)] })
    s.segFate r.ch r.nd (fun g =>
      if g.fate = 0 then { g with fate := 1, echo := e, shot := sh.fire, idx := sh.idx, frame := sh.frame } else g)

/-- Nothing of the channel-shot waits for correlation or for the coincidence test. -/
def State.slotsReady (s : State) (c : Nat) (sh : Shot) : Bool :=
  let x := s.cell c
  !(x.dets ++ x.det.toList).any (fun d => !d.done && !d.masked && sh.fire ≤ d.nd && d.nd < sh.winEnd) &&
    !(s.blk (c / 16)).rets.any (fun r => r.ch == c && r.shot == sh.fire && !r.tested)

/-- Under strongest four, once the search has ended, the four returns of greatest intensity are passed on, numbered in
order of crossing tick, and the rest are overflows (R190, R191). -/
def State.releaseStrongest (s : State) (c : Nat) (sh : Shot) : State :=
  if s.valFor sh DET_ECHO_POLICY c = 0 || s.tb.tick < sh.searchEnd || !s.slotsReady c sh then s else
  let rs := (s.blk (c / 16)).rets.filter (fun r => r.ch == c && r.shot == sh.fire && r.tested && !r.passed)
  let ahead (a b : Ret) : Bool := b.inten < a.inten || (a.inten == b.inten && a.nd < b.nd)
  let best := (rs.filter (fun r => decide ((rs.filter (fun o => ahead o r)).length < 4))).mergeSort (fun a b => a.nd ≤ b.nd)
  let rest := rs.filter (fun r => !best.any (fun o => o.nd == r.nd))
  let s := rest.foldl (fun s r => (s.dropRet r).overflow c 0) s
  (List.range best.length).foldl (fun s i => s.passOn sh (best.getD i default) i) s

/-- The first return of block b that is due for the coincidence test, in order of crossing tick, is tested; kept, it
takes an echo slot (R187 to R189) or is held for strongest four (R190). -/
def execCoincidenceTest (b : Fin 32) (s : State) : Out :=
  let isDue (r : Ret) : Bool := !r.tested && (match s.shot r.shot with
    | some sh => decide (r.born + s.valFor sh DET_COINC_WINDOW_TK b + 2 ≤ s.tb.tick)
    | none => true)
  match ((s.blk b).rets.filter isDue).mergeSort (fun a b => a.nd ≤ b.nd) with
  | [] => .next s
  | r :: _ =>
    match s.shot r.shot with
    | none => .next (s.dropRet r)
    | some sh =>
      if !s.coincides sh r then .next ((s.dropRet r).countB b 0x05 0 (some (r.ch % 16)) 1)
      else if s.valFor sh DET_ECHO_POLICY r.ch = 1 then
        let s := s.modRet r (fun x => { x with tested := true })
        .next (s.releaseStrongest r.ch sh)
      else
        let e := tget 0 sh.slots r.ch
        if 4 ≤ e then .next ((s.dropRet r).overflow r.ch 0) else .next (s.passOn sh r e)

/-- The sub-pulse search of a channel-shot ends: under strongest four the held returns are released (R173, R190). -/
def execSubPulseSearchEnd (c : Fin 512) (fire : Nat) (s : State) : Out :=
  match s.shot fire with
  | some sh => .next (if sh.took c then s.releaseStrongest c sh else s)
  | none => .next s

/-- The block merger grants the next cell in round robin that has a return waiting; the grant moves one return (R19). -/
def execBlockMergerGrant (b : Fin 32) (s : State) : Out :=
  let k := s.blk b
  let waits (i : Nat) : Bool := k.rets.any (fun r => r.passed && r.ch % 16 == i)
  match (List.range 16).find? (fun d => waits ((k.last + 1 + d) % 16)) with
  | none => .next s
  | some d =>
    let i := (k.last + 1 + d) % 16
    match k.rets.find? (fun r => r.passed && r.ch % 16 == i) with
    | none => .next s
    | some r => .next (s.setBlk b (fun k => { k with rets := k.rets.erase r, out := k.out ++ [r], last := i }))

/-- Weight of a block in its region's round robin (R26, R43): its cells that are not silenced; 1 where that is 0 and
returns still wait in its dual-clock queue. -/
def State.weight (s : State) (b : Nat) : Nat :=
  let w := if s.blockUp b then ((span (16 * b) 16).filter (fun c => !s.silent c)).length else 0
  if w = 0 && !(s.blk b).out.isEmpty then 1 else w

/-- The region grants one return into its point FIFO by weighted round robin (R26): a block is served up to its weight in
returns, then the next one that has a return waiting. -/
def execRegionFifoGrant (r : Fin 8) (s : State) : Out :=
  let g := s.reg r
  if !s.regionWorks r then .next s else
  let has (i : Nat) : Bool := !(s.blk (4 * r + i)).out.isEmpty && s.weight (4 * r + i) ≠ 0
  let pick : Option (Nat × Nat) :=
    if has g.rr && g.rrLeft ≠ 0 then some (g.rr, g.rrLeft)
    else ((List.range 4).map (fun d => (g.rr + 1 + d) % 4)).find? has |>.map (fun i => (i, s.weight (4 * r + i)))
  match pick with
  | none => .next s
  | some (i, n) =>
    match (s.blk (4 * r + i)).out with
    | [] => .next s
    | x :: rest =>
      let s := s.setBlk (4 * r + i) (fun b => { b with out := rest })
      .next (s.setReg r (fun g => { g with fifo := g.fifo ++ [x], rr := i, rrLeft := n - 1 }))

/-! ### Comparator, refinement, fades -/

/-- The timing filter of channel c rises through the comparator's level; the next tick edge stops the converter at code q
(R174, R175). Without a free capacitor there is no stamp. Whether the filter has fallen below half the level since the last
crossing, so that the comparator has re-armed, is analogue: a free value (log 5). -/
def execTimingComparatorCrossing (c : Fin 512) (q : BitVec 8) (s : State) : Out :=
  let n := s.tb.tick
  if !s.blockWorks (c / 16) || (s.cell c).changing then .next s
  else
    let (d, s) := if (s.cell c).cmpArmed then (0, s) else s.draw 2
    let stop := n + 1
    let x := { s.cell c with cmpArmed := false }
    let free : Nat := min x.capA x.capB
    if d ≠ 0 then .next s
    else if n < free then .next (s.setCell c (fun _ => x))
    else
      let x := if x.capA ≤ x.capB then { x with capA := stop + 3 } else { x with capB := stop + 3 }
      .next (s.setCell c (fun _ => { x with
        stamps := (x.stamps.filter (fun e => decide (n < e.1 + 70))) ++ [(stop, q.toNat)]
        stampN := x.stampN + 1, codes := tmod 0 x.codes q.toNat (· + 1) }))

/-- After 65,536 stamps q0 and S are refined from their code histogram (R177); how is not stated (log 5). -/
def execTacRefinement (c : Fin 512) (s : State) : Out :=
  let x := s.cell c
  if x.stampN < 65536 then .next s
  else .next (s.setCell c (fun x => { x with q0S := some (Config.refine x.codes), stampN := 0, codes := [] }))

/-- At the 64th counted shot the old coefficient bank of channel c is released (R165); the progress reads 0 from then on
(DESIGN CHOICE, log 88). -/
def execFadeComplete (c : Fin 512) (s : State) : Out :=
  .next (if (s.cell c).old.isSome && 64 ≤ (s.cell c).j then s.setCell c (fun x => { x with old := none, j := 0 }) else s)

/-! ### 05xxh commands -/

/-- Fade state of a cell (R165, R166). -/
def Cell.fade (x : Cell) : Nat := if x.old.isNone then 0 else if x.next.isSome then 2 else 1

/-- The three words of DET_STATUS_GET for channel c; the rounding of the noise is not stated (log 10). -/
def State.detWords (s : State) (c : Nat) : List Word :=
  let x := s.cell c
  let b : Nat := match x.trk with | some t => (roundNear 0x0501 t.b).toNat | none => 0
  [pack [(b, 16), (min 65535 (sqrtOpen 0x0502 (16 * s.noiseV c)), 16)],
   pack [(min 65535 (sqrtOpen 0x0503 (s.thrSq c)), 16), (x.fade, 2), (min 64 x.j, 7)], pack [(x.interp, 16), (x.ovr, 16)]]

/-- DET_STATUS_GET. -/
def execDetStatusGet (m : Fin 64) (s : State) : Out :=
  s.skeic 0x0501 m fun s =>
    let first := (s.pw m 0).fld 8 0
    let n := (s.pw m 0).fld 15 9
    need ((s.pw m 0).fld 31 16 = 0 && n ≤ 64 && first + n ≤ 512) "channel range" <|
    .done s ((span first n).flatMap s.detWords)

/-- DET_PARAM_WRITE (R197, R198). -/
def execDetParamWrite (m : Fin 64) (s : State) : Out := s.skeic 0x0502 m fun s => s.parWriteRange 5 m (fun t _ => t)

/-- DET_PARAM_READ. -/
def execDetParamRead (m : Fin 64) (s : State) : Out := s.skeic 0x0503 m fun s => s.parReadRange 5 m

/-- A set of n coefficients from six words. -/
def coefOf (n : Nat) (ws : List Word) : Coef := (List.range n).map (fun i => sgn 16 (entry ws i))

/-- DET_COEF_LOAD: the set is held in the journal at once and applied from a frame boundary on (R165, R166). -/
def execDetCoefLoad (m : Fin 64) (s : State) : Out :=
  s.skeic 0x0504 m fun s =>
    let first := (s.pw m 0).fld 8 0
    let n := (s.pw m 0).fld 18 9
    let taps := (s.pw m 0).fld 22 19
    let ws := (span 1 6).map (s.pw m)
    let h := coefOf taps ws
    need ((s.pw m 0).fld 31 24 = 0 && 1 ≤ taps && taps ≤ 12) "tap count" <|
    need (decide (first + n ≤ 512)) "channel range" <|
    need ((List.range 12).all (fun i => decide (i < taps) || entry ws i == 0)) "taps beyond N" <|
    let s := { s with p := { s.p with coef := (span first n).foldl (fun t c => tset Coef.builtIn t c h) s.p.coef } }
    .commit ((span first n).foldl (fun t c => t.setCell c (fun x => { x with next := some (h, (s.pw m 0).bit 23) })) s)
      (recordBytes 7) []

/-- DET_COEF_GET. -/
def execDetCoefGet (m : Fin 64) (s : State) : Out :=
  s.skeic 0x0505 m fun s =>
    need ((s.pw m 0).fld 31 9 = 0) "reserved bits" <|
    let x := s.cell ((s.pw m 0).fld 8 0)
    .done s (pack [(x.coef.length, 4), (x.fade, 2), (min 64 x.j, 7)] :: coefWords x.coef ++
      coefWords (x.old.getD []))

/-- DET_COINC_SET: a pattern for the shots of the next frame (R199). -/
def execDetCoincSet (m : Fin 64) (s : State) : Out :=
  s.skeic 0x0506 m fun s =>
    let first := (s.pw m 0).fld 4 0
    let n := (s.pw m 0).fld 10 5
    let p := (s.pw m 0).fld 14 11
    let w := [pack [(0, 5), (1, 6), (p, 4), ((s.pw m 0).fld 17 15, 3)], s.pw m 1]
    need ((s.pw m 0).fld 31 18 = 0 && first + n ≤ 32) "block range" <|
    need (((s.pw m 1).fld 15 0 &&& (s.pw m 1).fld 31 16) = 0) "position in must and must-not" <|
    .commit ((span first n).foldl (fun t b =>
      let k := b * 16 + p
      let old := tget [0, 0] t.p.coinc k
      let now := if (tfind t.coincNow k).isSome then t.coincNow else tput t.coincNow k old
      { t with coincNow := now, p := { t.p with coinc := tset [0, 0] t.p.coinc k w } }) s) (recordBytes 2) []

/-- DET_COINC_GET: the pattern in the layout of DET_COINC_SET, with a block count of 1 (R199). -/
def execDetCoincGet (m : Fin 64) (s : State) : Out :=
  s.skeic 0x0507 m fun s =>
    need ((s.pw m 0).fld 31 9 = 0) "reserved bits" <|
    let b := (s.pw m 0).fld 4 0
    let p := (s.pw m 0).fld 8 5
    let w := tget [0, 0] s.p.coinc (b * 16 + p)
    .done s [pack [(b, 5), (1, 6), (p, 4), ((wd w 0).fld 17 15, 3)], wd w 1]

/-- DET_TIMING_TABLE_LOAD (R200, R643). A load of the skew table makes the calibration status Loaded (R567). -/
def execDetTimingTableLoad (m : Fin 64) (s : State) : Out :=
  s.skeic 0x0508 m fun s =>
    let c := (s.pw m 0).fld 8 0
    let t := (s.pw m 0).fld 11 9
    let ws := (span 1 (tableLen t)).map (s.pw m)
    need ((s.pw m 0).fld 31 12 = 0 && (t ≠ 6 || (wd ws 1).fld 31 16 = 0)) "reserved bits" <|
    need (t ≠ 7 || (wd ws 0).fld 31 16 ≠ 0) "S of 0" <|
    let s := s.writeTable c t ws
    let s := if t = 6 then { s with p := { s.p with calSt := tset 0 s.p.calSt c 2 },
                                    wear := { s.wear with calAt := tput s.wear.calAt c s.wear.runTicks } } else s
    .commit s (recordBytes (tableLen t)) []

/-- DET_TIMING_TABLE_GET; table 7 gives the values in use after refinement (R201). -/
def execDetTimingTableGet (m : Fin 64) (s : State) : Out :=
  s.skeic 0x0509 m fun s =>
    let c := (s.pw m 0).fld 8 0
    let t := (s.pw m 0).fld 11 9
    need ((s.pw m 0).fld 31 12 = 0) "reserved bits" <|
    .done s (s.pw m 0 :: (if t = 7 then [pack [((s.q0S c).1, 16), ((s.q0S c).2, 16)]] else s.tableW c t))

end Sys2Proof.Machine
end

