-- ==== Sys2Proof/Machine/SampleTick.lean ====
section
/-! DEFINITION. What every cell does at a tick: correction, saturation, tracking, matched filter, detection, stamp claim,
segments, accumulation and the converter queue; and the counts of the tick itself (chapters 03, 04, 05, 07). -/
namespace Sys2Proof.Machine

/-! ### The corrected sample (R124, R125, R129, R134, R142) -/

/-- The code after interleave correction of the converter that gave it: A on even ticks, B on odd ones (R128, R129). -/
def Cell.corrected (x : Cell) (n raw : Nat) : Nat :=
  let off : Rat := (if n % 2 = 0 then x.offA else x.offB : Int)
  let gain : Rat := (if n % 2 = 0 then x.gainA else x.gainB : Int)
  (max 0 (min 1023 (roundNear 0x0129 (((raw : Nat) - off / 16) * (1 + gain / 16384))))).toNat

/-- A code of tick n put first in a list of distinct codes, of which the four newest are enough (R134). -/
def addSeen (l : List (Nat × Nat)) (v n : Nat) : List (Nat × Nat) := ((v, n) :: l.filter (fun e => e.1 ≠ v)).take 4

/-- The run of identical codes of the converter that gave this sample, and its newest distinct codes (R134). -/
def Cell.runs (x : Cell) (n raw : Nat) : Cell :=
  if n % 2 = 0 then
    let same := x.runA ≠ 0 && x.codeA == raw
    { x with runA := if same then min 4096 (x.runA + 1) else 1, codeA := raw, seenA := addSeen x.seenA raw n }
  else
    let same := x.runB ≠ 0 && x.codeB == raw
    { x with runB := if same then min 4096 (x.runB + 1) else 1, codeB := raw, seenB := addSeen x.seenB raw n }

/-- The recovery interval that starts when an overload of a peak in nA has ended at tick n (R125, R646). -/
def Cell.overload (x : Cell) (n : Nat) (clamp : Option Nat) : Cell :=
  match clamp with
  | some peak => { x with recover := max x.recover (n + recoveryTicks x.low peak) }
  | none => x

/-- The signed value of a code in 1/4 LSB (R142). Before a range has a baseline its value is open (log 10). -/
def Cell.signed (x : Cell) (code : Nat) : Int :=
  max (-4092) (min 4092 (match x.trk with
    | some t => roundNear 0x0142 ((4 * code : Nat) - t.b)
    | none => Config.openInt 0x0142 (4 * code : Nat)))

/-- The baseline in 1/4 LSB as a segment header or a histogram record states it (R261, R266). -/
def Cell.baseOf (x : Cell) : Nat :=
  match x.trk with
  | some t => (roundNear 0x0261 t.b).toNat
  | none => (Config.openInt 0x0261 0).toNat

/-! ### Tracking (R159 to R162) -/

/-- What the tracker of a channel uses at a tick: floor of the range, shifts of baseline and noise, clip limit. -/
structure TrkSet where
  floor : Nat
  bl : Nat
  clip : Nat
  noise : Nat
  deriving DecidableEq, Repr, Inhabited

/-- The mean square with which σ_raw starts: 1.6 LSB in high gain, 0.8 LSB in low gain, in (1/4 LSB)² (R161). -/
def startMs (low : Bool) : Rat := if low then 1024 / 100 else 4096 / 100

/-- Tick n lies within the 2,048 ticks that follow a first used sample (R161). -/
def within2048 (first : Option Nat) (n : Nat) : Bool := match first with
  | some a => n ≤ a + 2048
  | none => false

/-- The shifts of R161 are in force at tick n. -/
def Trk.held (t : Trk) (n : Nat) : Bool := within2048 t.hold n

/-- Outputs y, newest first, with one more: those of the last 13 ticks are kept, and those back to the last one that is not
positive, which is as far as the width of a detection reaches (R185). -/
def keepOut (y : Int) (ys : List Int) : List Int :=
  (y :: ys).take (max 13 (((y :: ys).takeWhile (fun v => decide (0 < v))).length + 1))

/-- The shifts in use for channel c: sunlit ones while the tracker takes them (R198, R303). -/
def State.trkSet (s : State) (c : Nat) : TrkSet :=
  let x := s.cell c
  { floor := s.floorOf c x.low, clip := s.val DET_BL_CLIP
    bl := s.val (if x.sunIn then REJ_SUN_BL_SHIFT else DET_BL_SHIFT)
    noise := s.val (if x.sunIn then REJ_SUN_NOISE_SHIFT else DET_NOISE_SHIFT) }

/-- Tick n lies inside an open detection or the 16 tk after the last close. The sample of a crossing tick itself is used:
it is tracked before the detection opens (DESIGN CHOICE, log 50). -/
def Cell.inDet (x : Cell) (n : Nat) : Bool := x.det.isSome || n < x.after

/-- The baseline moved toward a sample q in 1/4 LSB (R159). -/
def Trk.follow (t : Trk) (q : Rat) (shift : Nat) : Trk := { t with b := t.b + (q - t.b) / (2 ^ shift : Nat) }

/-- The override of R159: the excluded sample that waits is followed. -/
def Cell.applyOverride (x : Cell) (k : TrkSet) (n : Nat) : Cell :=
  match x.override, x.trk with
  | some q, some t => { x.setTrk (t.follow q (if t.held n then 6 else k.bl)) with override := none }
  | _, _ => { x with override := none }

/-- The baseline tracker's step on a sample, and whether the sample was used (R159, R161, R162). -/
def Cell.track (x : Cell) (k : TrkSet) (n code : Nat) (sat : Bool) : Cell × Bool :=
  let q : Rat := (4 * code : Nat)
  match x.trk with
  | none =>
    if sat || x.inDet n then ({ x with excluded := x.excluded + 1 }, false)
    else
      let f : Rat := (k.floor : Nat)
      ({ x.setTrk { b := q, ms := startMs x.low, v := f * f / 25, hold := some n } with
          excluded := 0, firstUsed := some (x.firstUsed.getD n) }, true)
  | some t =>
    let d := q - t.b
    let sh := if t.held n then 6 else k.bl
    if !sat && !x.inDet n && d * d ≤ (k.clip * k.clip : Nat) * t.ms then
      ({ x.setTrk { t.follow q sh with ms := t.ms + (d * d - t.ms) / (2 ^ sh : Nat) } with excluded := 0 }, true)
    else
      ({ x with override := if 1024 ≤ x.excluded then some (4 * code : Nat) else none, excluded := x.excluded + 1 }, false)

/-- The noise tracker's step on an output y (R160): only when no sample of the span of taps samples was excluded. -/
def Cell.trackNoise (x : Cell) (k : TrkSet) (n taps : Nat) (y : Int) : Cell :=
  let sp := x.hist.take taps
  match x.trk with
  | some t =>
    if sp.length = taps && !sp.any (·.ex) then
      x.setTrk { t with v := t.v + ((y * y : Int) - t.v) / (2 ^ (if t.held n then 8 else k.noise) : Nat) }
    else x
  | none => x

/-! ### Matched filter (R163 to R166) -/

/-- Rounded to the nearest 1/4 LSB and saturated at ±32,767. -/
def filterOut (v : Rat) : Int := max (-32767) (min 32767 (roundNear 0x0163 v))

/-- The filter of one coefficient set over the samples, newest first. -/
def Coef.out (h : Coef) (sv : List Int) : Int :=
  filterOut (((List.zipWith (· * ·) h sv).foldl (· + ·) 0 : Int) / 16384)

/-- The filter's output, with the cross-fade where one runs (R165). -/
def Cell.filter (x : Cell) : Int :=
  let sv := (x.hist.take 12).map (·.sv)
  let new := x.coef.out sv
  match x.old with
  | some h => let j : Rat := (min 64 x.j : Nat) / 64; filterOut ((1 - j) * h.out sv + j * new)
  | none => new

/-- The tap count in force, that of the longer set during a fade (R166). -/
def Cell.taps (x : Cell) : Nat := max x.coef.length ((x.old.map (·.length)).getD 0)

/-! ### Detection (R168, R169, R176, R182) -/

/-- The detection of a cell closes at tick n, and the detector re-arms. -/
def Cell.closeDet (x : Cell) (n : Nat) (forced : Bool) : Cell :=
  match x.det with
  | some d => { x with det := none, armed := true, after := n + 17
                       dets := x.dets ++ [{ d with closed := true, forced := forced }] }
  | none => x

/-- An open detection takes the output of tick n, and closes where it is below half the opening threshold or 64 tk have
passed (R168, R169). -/
def Cell.stepDet (x : Cell) (n : Nat) (y : Int) : Cell :=
  match x.det with
  | none => x
  | some d =>
    let d := { d with ys := d.ys ++ [y] }
    let below : Bool := y < 0 || decide (((4 * y * y : Int) : Rat) < d.tsq)
    if below then { x with det := some d }.closeDet n false
    else if d.nd + 64 ≤ n then { x with det := some d }.closeDet n true
    else { x with det := some (if d.peak < y then { d with peak := y, peakAt := n } else d) }

/-- A sample of tick n counted in the span of a detection (R126, R182, R641). -/
def Det.sample (d : Det) (n : Nat) (sat full : Bool) : Det :=
  if d.nd ≤ n && n < d.nd + d.span then { d with sat := d.sat || sat, full := d.full + b2n full } else d

/-- The detection that opens on channel c at tick n with output y over a threshold whose square is given (R168, R176,
R315, R316). -/
def State.openDet (s : State) (c n : Nat) (y : Int) (tsq : Rat) : State :=
  let x := s.cell c
  let claim := x.stamps.find? (fun e => decide (n ≤ e.1 + 5) && decide (e.1 ≤ n))
  let y0 := x.ys.getD 1 0
  let (cross, interp, out) : Int × Bool × Bool := match claim with
    | some (stop, q) => let f := fraction q (s.q0S c); (4096 * stop - f.1, false, f.2)
    | none => (interpolated n y0 y tsq, true, false)
  let masked := s.masked (c / 16) n
  let d : Det := { nd := n, tsq := tsq, v := s.noiseV c, low := x.low, peak := y, peakAt := n, ys := x.ys.reverse
                   ysAt := n + 1 - x.ys.length, span := x.taps, masked := masked, near := s.trainDist (c / 16) n, cross := cross
                   interp := interp }
  let x := { x with det := some d, armed := false, stamps := match claim with | some e => x.stamps.erase e | none => x.stamps
                    interp := if interp then wrap 16 (x.interp + 1) else x.interp
                    outside := if out then wrap 32 (x.outside + 1) else x.outside }
  let s := (s.setCell c (fun _ => x)).countB (c / 16) 0x01 (b2n x.low) (some (c % 16)) 1
  let s := if interp then s.countB (c / 16) 0x07 0 (some (c % 16)) 1 else s
  if masked then
    (({ s with rej := { s.rej with n := tmod 0 s.rej.n 25 (fun v => wrap 32 (v + 1)) } }).countNow 37 1).countB
      (c / 16) 0x09 0 (some (c % 16)) 1
  else s

/-! ### Segments (R254 to R258) -/

/-- A segment of channel c that is not captured (R256, R257). -/
def State.missSeg (s : State) (c k : Nat) : State :=
  (({ s with look := { s.look with missed := wrap 32 (s.look.missed + 1) } }).countFrame k 19 1).countB (c / 16) 0x0B 0
    (some (c % 16)) 1

/-- The segment length and pre-trigger that a shot's profile gives, halved from ladder step 2 on (R253, R285). -/
def Shot.segSet (x : Shot) : Nat × Nat :=
  let l := (wd x.cap 0).fld 8 0
  let p := (wd x.cap 0).fld 16 9
  if 2 ≤ x.lad && l ≠ 0 then (max 16 (l / 2), p / 2) else (l, p)

/-- Trigger code of a shot's profile. -/
def Shot.trigger (x : Shot) : Nat := (wd x.cap 0).fld 18 17

/-- The shot's segment is shorter than its profile says (R285). -/
def Shot.shortened (x : Shot) : Bool := decide (x.segSet.1 < (wd x.cap 0).fld 8 0)

/-- Samples, oldest first, as far as they are of one range and no change comes between (R258). -/
def oneRange : List Smp → List Smp
  | [] => []
  | m :: r => if m.chg then [] else m :: r.takeWhile (fun e => !e.chg && e.low == m.low)

/-- A new segment of shot sh on channel c. Where a range change lies in what it has taken already, it ends before that
(R258). -/
def newSeg (s : State) (c : Nat) (sh : Shot) (nd : Option Nat) (first : Nat) : Seg :=
  let x := s.cell c
  let past := ((x.hist.filter (fun e => decide (first ≤ e.n))).reverse).take sh.segSet.1
  let smp := oneRange past
  let cut : Bool := decide (smp.length < past.length)
  { ch := c, shot := sh.fire, idx := sh.idx, frame := sh.frame, nd := nd, first := first
    len := if cut then smp.length else sh.segSet.1, trunc := cut
    before := x.rearm, pre := if nd.isSome then sh.segSet.2 else 0, low := (smp.head?.map (·.low)).getD x.low
    short := sh.shortened, fault := sh.flag.getLsbD c, packing := (wd sh.cap 0).bit 19, send := (wd sh.cap 0).bit 20
    fmt := s.val FE_CODE_FORMAT, smp := smp }

/-- A segment is captured, or missed (R256); one whose first sample falls into a range change has no sample to end with and
is missed (R258; DESIGN CHOICE, log 57). -/
def State.startSeg (s : State) (c : Nat) (sh : Shot) (nd : Option Nat) (first : Nat) : State :=
  let x := s.cell c
  let g := newSeg s c sh nd first
  if sh.segSet.1 = 0 || (s.reg (c / 64)).noSeg then s
  else if first < x.rearm || 2 ≤ x.segs.length || g.len = 0 then s.missSeg c sh.frame
  else
    let s := s.setCell c (fun x => { x with segs := x.segs ++ [g], rearm := first + g.len - 1 + 64 })
    if g.short then s.countFrame sh.frame 18 1 else s

/-- A scheduled segment with this first sample, wherever it is: in its cell, in the write queue or in the ring. -/
def State.scheduledAt (s : State) (c first : Nat) : Option Seg :=
  let r := s.reg (c / 64)
  ((s.cell c).segs ++ r.wq ++ r.ring).find? (fun g => g.ch == c && g.nd.isNone && g.first == first)

/-- A scheduled segment gives way to an echo segment and counts as missed: it is taken back, with its place among the shortened
ones and, where no later segment has followed it, its re-arm tick (R257). -/
def State.giveWay (s : State) (c : Nat) (g : Seg) : State :=
  let s := s.setCell c (fun x => { x with
    segs := x.segs.erase g, rearm := if x.rearm = g.first + g.len - 1 + 64 then g.before else x.rearm })
  let s := s.setReg (c / 64) (fun r => { r with wq := r.wq.erase g, ring := r.ring.erase g })
  let s := if g.short then s.setFrame g.frame (fun f => { f with n := tmod 0 f.n 18 (· - 1) }) else s
  s.missSeg c g.frame

/-- An echo trigger on channel c at tick n: the segment of the first open ordinary shot whose profile takes echo triggers
(R254). A scheduled segment with the same first sample gives way to it (R257). -/
def State.echoSeg (s : State) (c n : Nat) : State :=
  match s.seq.shots.find? (fun x => x.openAt c n && !x.hist && x.trigger % 2 == 0 && x.segSet.1 ≠ 0) with
  | none => s
  | some sh =>
    let first := n - sh.segSet.2
    match s.scheduledAt c first with
    | some g => (s.giveWay c g).startSeg c sh (some n) first
    | none => s.startSeg c sh (some n) first

/-- Scheduled triggers of channel c at tick n, in the shots that it listens in (R23, R25, R254). -/
def State.scheduledSegs (s : State) (c n : Nat) : State :=
  s.seq.shots.foldl (fun s x =>
    if x.listened c && !(s.blk (c / 16)).held && !x.hist && (x.trigger == 1 || x.trigger == 2) && n == x.fire + (wd x.cap 1).fld 12 0 then
      s.startSeg c x none n else s) s

/-- The sample added to the segments of a cell that are being captured. -/
def Cell.fillSegs (x : Cell) (m : Smp) : Cell :=
  { x with segs := x.segs.map (fun g =>
      if !g.ended && g.smp.length < g.len && g.first + g.smp.length == m.n then { g with smp := g.smp ++ [m] } else g) }

/-! ### Windows, accumulation, converter queue -/

/-- The sample in the open windows of channel c: peak and saturation for the gain decision, threshold at the last tick
(R121, R194). -/
def State.windowSample (s : State) (c : Nat) (m : Smp) (tsq : Rat) : State :=
  let low := (s.cell c).low
  { s with seq := { s.seq with shots := s.seq.shots.map (fun x =>
      if !(x.runsAt c m.n && m.n < x.winEnd) then x else
      { x with peaks := tput x.peaks c (match tfind x.peaks c with | some p => max p m.sv | none => m.sv)
               sats := if m.sat then x.sats ||| BitVec.ofNat 512 (2 ^ c) else x.sats
               ends := if m.n + 1 = x.winEnd then tput x.ends c (tsq, low) else x.ends }) } }

/-- One window of a group takes a sample: part sum, and the bin where it is complete (R264). -/
def Grp.take1 (g : Grp) (m : Smp) (f part : Nat) : List Nat × Option (Nat × Nat) :=
  let i := m.n - f
  if g.nb * g.w ≤ i then (g.bins, none)
  else if i % g.w = g.w - 1 then
    (g.bins.modify (i / g.w) (· + (part + m.code) / g.w), if i + 1 < g.nb * g.w then some (f, 0) else none)
  else (g.bins, some (f, part + m.code))

/-- A group takes a sample into every window that it accumulates (R264, R266). -/
def Grp.take (g : Grp) (m : Smp) : Grp :=
  if g.opens.isEmpty then g else
  let r := g.opens.foldl (fun (a : Grp × List (Nat × Nat)) e =>
    let t := a.1.take1 m e.1 e.2
    ({ a.1 with bins := t.1 }, a.2 ++ t.2.toList)) (g, [])
  { r.1 with opens := r.2, sats := g.sats + b2n m.sat }

/-- The groups of channel c take a sample. -/
def State.accumulate (s : State) (c : Nat) (m : Smp) : State :=
  if (s.blk (c / 16)).acc.any (fun g => g.ch == c && !g.opens.isEmpty) then
    s.setBlk (c / 16) (fun b => { b with acc := b.acc.map (fun g => if g.ch = c then g.take m else g) })
  else s

/-- A sample may follow those of an entry: the next tick, the same gain range (R145). -/
def CqEntry.follows (e : CqEntry) (low : Bool) (m : Smp) : Bool := e.low == low && m.n == e.first + e.smp.length

/-- The entries of a stopped capture take a sample of channel c, up to their boundary (R146, R157). -/
def Cq.takeClosing (q : Cq) (c : Nat) (low : Bool) (m : Smp) : Cq :=
  q.closing.foldl (fun (a : Cq) h =>
    if h.e.ch ≠ c then { a with closing := a.closing ++ [h] }
    else if !h.e.follows low m then a.closed h
    else
      let h := { h with e := { h.e with smp := h.e.smp ++ [m] }, left := h.left - 1 }
      if 32 ≤ h.e.smp.length || h.left = 0 then a.closed h else { a with closing := a.closing ++ [h] }) { q with closing := [] }

/-- A channel of a capture takes a sample: entries of 32 consecutive samples, one gain range each (R145, R146, R150). -/
def Cq.take (q : Cq) (c frame : Nat) (low fault : Bool) (m : Smp) : Cq :=
  match q.chs.find? (fun x => x.ch == c && x.left ≠ 0) with
  | none => q
  | some x =>
    let put (q : Cq) (e : CqEntry) : Cq := q.closed { e := e, num := q.num, dest := q.dest }
    let new : CqEntry := { ch := c, low := low, fault := fault, first := m.n, frame := frame, fmt := q.fmt, smp := [m] }
    let (q, e) := match x.cur with
      | some e => if e.follows low m then (q, { e with smp := e.smp ++ [m] }) else (put q e, new)
      | none => (q, new)
    let full : Bool := 32 ≤ e.smp.length
    let x' := { x with left := x.left - 1, cur := if full then none else some e }
    let q := { q with chs := q.chs.map (fun y => if y.ch == c then x' else y) }
    if full then put q e else q

/-- The converter queue takes a sample of channel c: first the entry of a stopped capture, whose boundary ends that capture
on the channel, else the capture in progress (R145, R151, R157). -/
def Cq.sample (q : Cq) (c frame : Nat) (low fault : Bool) (m : Smp) : Cq :=
  if q.closing.any (fun h => h.e.ch == c) then q.takeClosing c low m
  else if q.st = 2 then q.take c frame low fault m
  else q

/-! ### One cell, one tick -/

/-- Detections are made on channel c at tick n: inside its listen windows and the sub-pulse searches that follow them; a
histogram entry makes none (R117, R173, R310). -/
def State.detects (s : State) (c n : Nat) : Bool :=
  s.seq.shots.any (fun x => x.listened c && !x.hist && x.fire ≤ n && n < x.searchEnd)

/-- Tracking, filtering and detection on a sample that has been corrected; a cell whose range is changing makes no
detection (R119), but its samples count in the spans of those made before (R641). -/
def State.detect (s : State) (c n code : Nat) (sat full : Bool) : State :=
  let k := s.trkSet c
  let x := (s.cell c).applyOverride k n
  if x.changing then
    let m : Smp := { n := n, code := code, sat := sat, sv := x.signed code, ex := true, b := x.baseOf, low := x.low, chg := true }
    let x := { x with hist := (m :: x.hist).take 140 }
    s.setCell c (fun _ => { x with ys := keepOut x.filter x.ys, dets := x.dets.map (fun d => d.sample n sat full) })
  else
    let (x, used) := x.track k n code sat
    let m : Smp := { n := n, code := code, sat := sat, sv := x.signed code, ex := !used, b := x.baseOf, low := x.low }
    let x := { x with hist := (m :: x.hist).take 140 }
    let y := x.filter
    let x := x.trackNoise k n x.taps y
    let x := { x with ys := keepOut y x.ys }
    let x := x.stepDet n y
    let s := s.setCell c (fun _ => x)
    let tsq := s.thrSq c
    let s := if x.armed && s.detects c n && 0 < y && decide (tsq ≤ ((y * y : Int) : Rat)) then (s.openDet c n y tsq).echoSeg c n else s
    s.setCell c (fun x => { x with
      det := x.det.map (fun d => d.sample n sat full), dets := x.dets.map (fun d => d.sample n sat full) })

/-- What a cell does with the sample of a converter at the present tick. While the range changes, samples are tagged with the
range left (DESIGN CHOICE, log 57). -/
def State.cellTick (s : State) (z : SampleIn) : State :=
  let c := z.ch.val
  let n := s.tb.tick
  if !s.blockWorks (c / 16) then s else
  let x := ((s.cell c).runs n z.code).overload n z.clamp
  let full : Bool := z.code == 0 || z.code == 1023
  let sat : Bool := full || n < x.recover
  let s := s.setCell c (fun _ => x)
  let s := s.detect c n (x.corrected n z.code) sat full
  match (s.cell c).hist.head? with
  | none => s
  | some m =>
    let s := s.windowSample c m (s.thrSq c)
    let s := s.scheduledSegs c n
    let s := s.setCell c (fun x => x.fillSegs m)
    let s := s.accumulate c m
    if s.muted c || !s.blockUp (c / 16) then s else
    { s with cq := s.cq.sample c s.kept.frame (s.cell c).low (s.cell c).tag m }

/-- The events that count fabric cycles, for the cycles in the tick after this one (R596; log 78). -/
def State.countFabric (s : State) : State :=
  let k := fabricCycles s.tb.tick
  let one (s : State) (r : Nat) : State :=
    let g := s.reg r
    let s := s.countR r 0x16 0 none k
    let s := s.countR r 0x12 0 none (if Config.fifoDepth ≤ g.fifo.length then k else 0)
    s.countR r 0x13 0 none (if Config.portStalls g.wq.length s.tb.tick then k else 0)
  ((List.range 8).foldl one (s.countC 0x2B 0 k)).countC 0x25 0 (if 8192 ≤ s.collected then k else 0)

/-- The time base at the next tick: the counter advances, changes of the mapper that wait for this tick take effect, and a
slew that is done ends (R85, R89, R97, R500). -/
def TimeBase.next (b : TimeBase) : TimeBase :=
  let n := b.tick + 1
  let due := b.copies.filter (fun c => decide (c.1 ≤ n))
  let m := (due.getLast?.map (·.2)).getD b.map
  { b with tick := n, map := m.slewEdge (256 * n : Nat), copies := b.copies.filter (fun c => decide (n < c.1)) }

/-- The tick counter advances; the received mapper takes effect at its tick; the operating times count (R85, R500,
R591). -/
def State.endTick (s : State) : State :=
  let s := ((List.range 32).foldl (fun s b => s.countB b 0x0E 0 none 1) s).countFabric
  let on := s.pwr.dev == .run || s.pwr.dev == .quiet
  { s with tb := s.tb.next
           wear := { s.wear with runTicks := s.wear.runTicks + b2n on
                                 parkTicks := s.wear.parkTicks + b2n (s.pwr.dev == .park) } }

/-- A tick of the sample clock: each converter listed gives its sample, and the tick counter advances (R85, R128). -/
def execSampleTick (xs : List SampleIn) (s : State) : Out :=
  if !s.tb.locked then .next s else .next (xs.foldl (fun s z => s.cellTick z) s).endTick

/-- An open detection of channel c closes 64 tk after its crossing (R168). -/
def execDetectionForcedClose (c : Fin 512) (s : State) : Out :=
  .next (match (s.cell c).det with
    | some d => if d.nd + 64 ≤ s.tb.tick then s.setCell c (fun x => x.closeDet s.tb.tick true) else s
    | none => s)

/-- The excluded sample at or after 1,024 excluded ones moves the baseline of channel c (R159). -/
def execBaselineOverride (c : Fin 512) (s : State) : Out :=
  .next (s.setCell c (fun x => x.applyOverride (s.trkSet c) (s.tb.tick - 1)))

/-- The hold of 2,048 ticks of channel c ends: the configured shifts apply in the present gain range; and once those since the
first used sample after a restart are over, in whichever range, windows may open (R161, R162). -/
def execTrackerHoldEnd (c : Fin 512) (s : State) : Out :=
  let n := s.tb.tick
  let shifts (x : Cell) : Cell := match x.trk with
    | some t => if t.hold.isSome && !t.held n then x.setTrk { t with hold := none } else x
    | none => x
  .next (s.setCell c (fun x => { shifts x with blind := x.blind && (x.firstUsed.isNone || within2048 x.firstUsed n) }))

end Sys2Proof.Machine
end

