-- ==== Sys2Proof/Machine/ShotOps.lean ====
section
/-! DEFINITION. Banks, strings and emitters, frames and their boundaries: the operations of the shot sequencer (chapters
06, 13). -/
namespace Sys2Proof.Machine

/-! ### Banks (R203 to R207) -/

/-- Bank b. -/
def State.bank (s : State) (b : Nat) : Bank := if b = 0 then s.kept.bank0 else s.kept.bank1

/-- Bank b changed. -/
def State.setBank (s : State) (b : Nat) (f : Bank → Bank) : State :=
  { s with kept := if b = 0 then { s.kept with bank0 := f s.kept.bank0 } else { s.kept with bank1 := f s.kept.bank1 } }

/-- Word i of a section of a bank. -/
def Bank.at_ (k : Bank) (sec i : Nat) : Word := tget 0 k.w (sec * 2 ^ 20 + i)

/-- Entry count, frame period, in-flight limit, set count and image identifier of a bank. -/
def Bank.entries (k : Bank) : Nat := (k.at_ 0 0).fld 17 0
def Bank.period (k : Bank) : Nat := (k.at_ 0 1).toNat
def Bank.limit (k : Bank) : Nat := (k.at_ 0 2).fld 2 0
def Bank.sets (k : Bank) : Nat := (k.at_ 0 2).fld 13 3
def Bank.ident (k : Bank) : Word := k.at_ 0 3

/-- Word w of entry i. -/
def Bank.entry (k : Bank) (i w : Nat) : Word := k.at_ 1 (4 * i + w)

/-- Receive set i as a mask of channels (R205). -/
def Bank.rset (k : Bank) (i : Nat) : BitVec 512 :=
  BitVec.ofNat 512 (packNat ((List.range 16).map (fun j => ((k.at_ 2 (16 * i + j)).toNat, 32))))

/-- Offsets of code i (R206). -/
def Bank.offs (k : Bank) (i : Nat) : List Nat :=
  let w := k.at_ 3 i
  [0, w.fld 15 8, w.fld 23 16, w.fld 31 24].take (w.fld 2 0)

/-- Bypass pattern p (R207). -/
def Bank.pattern (k : Bank) (p : Nat) : Nat :=
  if p % 2 = 0 then (k.at_ 4 (p / 2)).fld 15 0 else (k.at_ 4 (p / 2)).fld 31 16

/-- The words of sections 0 to 4 in wire order, the header's W7 counted as zero (R204). -/
def Bank.image_ (k : Bank) : List Word :=
  (List.range 7).map (k.at_ 0) ++ [0] ++ (List.range (4 * k.entries)).map (k.at_ 1) ++
    (List.range (16 * k.sets)).map (k.at_ 2) ++ (List.range 256).map (k.at_ 3) ++ (List.range 2048).map (k.at_ 4)

/-- The image check of a bank as held (R204). -/
def Bank.check (k : Bank) : Nat := crc32 (wordsBytes k.image_)

/-- A word written to a section of a bank keeps its reserved bits at zero (R6; tables of R203, R204, R206). -/
def bankReserved (sec i : Nat) (w : Word) : Bool :=
  match sec with
  | 0 => if i = 0 then w.fld 31 18 = 0 else if i = 2 then w.fld 31 14 = 0 else !(4 ≤ i && i ≤ 6) || w = 0
  | 1 => if i % 4 = 1 then w.fld 31 28 = 0 else if i % 4 = 3 then w.fld 7 4 = 0 else true
  | 3 => w.fld 7 3 = 0
  | _ => true

/-- The header of a bank that a frame is to run from holds a value of its stated ranges (header table of R203; host errors of
chapter 06). -/
def Bank.headerOk (k : Bank) : Bool :=
  1 ≤ k.entries && k.entries ≤ 196608 && 1600 ≤ k.period && 1 ≤ k.limit && k.limit ≤ 4 && k.sets ≤ 1024

/-- The offsets of a code meet R206 for an entry of a sub-pulse width: 2 to 4 sub-pulses, each at least 8 tk and at least the
width after the one before; fields of sub-pulses that are not there are 0. -/
def Bank.codeOk (k : Bank) (i width : Nat) : Bool :=
  let w := k.at_ 3 i
  let n := w.fld 2 0
  let o := k.offs i
  2 ≤ n && n ≤ 4 && (3 ≤ n || w.fld 23 16 = 0) && (4 ≤ n || w.fld 31 24 = 0) &&
    (o.zip o.tail).all (fun (e : Nat × Nat) => decide (e.1 + 8 ≤ e.2) && decide (16 * e.1 + width ≤ 16 * e.2))

/-- Entry i of a bank is free of the host errors of chapter 06 that it shows by itself: its fields' ranges, its code, and its
fire offset inside the frame. -/
def Bank.entryOk (k : Bank) (i : Nat) : Bool :=
  let w1 := k.entry i 1
  let w2 := k.entry i 2
  let width := w2.fld 7 0
  let win := w2.fld 20 8
  (8 ≤ width || (!w1.bit 7 && width = 0)) && (win = 0 || (16 ≤ win && win ≤ 6400)) &&
    (w2.fld 30 21 < k.sets || (k.sets = 0 && w2.fld 30 21 = 0 && win = 0)) && k.codeOk (w1.fld 15 8) width &&
    (k.entry i 0).toNat < k.period

/-- The shot of entry i of a bank, in a frame that starts at a tick (R204, R208, R218). -/
def Bank.shot (k : Bank) (i frame start s : Nat) (run : Bool) : Shot :=
  let w1 := k.entry i 1
  let w2 := k.entry i 2
  let w3 := k.entry i 3
  { idx := i, frame := frame, fire := start + (k.entry i 0).toNat, edge := w1.fld 3 0, string := w1.fld 6 4
    emit := w1.bit 7, code := w1.fld 15 8, offs := k.offs (w1.fld 15 8), pat := w1.fld 27 16
    mask := k.pattern (w1.fld 27 16), width := w2.fld 7 0, win := w2.fld 20 8, rset := k.rset (w2.fld 30 21)
    hist := w2.bit 31, prof := w3.fld 1 0, diag := w3.bit 2
    mirror := if w3.bit 3 then some (sgn 16 (w3.fld 31 16)) else none, tag := w3.fld 15 8, s := s, run := run }

/-! ### Strings and emitters (R228 to R237) -/

/-- Key of emitter j of string k. -/
def emKey (k j : Nat) : Nat := k * 16 + j

/-- Health of emitter j of string k. -/
def State.health (s : State) (k j : Nat) : Nat := tget 0 s.p.health (emKey k j)

/-- The forced-bypass mask of string k (R231). -/
def State.forced (s : State) (k : Nat) : Nat :=
  (((List.range 16).filter (fun j => s.health k j % 2 == 1)).map (2 ^ ·)).sum

/-- State, disable cause and failures of string k. -/
def State.string (s : State) (k : Nat) : Nat × Nat × Nat := tget (0, 0, 0) s.p.strings k

/-- The string states, two bits each. -/
def State.stringBits (s : State) : Nat := packNat ((List.range 8).map (fun k => ((s.string k).1, 2)))

/-- String k set; the hardware's own change of class P (log 8). -/
def State.setString (s : State) (k : Nat) (v : Nat × Nat × Nat) : State :=
  s.hwP (fun p => { p with strings := tset (0, 0, 0) p.strings k v })

/-- A number with bit k cleared. -/
def clearBit (n k : Nat) : Nat := if n >>> k % 2 = 1 then n - 2 ^ k else n

/-- What the sequencer holds of the proof of string k goes with the proof (R235, R236). -/
def Seq.dropProof (q : Seq) (k : Nat) : Seq :=
  { q with proofChg := clearBit q.proofChg k
           proofAt := q.proofAt.filter (fun (e : Nat × Nat) => e.1 ≠ k) }

/-- String k disabled with a cause; its pending proof is cancelled (R230, R235 to R237), and a re-enabling that waits for the
boundary was of a string disabled before (R250). Shots of the string that have not fired run dark. -/
def State.disable (s : State) (k cause : Nat) : State :=
  let s := (s.setString k (3, cause, (s.string k).2.2)).hwP (fun p => { p with enable := clearBit p.enable k })
  { s with seq := { s.seq.dropProof k with
      shots := s.seq.shots.map (fun (x : Shot) => if x.string = k && !x.fired then { x with wasOff := none } else x) } }

/-- A change of health is about to enable or disable string k: its shots whose blanking interval has begun keep what they have
(R231). -/
def State.keepBlanked (s : State) (k : Nat) : State :=
  { s with seq := { s.seq with shots := s.seq.shots.map (fun (x : Shot) =>
      if x.string = k && x.blanked && !x.fired && x.wasOff.isNone then { x with wasOff := some ((s.string k).1 == 3) } else x) } }

/-- A string whose 16 emitters are all forced bypassed is disabled (R237), from the next shot that is not yet blanked on
(R231). -/
def State.allForced (s : State) (k : Nat) : State :=
  if s.forced k = 65535 && (s.string k).1 ≠ 3 then
    let t := s.keepBlanked k
    { s.disable k 3 with seq := { (s.disable k 3).seq with shots := t.seq.shots } }
  else s

/-- The strings with a proof pending, bit k = string k: those in state 2, which is class P (R230, R233, R251). -/
def State.proofs (s : State) : Nat := (((List.range 8).filter (fun k => (s.string k).1 = 2)).map (2 ^ ·)).sum

/-- A proof made pending for string k (R230, R251). -/
def State.pendProof (s : State) (k : Nat) : State := s.setString k (2, 0, (s.string k).2.2)

/-- The emitters of string k that a proof fires, from emitter j on, ascending (R232). -/
def State.proofFrom (s : State) (k j : Nat) : List Nat :=
  (List.range 16).filter (fun i => decide (j ≤ i) && s.health k i ≠ 3)

/-- The emitters that the proof of string k has still to fire: from the next one on in the string being proved (R232). -/
def State.proofLeft (s : State) (k : Nat) : List Nat :=
  s.proofFrom k (match s.seq.proofAt with | some (a, j) => if a = k then j else 0 | none => 0)

/-- The next proof shot, string and emitter: the proof begun goes first, then pending ones in ascending string order (R232,
R233). -/
def State.nextProof (s : State) : Option (Nat × Nat) :=
  let begun := (s.seq.proofAt.map (·.1)).toList
  ((begun ++ List.range 8).filter (fun k => (s.string k).1 == 2)).findSome?
    (fun k => (s.proofLeft k).head?.map (fun j => (k, j)))

/-- Heat that one sub-pulse adds to an emitter in series, in nJ: width in 1/16 tk times 1/256 nJ per ns; its rounding is
not stated (R238; log 10). -/
def State.heatOf (s : State) (width : Nat) : Nat :=
  (roundOpen 0x0238 ((width * 5 * s.val SHOT_HEAT_NJ_PER_NS : Nat) / 32768)).toNat

/-- The sub-pulses that a shot fires: one, of width 8, for a proof shot (R232). -/
def Shot.pulses (x : Shot) : Nat := if x.proof.isSome then 1 else x.offs.length

/-- Width of the sub-pulses that a shot fires. -/
def Shot.pulseWidth (x : Shot) : Nat := if x.proof.isSome then 8 else x.width

/-- The sub-pulses that a shot fires (R218): firing output, rise at n_fire + d_i + e/16 and fall one width later, in 1/16 tk. -/
def Shot.subPulses (x : Shot) : List (Nat × Nat × Nat) :=
  (if x.proof.isSome then [0] else x.offs).map (fun d =>
    (x.string, 16 * (x.fire + d) + x.edge, 16 * (x.fire + d) + x.edge + x.pulseWidth))

/-- The fall of a shot's last sub-pulse, in 1/16 tk. -/
def Shot.lastFall (x : Shot) : Nat := x.subPulses.foldl (fun a e => max a e.2.2) 0

/-- The emitters in series under an applied pattern. -/
def inSeries (applied : Nat) : List Nat := (List.range 16).filter (fun j => applied >>> j % 2 == 0)

/-! ### Frames -/

/-- Entries of a follower's frame for which no valid shot word came (R506): of the whole frame, or in a truncated one of those
up to the highest that came, and of those that ran by the truncate word. -/
def Frame.missing (f : Frame) (entries : Nat) (trunc : Bool) : Nat :=
  if trunc then max (f.top - f.words) (f.told - f.words) else entries - f.words

/-- A frame ends: its sub-pulses are reported to the island (R372), and its record's values are taken: lock, spin, time
base, warm, trains, strings (R445, R524). A follower's entries without a valid shot word count as dropped (R506). -/
def State.endFrame (s : State) (trunc : Bool) : State :=
  let lost (f : Frame) : Nat := if s.follower then f.missing (s.bank f.bank).entries trunc else 0
  let now := ((s.seq.frames.find? (fun f => f.seq == s.kept.frame)).map lost).getD 0
  let s := if now = 0 then s else s.countC 0x24 0 now
  { s with seq := { s.seq with report := some s.seq.pulses } }.setFrame s.kept.frame (fun f => { f with
    ovr := true, trunc := trunc
    lock := if s.follower then s.ch.condLock else s.mc.lock
    spin := if s.follower then s.ch.condSpin else s.mc.spin, tb := s.tb.state, warm := s.warm
    trains := s.est.trains.length, strings := s.stringBits, forced := (List.range 4).map (fun i =>
      pack [(s.forced (2 * i), 16), (s.forced (2 * i + 1), 16)])
    dropped := f.dropped + lost f })

/-- The accumulation groups of the frame that ends take no more members (R263). -/
def State.endFrameGroups (s : State) : State :=
  let end_ (g : Grp) : Grp :=
    if g.ending then g else { g with ending := true, early := decide (g.members < (wd g.prof 2).fld 6 0) }
  { s with blocks := tmap {} s.blocks (fun _ b => { b with acc := b.acc.map end_ }) }

/-- A table with the entries of another one where it lists none. -/
def tkeep {α : Type} (t l : Tab α) : Tab α := l.foldl (fun (a : Tab α) (e : Nat × α) => if (tfind a e.1).isSome then a else tput a e.1 e.2) t

/-- The values that shots of earlier frames keep, where a parameter or pattern changes for the next frame (R198, R199,
R327). -/
def State.keepOld (s : State) : State :=
  let par := s.lag.filter (fun e => effOf e.1 == .shots)
  { s with seq := { s.seq with shots := s.seq.shots.map (fun x =>
      if x.fired then { x with old := tkeep x.old par, oldCo := tkeep x.oldCo s.coincNow } else x) } }

/-- A coefficient set that waits is taken at a frame boundary, unless a fade is in progress (R165, R166). -/
def Cell.takeCoef (x : Cell) : Cell :=
  match x.next, x.old with
  | some (h, replace), none =>
    if replace then { x with coef := h, next := none } else { x with old := some x.coef, coef := h, j := 0, next := none }
  | _, _ => x

/-- What a frame boundary brings into force: parameters, patterns, profiles, coefficient sets, re-enabled strings, and a
step of mapped time that waits (R98, R109, R165, R198, R250, R253). -/
def State.boundary (s : State) : State :=
  let s := s.keepOld
  let ready := (s.ready ++ s.lag.filter (fun e => effOf e.1 == .permFrame)).map (·.1)
  let ready := ready.foldl (fun t k => tput t k (s.written k)) s.ready
  let s := ((s.forceTb).force .frame).force .shots
  let s := { s with coincNow := [], profNow := [], ready := ready
                    cells := tmap {} s.cells (fun _ x => x.takeCoef) }
  let s := (List.range 8).foldl (fun s k =>
    if s.p.enable >>> k % 2 == 1 && (s.string k).1 = 3 then
      s.setString k (if s.forced k = 65535 then (3, 3, 0) else (0, 0, 0)) else s) s
  (if s.p.enable = 0 then s else s.hwP (fun p => { p with enable := 0 })).stepBoundary

/-- The counter telemetry record (R601). -/
def State.perfRecord (s : State) (k : Nat) : List Word :=
  let cs := s.obs.perf.filter (fun e => e.2.c0.bit 8)
  [pack [(s.addr, 3), (0, 5), (2, 8)], w32 k, pack [(4 + 2 * cs.length, 16), (cs.length, 9)], recW3 k 0x69 0] ++
    cs.flatMap (fun e => s.perfWords e.1)

/-- Counters sampled at the boundary that ends a frame whose sequence is a multiple of PERF_REPORT_FRAMES (R601). -/
def State.perfReport (s : State) (k : Nat) : State :=
  let n := s.val PERF_REPORT_FRAMES
  if n = 0 || k % n ≠ 0 then s else s.telemetry (s.perfRecord k)

/-- A trigger word queued by the conductor (R503). -/
def State.queueWord (s : State) (type payload nominal : Nat) : State :=
  if s.enum.cond then { s with ch := { s.ch with words := s.ch.words ++ [(type, payload, nominal)] } } else s

/-- Payload of a shot word (R502). -/
def shotWord (x : Shot) (dark : Nat) : Nat :=
  packNat [(x.fire, 32), (0, 27), (dark, 3), (x.edge, 4), (x.code, 8), (x.idx, 18), (1, 4)]

/-- Payload of a frame-start word. -/
def frameWord (frame start s bank : Nat) : Nat := packNat [(start, 32), (frame, 32), (0, 18), (s, 9), (bank, 1), (2, 4)]

/-- Payload of a truncate word. -/
def truncWord (frame ran : Nat) : Nat := packNat [(ran, 18), (0, 14), (frame, 32), (0, 28), (3, 4)]

/-- Every follower that is reachable and aligned has reported its inactive bank armed (R522). -/
def State.membersArmed (s : State) : Bool := s.ch.mems.all (fun e => !e.2.reach || !e.2.aligned || e.2.armed)

/-- The rate scale of the next frame (R244, R523). -/
def State.rateScale (s : State) : Nat :=
  let own := min s.therm.sT.toNat s.lad.sL
  max 64 ((s.ch.mems.filter (fun e => e.2.reach)).foldl (fun a e => min a (min e.2.sT e.2.sL)) own)

/-- The ladder scale at a latch tick (R287): taken as it is at the first latch of step 3, as the chapter's example has it;
then lowered, raised or kept; 256 outside step 3. -/
def Ladder.latch (l : Ladder) (tick : Nat) : Ladder :=
  let l' := if l.step ≠ 3 then { l with sL := 256 }
    else if l.entered then { l with entered := false }
    else if l.hiSeen then { l with sL := max 64 (l.sL - 32) }
    else if l.loAll then { l with sL := min 256 (l.sL + 32) }
    else l
  let l' := { l' with hiSeen := false, loAll := true }
  if l.step = 3 && l'.sL = 256 then { l' with step := 2, hiRun := 0, loRun := 0, hist := (tick, 2) :: l'.hist } else l'

/-- A ladder step change noted: event 0701h and the highest step of the frame (R284, R285). -/
def State.ladderEvent (s : State) (old : Nat) : State :=
  if s.lad.step = old then s
  else (s.setFrame s.kept.frame (fun f => { f with ladder := max f.ladder s.lad.step })).chipEvent 0x0701
    [s.lad.step + 4 * old]

/-- The bank that is active once every latched frame has started, and whether the other one is armed then (R210). -/
def State.bankThen (s : State) : Nat := (s.seq.latch.getLast?.map (·.bank)).getD s.kept.active
def State.armedThen (s : State) : Bool := s.kept.armed && !s.seq.latch.any (·.swap)

/-- The bank from which the next frame that is latched runs (R210). -/
def State.bankNext (s : State) : Nat := if s.armedThen && s.membersArmed then 1 - s.bankThen else s.bankThen

/-- Sequence and start tick of the next frame to be latched (R208 to R210, R215). -/
def State.nextFrame (s : State) : Nat × Nat :=
  match s.seq.latch.getLast?, s.seq.first with
  | some l, _ => (wrap 32 (l.seq + 1), l.start + (s.bank l.bank).period)
  | none, some f => (s.kept.frame, f)
  | none, none => (wrap 32 (s.kept.frame + 1), s.seq.bound)

/-- What every device does at the latch tick of a frame: the ladder's scale, and what takes effect at a latch (R285, R287). -/
def State.latchOwn (s : State) : State :=
  let old := s.lad.step
  (({ s with lad := s.lad.latch s.tb.tick }).force .latch).ladderEvent old

/-- A follower's latch: the frame that a frame-start word names starts at its tick with that word's bank and rate scale; a
bank that is neither active nor armed is not taken, and no window opens in that frame (R521 to R523). -/
def State.latchNamed (s : State) (seq start bank sc : Nat) : State :=
  let s := s.latchOwn
  let s := { s with seq := { s.seq with latch := s.seq.latch.filter (fun l => l.seq ≠ seq) } }
  let known := bank = s.bankThen || s.armedThen
  let b := if known then bank else s.bankThen
  let run := s.wantsRun && known
  let f : Frame := { seq := seq, start := start, bank := b, image := (s.bank b).ident, s := sc, sL := s.lad.sL, run := run }
  let l : Latch := { seq := seq, start := start, bank := b, swap := b ≠ s.bankThen, s := sc, sL := s.lad.sL, run := run }
  let here := s.seq.run ≠ 0 && s.seq.first.isNone
  let none_ := s.seq.latch.isEmpty
  { s with
    kept := if here || !none_ then s.kept else { s.kept with frame := seq }
    seq := { s.seq with
      run := 1, first := if here then none else if none_ then some start else s.seq.first
      bound := if none_ then start else s.seq.bound
      latch := s.seq.latch ++ [l]
      frames := s.seq.frames.filter (fun f => f.ovr || (here && f.seq == s.kept.frame) ||
        s.seq.latch.any (fun l => l.seq == f.seq)) ++ [f] } }

/-- The latch of the next frame (R210): the ladder's scale, the bank, the rate scale and the RUN decision (R217); the
frame's counts start, and the conductor queues its frame-start word. -/
def State.latchFrame (s : State) (seq start : Nat) : State :=
  let s := s.latchOwn
  let bank := s.bankNext
  let swap := bank ≠ s.bankThen
  let sc := s.rateScale
  let run := s.wantsRun
  let f : Frame := { seq := seq, start := start, bank := bank, image := (s.bank bank).ident, s := sc, sL := s.lad.sL, run := run }
  let l : Latch := { seq := seq, start := start, bank := bank, swap := swap, s := sc, sL := s.lad.sL, run := run }
  let s := { s with seq := { s.seq with latch := s.seq.latch ++ [l], frames := s.seq.frames ++ [f] } }
  s.queueWord 2 (frameWord seq start sc bank) (start - 3952)

/-- The first latched frame starts at its tick: banks swap, its counts begin with what is present (R208 to R211, R213); a
disarming that waits for the boundary acts (R249). The boundary after it is a frame period later, or where a follower has
been told (R521). -/
def State.startFrame (s : State) : State :=
  match s.seq.latch with
  | [] => s
  | l :: later =>
    let start := l.start
    let kept := { s.kept with active := l.bank, armed := if l.swap then false else s.kept.armed }
    let period := (s.bank l.bank).period
    let s := { s with
      kept := kept
      seq := { s.seq with latch := later, first := none, start := start, pulses := 0
                          bound := (later.head?.map (fun (l : Latch) => l.start)).getD (start + period) }
      mc := { s.mc with frames := if s.works 88 then s.mc.frames.getLast?.toList ++ [(start, period)] else [] } }
    let show_ := s.tb.stepShow
    let s := { s with tb := { s.tb with stepShow := none } }
    let s := { s with kept := if s.seq.disarmAt then { s.kept with armed := false } else s.kept
                      seq := { s.seq with disarmAt := false } }
    let s := s.setFrame s.kept.frame (fun f => { f with
      start := start, t := (s.tb.map.at (256 * start : Nat)).floor, step := show_, sil := maskOf s.silent, ladder := s.lad.step
      sun := maskOf (fun c => (s.cell c).sun) })
    s.noteAbsent

/-! ### Shot and frame records -/

/-- The shot record (R441). -/
def State.shotRecord (s : State) (x : Shot) : List Word :=
  let (spin, mref, mpos, unknown) := x.angles.getD (0, 0, 0, true)
  [pack [(s.addr, 3), (x.proof.getD 0, 4), (b2n x.proof.isSome, 1), (x.dark, 3), (x.string, 3), (x.idx, 18)]] ++ lohi x.time.1 ++
  [recW3 x.frame 0x29 (packNat [(x.time.2, 9), (0, 4), (b2n unknown, 1), (b2n x.hist, 1), (b2n (decide (x.s < 256)), 1)]), w32 spin,
    pack [(unsgn 16 mref, 16), (unsgn 16 mpos, 16)], pack [(x.code, 8), (x.tag, 8), (x.pat, 12)], w32 x.frame]

/-- The frame record (R445). -/
def State.frameRecord (s : State) (f : Frame) : List Word :=
  let n (w : Nat) : Word := w32 (tget 0 f.n w)
  let step := f.step.getD 0
  [pack [(s.addr, 3), (f.bank, 1), (b2n f.trunc, 1), (b2n f.lock, 1), (f.spin, 2), (f.tb, 2), (b2n f.warm, 1),
      (b2n f.step.isSome, 1), (f.ladder, 2), (f.s, 9), (f.sL, 9)], w32 f.seq, f.image, recW3 f.seq 0x59 f.regs.toNat,
    pack [(f.ran, 18)], pack [(f.dropped, 18)]] ++ lohi f.t ++ lohi step ++
  (span 10 26).map n ++ [pack [(popcount f.sun, 10), (f.trains, 6)], n 37] ++
  (List.range 16).map (fun i => w32 (f.sil.toNat >>> (32 * i))) ++ [w32 f.blks.toNat, pack [(f.strings, 16)]] ++ f.forced ++
  List.replicate 4 0

/-- The records of frames that are over leave the collector before its domain 95 switches off: the shot records of shots that
have fired, and the frame records (R216). -/
def State.flushFrames (s : State) : State :=
  let shots := s.seq.shots.filter (fun x => x.fired && !x.recorded)
  let s := shots.foldl (fun (s : State) (x : Shot) => s.enqueueAll 2 (fun _ => true) (fun _ => s.shotRecord x)) s
  let s := { s with seq := { s.seq with shots := s.seq.shots.map (fun (x : Shot) => if x.fired then { x with recorded := true } else x) } }
  let frames := s.seq.frames.filter (fun (f : Frame) => f.ovr)
  let s := frames.foldl (fun (s : State) (f : Frame) => s.enqueueAll 7 (fun _ => true) (fun _ => s.frameRecord f)) s
  { s with seq := { s.seq with frames := s.seq.frames.filter (fun (f : Frame) => !f.ovr) } }

/-- The sequencer is stopped: waiting SHOT_SEQ_STOP commands are answered, a step that waits is applied (R98, R216); trigger
words of what runs no more are not sent. -/
def State.stopped (s : State) : State :=
  let ms := s.seq.stopMbx
  let s := { s with
    seq := { s.seq with run := 0, first := none, latch := [], stopMbx := []
                        shots := s.seq.shots.filter (·.fired)
                        frames := s.seq.frames.filter (fun f => f.ovr) }
    ch := { s.ch with words := s.ch.words.filter (fun (w : Nat × Nat × Nat) => w.1 ≠ 1 && w.1 ≠ 2) }
    kept := if s.seq.disarmAt then { s.kept with armed := false } else s.kept }
  let s := { s with seq := { s.seq with disarmAt := false } }
  let s := ms.foldl (fun s m => s.respond m 0 []) s
  match s.tb.step with
  | some d => s.doStep false d
  | none => s

/-- A frame is in progress. -/
def State.inFrame (s : State) : Bool := s.seq.run ≠ 0 && s.seq.first.isNone

/-- The banks are at the instant of a swap: a latched frame is to start now from the other bank (R210, R248). -/
def State.swapping (s : State) : Bool :=
  s.seq.run ≠ 0 && decide (s.seq.bound ≤ s.tb.tick) && (s.seq.latch.head?.map (·.swap)).getD false

/-- The inactive bank; at the instant of a swap, the bank that is inactive after it (R248). -/
def State.inactive (s : State) : Nat := if s.swapping then s.kept.active else 1 - s.kept.active

/-- The sequencer stops as in mode 1: no entry fires any more, and the frame in progress is truncated (R216). -/
def State.truncate (s : State) : State :=
  if s.seq.run = 0 then s
  else if !s.inFrame then s.stopped
  else
    let ran := ((s.seq.frames.find? (fun f => f.seq == s.kept.frame)).map (·.ran)).getD 0
    let s := s.queueWord 3 (truncWord s.kept.frame ran) s.tb.tick
    let s := (s.endFrame true).endFrameGroups
    ({ s with kept := { s.kept with frame := wrap 32 (s.kept.frame + 1) } }).stopped

end Sys2Proof.Machine
end

