-- ==== Sys2Proof/Machine/MotionOps.lean ====
section
/-! DEFINITION. The motion control engine's operations: roots, profile generator, encoder, motor link, spin and mirror
loops, oscillation detector, injection and capture (chapter 09). -/
namespace Sys2Proof.Machine

/-! ### Roots and the sine (log 27) -/

/-- The largest r of n bits added to r with r to the power k at most x, by bisection. -/
def rootBits (k : Nat) : Nat → Nat → Nat → Nat
  | 0, _, r => r
  | n + 1, x, r => let t := r + 2 ^ n; rootBits k n x (if t ^ k ≤ x then t else r)

/-- √x to 2⁻³². -/
def sqrtR (x : Rat) : Rat := if x ≤ 0 then 0 else (isqrt (x * (2 ^ 64 : Nat)).floor.toNat : Nat) / (2 ^ 32 : Nat)

/-- The cube root of x to 2⁻³². -/
def cbrtR (x : Rat) : Rat :=
  if x ≤ 0 then 0
  else
    let n := (x * (2 ^ 96 : Nat)).floor.toNat
    (rootBits 3 (n.log2 / 3 + 1) n 0 : Nat) / (2 ^ 32 : Nat)

/-- 2π in units of 2⁻⁶⁴. -/
def twoPi : Int := 115904311329233965478

/-- sin of an angle of 0 to π/2, both in units of 2⁻⁶⁴: the Taylor sum to the 25th power. -/
def sineQuarter (x : Int) : Int :=
  let x2 := x * x / 2 ^ 64
  x * ((List.range 12).reverse.foldl (fun acc k => 2 ^ 64 - x2 * acc / 2 ^ 64 / (((2 * k + 2) * (2 * k + 3) : Nat) : Int)) (2 ^ 64)) / 2 ^ 64

/-- sin(2πx) to 2⁻³². -/
def sineR (x : Rat) : Rat :=
  let f := x - x.floor
  let h := if f < 1 / 2 then f else f - 1 / 2
  let q := if h ≤ 1 / 4 then h else 1 / 2 - h
  let y : Rat := ((sineQuarter (q * (twoPi : Rat)).floor + 2 ^ 31) / 2 ^ 32 : Int) / (2 ^ 32 : Nat)
  if f < 1 / 2 then y else -y

/-- The magnitude of a rational. -/
def absR (x : Rat) : Rat := if x < 0 then -x else x

/-- x limited to ±l. -/
def limitR (l x : Rat) : Rat := max (-l) (min l x)

/-- The sign of a rational. -/
def signR (x : Rat) : Int := if x < 0 then -1 else if x = 0 then 0 else 1

/-! ### Profile generator (R339 to R341) -/

/-- Reference, velocity and acceleration of a generator. -/
structure Gen where
  r : Rat
  v : Rat
  a : Rat
  deriving DecidableEq, Repr, Inhabited

/-- A step toward velocity v* at limits V, A and J with loop period T (R339). V holds of every step, also where the discrete
steps of the acceleration would lead beyond it; a velocity that a lowered V has left beyond it comes back within A and J
(R341; DEDUCED, log 70). -/
def Gen.follow (g : Gen) (vs V A J T : Rat) : Gen :=
  let vs := limitR V vs
  let stop := g.v + g.a * absR g.a / (2 * J)
  let as : Rat := if stop < vs then A else if vs < stop then -A else 0
  let a := g.a + limitR (J * T) (as - g.a)
  let v := max (min (-V) g.v) (min (max V g.v) (g.v + a * T))
  { r := g.r + v * T, v := v, a := a }

/-- The largest speed from which an S-curve at A and J stops within x (R340). -/
def vBrake (A J x : Rat) : Rat :=
  if A * A * A / (J * J) ≤ x then -(A * A / (2 * J)) + sqrtR (A * A * A * A / (4 * J * J) + 2 * A * x) else cbrtR (x * x * J)

/-- A step in position mode (R340). -/
def Gen.move (g : Gen) (target V A J T : Rat) : Gen :=
  let d := target - g.r
  if absR d ≤ J * T * T * T && absR g.v ≤ J * T * T then { r := target, v := 0, a := 0 }
  else
    let v := min V (vBrake A J (absR d))
    g.follow (if d < 0 then -v else if d = 0 then 0 else v) V A J T

/-! ### Encoder (R332, R333) -/

/-- The spin angle θ in rev at tick n (R332): extrapolated between edges, never beyond the next count. -/
def State.theta_ (s : State) (n : Nat) : Rat :=
  let q : Rat := (4 * s.mc.lines : Nat)
  let ext : Rat := match s.mc.edges with
    | (t1, c1) :: (t0, c0) :: _ =>
      if t1 ≤ t0 then 0 else (signR ((c1 - c0 : Int) : Rat) : Rat) * min 1 (((n - t1 : Nat) : Rat) / ((t1 - t0 : Nat) : Rat))
    | _ => 0
  let x : Rat := (s.val MC_SPIN_ZERO : Rat) / (2 ^ 32 : Nat) + (s.mc.count + ext) / q
  x - x.floor

/-- The speed ω in rev/s (R332), from the edges of the last four spin periods; its sign is that of the newest count (DEDUCED,
log 69). Edges that all have one stamp give no speed: it is open then (log 69). -/
def State.omega (s : State) : Rat :=
  let es := s.mc.edges.filter (fun e => decide (s.tb.tick ≤ e.1 + 256000))
  match es, es.getLast? with
  | (t1, c1) :: (_, c) :: _, some (t0, _) =>
    if t1 ≤ t0 then Config.openInt 0x0332 es.length
    else
      (signR ((c1 - c : Int) : Rat) : Rat) * ((es.length - 1 : Nat) : Rat) * 1600000000 /
        ((4 * s.mc.lines * (t1 - t0) : Nat) : Rat)
  | _, _ => 0

/-! ### The spin reference (R344) -/

/-- Frames per revolution. -/
def State.perRev (s : State) : Nat := s.val MC_SPIN_FRAMES_PER_REV

/-- ω_ref in rev/s. -/
def State.wRef (s : State) : Rat :=
  let p := if s.inFrame then s.seq.bound - s.seq.start
    else if (s.bank s.kept.active).period ≠ 0 then (s.bank s.kept.active).period
    else if s.kept.armed then (s.bank (1 - s.kept.active)).period else 0
  if p = 0 then 0 else 1600000000 / ((s.perRev * p : Nat) : Rat)

/-- θ_ref in rev at the present tick, while a frame is in progress. -/
def State.thetaRef (s : State) : Rat :=
  let p := s.seq.bound - s.seq.start
  let n : Rat := (s.perRev : Nat)
  let x : Rat := (((s.kept.frame % s.perRev : Nat) : Rat) + ((s.tb.tick - s.seq.start : Nat) : Rat) / (p : Nat)) / n
  if s.inFrame && p ≠ 0 then x - x.floor else 0

/-- An angle difference wrapped to −0.5 to 0.5 rev. -/
def wrapHalf (x : Rat) : Rat := x - (x + 1 / 2).floor

/-- The count at tick n between the edges around it (R353); none where no two edges lie around it. -/
def countBetween (n : Nat) : List (Nat × Int) → Option Rat
  | (t1, c1) :: (t0, c0) :: r =>
    if t0 ≤ n && n < t1 then some ((c0 : Rat) + ((c1 - c0 : Int) : Rat) * ((n - t0 : Nat) : Rat) / ((t1 - t0 : Nat) : Rat))
    else countBetween n ((t0, c0) :: r)
  | _ => none

/-- The spin angle of a fire tick in rev: interpolated between the edges around it (R353), else as R332 has it. -/
def State.thetaAt (s : State) (n : Nat) : Rat :=
  match countBetween n s.mc.edges with
  | some c =>
    let x : Rat := (s.val MC_SPIN_ZERO : Rat) / (2 ^ 32 : Nat) + c / ((4 * s.mc.lines : Nat) : Rat)
    x - x.floor
  | none => s.theta_ n

/-- Mirror reference and position at tick n between the loop instants around it (R353), else of the newest one. -/
def mirrorAt (n : Nat) : List (Nat × Rat × Rat) → Rat × Rat
  | (t1, r1, y1) :: (t0, r0, y0) :: l =>
    if t1 ≤ n then (r1, y1)
    else if t0 ≤ n then
      let k : Rat := ((n - t0 : Nat) : Rat) / ((t1 - t0 : Nat) : Rat)
      (r0 + (r1 - r0) * k, y0 + (y1 - y0) * k)
    else mirrorAt n ((t0, r0, y0) :: l)
  | [(_, r, y)] => (r, y)
  | [] => (0, 0)

/-! ### Axis off (R361) -/

/-- The spin axis goes off with a cause. -/
def State.spinOff (s : State) (cause : Nat) : State :=
  if s.mc.offSpin ≠ 0 then s
  else
    ({ s with mc := { s.mc with
        spin := 0, trial := none, iw := 0, ith := 0, c := 0, v := 0, a := 0, align := 0, limited := false, offSpin := cause
        okRun := 0, angRun := 0, lostRun := 0 } }).chipEvent 0x0901 [2 * cause]

/-- The output of the mirror starts its ramp to 0 over 1 ms, 100 loop instants (R358, R361). -/
def Motion.startRamp (x : Motion) : Motion := { x with mirOn := false, mi := 0, ramp := x.u / 100 }

/-- The mirror axis goes off with a cause: its output ramps to 0 over 1 ms. -/
def State.mirrorOff (s : State) (cause : Nat) : State :=
  if s.mc.offMir ≠ 0 then s
  else
    ({ s with mc := { s.mc.startRamp with offMir := cause } }).chipEvent 0x0901
      [1 + 2 * cause]

/-! ### Oscillation detector (R354) -/

/-- A step on a loop error; the answer says whether oscillation is declared. -/
def Osc.step (o : Osc) (err ampl : Rat) (n window count : Nat) : Osc × Bool :=
  let sg := signR err
  if sg ≠ 0 && o.sign ≠ 0 && sg ≠ o.sign then
    let times := if ampl < o.big then n :: o.times else o.times
    let times := times.filter (fun t => decide (n ≤ t + 1600000 * window))
    let o := { o with sign := sg, big := absR err, times := times }
    if count ≤ times.length then ({ o with times := [] }, true) else (o, false)
  else ({ o with sign := if sg = 0 then o.sign else sg, big := max o.big (absR err) }, false)

/-- Oscillation of an axis (0 spin, 1 mirror): the action of MC_OSC_ACTION. -/
def State.oscillation (s : State) (axis : Nat) : State :=
  let act := s.val MC_OSC_ACTION
  let s := s.chipEvent 0x0902 [axis + 2 * act]
  match act with
  | 1 => { s with mc := if axis = 0 then { s.mc with oscS := { s.mc.oscS with halved := s.mc.oscS.halved + 1 } }
                        else { s.mc with oscM := { s.mc.oscM with halved := s.mc.oscM.halved + 1 } } }
  | 2 => if axis = 0 then s.spinOff 3 else s.mirrorOff 3
  | _ => s

/-- A Q16.16 gain, halved as often as the axis's detector says. -/
def State.gain (s : State) (p : Par) (halved : Nat) : Rat := (s.val p : Rat) / 65536 / (2 ^ halved : Nat)

/-! ### Injection and capture (R355 to R357) -/

/-- The value of a test signal at its present loop period, with loop period T. -/
def Inject.value (j : Inject) (T : Rat) : Rat :=
  if j.dur ≤ j.n then 0
  else match j.signal with
    | 0 => j.amp
    | 1 =>
      let t := (j.n : Rat) * T
      let phi := (j.f0 : Rat) * t + ((j.f1 : Rat) - j.f0) * t * t / (2 * (j.dur : Rat) * T)
      j.amp * sineR phi
    | _ => if j.prbs.getLsbD 14 then j.amp else -j.amp

/-- The test signal after one loop period. -/
def Inject.next (j : Inject) : Inject :=
  let n := j.n + 1
  let bit := j.prbs.getLsbD 14 != j.prbs.getLsbD 13
  { j with n := n, prbs := if j.bit ≠ 0 && n % j.bit = 0 then j.prbs <<< 1 ||| BitVec.ofNat 15 (b2n bit) else j.prbs }

/-- The value injected on an axis at a point, with loop period T. -/
def State.injected (s : State) (axis point : Nat) (T : Rat) : Rat :=
  match s.mc.inj with
  | some j => if j.axis = axis && j.point = point then j.value T else 0
  | none => 0

/-- A loop instant of an axis, on or off, is recorded while its injection runs, and the signal goes on (R355, R356). The
roundings are open (log 10). -/
def State.capture (s : State) (axis : Nat) (T ref meas err out : Rat) : State :=
  match s.mc.inj with
  | none => s
  | some j =>
    if j.axis ≠ axis then s
    else
      let w (x : Rat) : Word := w32 (unsgn 32 (roundOpen 0x0356 x))
      let row := [w ref, w meas, w err, w out, w (j.value T)]
      let cap := if j.n < j.dur && j.n % j.dec = 0 && s.mc.cap.length < 13107 then s.mc.cap ++ [row] else s.mc.cap
      { s with mc := { s.mc with inj := some j.next, cap := cap } }

/-! ### Motor link (R334 to R336) -/

/-- The CRC-8 of a 72-bit number, most significant bit first (R335). -/
def linkCrc (x : Nat) : Nat := (crc8 (bytesLE x 9).reverse).toNat

/-- The command word (R334). -/
def commandWord (mode seq : Nat) (sp : Int) : BitVec 80 :=
  let hi := packNat [(0, 32), (unsgn 16 sp, 16), (seq, 8), (0, 6), (mode, 2), (0xA5, 8)]
  BitVec.ofNat 80 (hi * 256 + linkCrc hi)

/-- The frame of a spin period is sent (R334). -/
def State.sendFrame (s : State) (mode : Nat) (sp : Int) : State :=
  { s with mc := { s.mc with word := commandWord mode s.mc.seq sp, sentSeq := s.mc.seq, seq := wrap 8 (s.mc.seq + 1) } }

/-- A frame with a set-point of c mA, as MC_LINK_MODE says; its rounding is open (log 10). -/
def State.sendCurrent (s : State) (c : Rat) : State :=
  if s.val MC_LINK_MODE = 1 then
    s.sendFrame 1 (satI 16 (roundOpen 0x0346 (c * (s.val MC_MOTOR_KT : Rat) / 1000)))
  else s.sendFrame 0 (satI 16 (roundOpen 0x0345 c))

/-! ### The spin loop (R345 to R352) -/

/-- i_avail of R346 in mA. -/
def State.iAvail (s : State) (w : Rat) : Rat :=
  let v := sqrtR (((s.mc.vdc : Rat) / 100) * ((s.mc.vdc : Rat) / 100) / 3) - (s.val MC_MOTOR_KE : Rat) / 1000 * absR w
  max 0 (min (s.val MC_MOTOR_IMAX : Rat) (v * 1000000 / (s.val MC_MOTOR_RS : Rat)))

/-- A_eff of R346 in rev/s². -/
def State.aEff (s : State) (i : Rat) : Rat :=
  min ((s.val MC_SPIN_AMAX : Rat) / 256) (8 / 10 * (s.val MC_MOTOR_KT : Rat) * i * 10 / (s.val MC_SPIN_J : Rat))

/-- The spin leaves angle mode or alignment for SPEED, with the integrator at its value at hand-over (R348 to R351). -/
def State.toSpeed (s : State) : State :=
  { s with mc := { s.mc with
    spin := 1, trial := none, iw := if s.mc.spin = 3 then s.mc.iHand else s.mc.iw
    v := if s.mc.spin = 3 then s.omega else s.mc.v, a := if s.mc.spin = 3 then 0 else s.mc.a, align := 0
    angRun := 0, lostRun := 0 } }

/-- An abort of the trial (R350). -/
def State.abortTrial (s : State) : State :=
  let n := min 3 (s.mc.aborts + 1)
  let s := s.toSpeed
  let s := { s with mc := { s.mc with aborts := n, hold := true, halt := s.mc.halt || n = 3, okRun := 0 } }
  if n = 3 then s.chipEvent 0x0903 [] else s

/-- A frame whose period differs too much from the one before returns the spin to SPEED (R348). -/
def State.relock (s : State) : State :=
  match s.mc.frames.reverse with
  | (_, p1) :: (_, p0) :: _ =>
    if s.mc.spin = 3 && s.val MC_RELOCK_PPM * p0 < 1000000 * ((p1 - p0) + (p0 - p1)) then s.toSpeed else s
  | _ => s

/-- Hand-over cannot start or go on: the sequencer is stopped, the angle unknown, or the axis is to stop. -/
def State.noHandover (s : State) : Bool :=
  !s.inFrame || !s.mc.known || s.mc.parking || s.mc.safeStop.isSome

/-- The hand-over state machine at a spin period, with ω and e_θ (R349 to R351). -/
def State.handover (s : State) (w eth : Rat) : State :=
  let ref := s.wRef
  let within := absR (w - ref) ≤ absR ref * (s.val MC_HANDOVER_TOL_PPM : Rat) / 1000000
  let abort := (s.val MC_HANDOVER_ABORT : Rat) / 65536
  match s.mc.spin with
  | 1 =>
    if s.noHandover || s.mc.hold || s.mc.halt || s.mc.okRun < 2500 then s
    else { s with mc := { s.mc with spin := 2, angRun := 0 } }
  | 2 =>
    if s.noHandover || !within then { s with mc := { s.mc with spin := 1, align := 0, angRun := 0 } }
    else
      let run := if absR eth ≤ (s.val MC_HANDOVER_ANGLE : Rat) / 65536 then s.mc.angRun + 1 else 0
      if 10 ≤ run then
        let ith := s.mc.c - s.gain MC_SPIN_KP_TH s.mc.oscS.halved * eth - s.gain MC_SPIN_KD_TH s.mc.oscS.halved * (ref - w)
        { s with mc := { s.mc with ith := ith, iHand := s.mc.iw, align := 0, spin := 3, trial := some s.tb.tick, angRun := 0
                                   lostRun := 0 } }
      else { s with mc := { s.mc with align := limitR (absR ref / 100) (2 * eth), angRun := run } }
  | 3 =>
    if s.noHandover then s.toSpeed
    else match s.mc.trial with
      | some t =>
        if abort < absR eth then s.abortTrial
        else if t + 320000000 ≤ s.tb.tick then { s with mc := { s.mc with trial := none, aborts := 0, lostRun := 0 } }
        else s
      | none =>
        let n := if abort < absR eth then s.mc.lostRun + 1 else 0
        if 50 ≤ n then s.toSpeed.chipEvent 0x0904 [] else { s with mc := { s.mc with lostRun := n } }
  | _ => s

/-- One spin period of 40 µs. -/
def spinT : Rat := 40 / 1000000

/-- The speed loop's set-point in mA before limiting (R345, R346). -/
def State.speedLoop (s : State) (w i : Rat) : State × Rat :=
  let (A, J) : Rat × Rat := match s.mc.safeStop with
    | some (d, j) => ((d : Rat) / 256, (j : Rat) / 256)
    | none => (s.aEff i, (s.val MC_SPIN_JMAX : Rat) / 256)
  let vs := if s.mc.parking || s.mc.safeStop.isSome then 0 else s.wRef + s.mc.align + s.injected 0 0 spinT / 65536
  let g := ({ r := s.mc.sr, v := s.mc.v, a := s.mc.a } : Gen).follow vs ((s.val MC_SPIN_VMAX : Rat) / 256) A J spinT
  let e := g.v - w
  let iw := if s.mc.limited then s.mc.iw else s.mc.iw + s.gain MC_SPIN_KI_W s.mc.oscS.halved * e * spinT
  let ff := (s.val MC_SPIN_J : Rat) * g.a / (10 * (s.val MC_MOTOR_KT : Rat))
  ({ s with mc := { s.mc with sr := g.r - g.r.floor, v := g.v, a := g.a, iw := iw, ew := e } },
    s.gain MC_SPIN_KP_W s.mc.oscS.halved * e + iw + ff)

/-- The angle loop's set-point in mA before limiting (R347); fresh = the period of the hand-over, in which the pre-load
stands as it is. -/
def State.angleLoop (s : State) (w eth : Rat) (fresh : Bool) : State × Rat :=
  let ref := s.wRef
  let ith := if s.mc.limited || fresh then s.mc.ith else s.mc.ith + s.gain MC_SPIN_KI_TH s.mc.oscS.halved * eth * spinT
  let r := s.mc.sr + ref * spinT
  ({ s with mc := { s.mc with ith := ith, sr := r - r.floor, v := ref, a := 0 } },
    s.gain MC_SPIN_KP_TH s.mc.oscS.halved * eth + ith + s.gain MC_SPIN_KD_TH s.mc.oscS.halved * (ref - w))

/-- Runs of R349, R358 and R644 that a spin period extends or ends. -/
def State.spinRuns (s : State) (w : Rat) : State :=
  let ref := s.wRef
  let ok := if ref = 0 then absR w < 5 / 100 else absR (w - ref) ≤ ref * (s.val MC_HANDOVER_TOL_PPM : Rat) / 1000000
  let rest := absR w < 5 / 100
  { s with mc := { s.mc with okRun := if ok then s.mc.okRun + 1 else 0, restRun := if rest then s.mc.restRun + 1 else 0 } }

/-- The mirror's output is at 0, or no loop brings it there: domain 88 may switch off (R358). -/
def State.mirrorDone (s : State) : Bool := !s.works 88 || (!s.mc.mirOn && s.mc.u == 0) || !s.tb.locked || s.pwr.safe

/-- The rest report (R358): 100 ms below 0.05 rev/s, and the mirror within 1 mFS of its reference. -/
def State.restReport (s : State) : State :=
  let mirror := !s.mc.mirOn || absR (s.mc.r - s.mc.y) < 32768 / 1000
  { s with mc := { s.mc with rest := s.mc.parking && 2500 ≤ s.mc.restRun && mirror } }

/-- The lock flag of the frame in progress (R352, R357). -/
def State.lockNow (s : State) : Bool :=
  s.mc.spin == 3 && s.mc.trial.isNone && !(s.mc.inj.any (fun j => j.axis == 0))

/-- A frame starts: a period that differs too much from the one before ends angle mode (R348); the lock flag of the frame
starts with the spin's present state, the following loop instants can only clear it (R352, R357). -/
def State.engineFrame (s : State) : State :=
  let s := s.relock
  { s with mc := { s.mc with lock := s.mc.spin == 3 && !(s.mc.inj.any (fun j => j.axis == 0)) } }

/-! ### Domain 88 -/

/-- The engine runs: its domain is on and has settled, or shots fired before it was switched off still end (R75). -/
def State.engineOn (s : State) : Bool := s.works 88

/-- The engine at the power-up of its domain: class V at its defaults, the parameters that wait for it in force, the
mirror's target at MC_MIR_PARK (R342, R362). -/
def State.engineUp (s : State) : State :=
  let s := ((s.force .ctrlPower).force .spin).force .mirror
  { s with mc := { lines := s.val MC_ENC_LINES, axes := s.val MC_AXES, target := s.valI MC_MIR_PARK 0
                   r := s.valI MC_MIR_PARK 0 } }

/-- An axis or both start from their present position and speed (R359, R364). -/
def State.startSpin (s : State) : State :=
  if s.mc.axes % 2 = 0 then s
  else { s with mc := { s.mc with spin := 1, sr := s.theta_ s.tb.tick, v := s.omega, a := 0, iw := 0, ith := 0, offSpin := 0, okRun := 0, trial := none
                                  known := false, illegal := [] } }

/-- The mirror's present speed in FS/s, from the samples of the last two loop instants (R364). -/
def Motion.mirrorSpeed (x : Motion) : Rat :=
  match x.mirs with
  | (_, _, y1) :: (_, _, y0) :: _ => (y1 - y0) / 32768 * 100000
  | _ => 0

/-- The mirror starts. -/
def State.startMirror (s : State) : State :=
  if s.mc.axes / 2 % 2 = 0 then s
  else { s with mc := { s.mc with mirOn := true, target := s.valI MC_MIR_PARK 0, r := s.mc.y, mv := s.mc.mirrorSpeed, ma := 0, mi := 0
                                  offMir := 0, clamped := false } }

end Sys2Proof.Machine
end

