-- ==== Sys2Proof/Machine/Shots.lean ====
section
/-! DEFINITION. The shot sequencer and emitter drive: its events and the 06xxh commands (chapter 06). -/
namespace Sys2Proof.Machine

/-! ### Frames -/

/-- The next frame is latched. A bank whose header holds a host error is none that a frame can run from: entry count, frame
period or in-flight limit of zero, or a field outside its range (host errors of chapter 06; R474, R475). -/
def State.latchOut (s : State) (seq start : Nat) : Out :=
  if (s.bank s.bankNext).headerOk then .next (s.latchFrame seq start) else .fault (.hostError "bank header")

/-- At F − 4,096 tk the next frame is latched (R210), also while one latched before it has not started. -/
def execFrameLatchTick (s : State) : Out :=
  let (seq, start) := s.nextFrame
  if s.follower || s.seq.run ≠ 1 || s.tb.tick + 4096 < start then .next s else s.latchOut seq start

/-- With the values in force at a frame boundary, more corroborating members are asked for than a group has (host error of
chapter 08). -/
def State.groupBad (s : State) : Bool :=
  s.val REJ_GROUP_SHOTS ≠ 0 && decide (s.val REJ_GROUP_SHOTS < s.val REJ_GROUP_MIN)

/-- The first frame starts at its tick (R215), or the sequencer stops there (R216; DEDUCED, log 19). -/
def execFirstFrameStart (s : State) : Out :=
  match s.seq.first with
  | some f =>
    if s.seq.run = 0 || (s.seq.run = 1 && s.seq.latch.isEmpty) || s.tb.tick < f then .next s
    else if s.boundary.groupBad then .fault (.hostError "REJ_GROUP_MIN above REJ_GROUP_SHOTS")
    else if s.seq.run = 2 then .next s.boundary.stopped
    else .next s.boundary.startFrame.engineFrame
  | none => .next s

/-- The tick up to which a follower's next frame-start word may come: the active bank's frame period plus 4,096 tk after the one
before (R507). -/
def State.frameLimit (s : State) : Option Nat := s.ch.frameAt.map (· + (s.bank s.kept.active).period + 4096)

/-- A follower without a word for the next frame stops firing windows at the boundary, and waits for the word up to its limit
(R507). -/
def State.frameMissed (s : State) : State :=
  let t := s.stopped
  { t with seq := { t.seq with run := 1, first := s.frameLimit } }

/-- The frame boundary (R208): the frame in progress ends, the sequence increments, what waits for a boundary comes into
force, and the latched frame starts; or the sequencer stops (R209, R211, R216, R249), in a follower where no frame-start
word has named a next frame. -/
def execFrameBoundary (s : State) : Out :=
  if !s.inFrame || s.tb.tick < s.seq.bound || (s.seq.run = 1 && s.seq.latch.isEmpty && !s.follower) then .next s else
  let k := s.kept.frame
  let s := (s.endFrame false).endFrameGroups
  let s := s.perfReport k
  let next := (s.seq.latch.head?.map (·.seq)).getD (wrap 32 (k + 1))
  let s : State := { s with kept := { s.kept with frame := next } }
  let s := s.boundary
  if s.groupBad then .fault (.hostError "REJ_GROUP_MIN above REJ_GROUP_SHOTS")
  else if s.seq.run = 1 && s.seq.latch.isEmpty && s.ch.frameAt.isSome then .next s.frameMissed
  else if s.seq.run = 2 || s.seq.latch.isEmpty then .next s.stopped
  else
    .next s.startFrame.engineFrame

/-- The first latched frame that has not been read ahead: the one after the frame being read, where that is latched itself, else
the first. -/
def Seq.unread (q : Seq) : Option Latch :=
  let after := q.latch.dropWhile (fun l => !(l.seq == q.rdFrame && l.start == q.rdStart))
  if after.isEmpty then q.latch.head? else (after.drop 1).head?

/-- The next entry to be read: its bank, number, frame, start tick, rate scale, run decision and accumulator; the latched
frame follows the last entry of the frame before it (R210). -/
def State.nextEntry (s : State) : Option (Nat × Nat × Nat × Nat × Nat × Bool × Nat) :=
  let q := s.seq
  if q.run = 0 || s.follower then none
  else if q.rdNext < (s.bank q.rdBank).entries then some (q.rdBank, q.rdNext, q.rdFrame, q.rdStart, q.rdS, q.rdRun, q.rdAcc)
  else match q.unread with
    | some l => if (s.bank l.bank).entries = 0 then none else some (l.bank, 0, l.seq, l.start, l.s, l.run, 0)
    | none => none

/-- Entry x follows the one read before it by at least 1,600 tk, within a frame and across a boundary (R220). -/
def State.spaced (s : State) (x : Shot) : Bool := s.seq.rdFire.all (fun f => decide (f + 1600 ≤ x.fire))

/-- With shot x no more shots are in flight than its bank's limit (R224). -/
def State.flightOk (s : State) (bank : Nat) (x : Shot) : Bool :=
  (s.seq.shots.filter (fun y => decide (x.fire < y.winEnd))).length + (if x.win = 0 then 0 else 1) ≤ (s.bank bank).limit

/-- The sequencer reads an entry ahead (R118, R212): it drops it or keeps it (R245), announces its window, passes its fire
tick and set-point to the engine (R213), and on a chain queues its shot word (R503). An entry that holds a host error of the
chapter has an unpredictable result from here on (R474, R475). -/
def execScheduleReadAhead (s : State) : Out :=
  match s.nextEntry with
  | none => .next s
  | some (bank, i, frame, start, sc, run, acc) =>
    let x := (s.bank bank).shot i frame start sc run
    if !(s.bank bank).entryOk i then .fault (.hostError "schedule entry")
    else if !s.spaced x then .fault (.hostError "entries closer than 1,600 tk") else
    let a := if x.diag then acc else acc + sc
    let runs := x.diag || 256 ≤ a
    let s := { s with
      seq := { s.seq with rdBank := bank, rdNext := i + 1, rdFrame := frame, rdStart := start, rdS := sc, rdRun := run
                          rdFire := some x.fire
                          rdAcc := if x.diag then acc else if runs then a - 256 else a }
      mc := { s.mc with marks := if s.works 88 then s.mc.marks ++ [(x.fire, x.mirror)] else [] } }
    if !runs then
      .next ((s.setFrame frame (fun f => { f with dropped := f.dropped + 1 })).countC 0x24 0 1)
    else if !s.flightOk bank x then .fault (.hostError "shots in flight above the limit")
    else
      let s := { s with seq := { s.seq with shots := s.seq.shots ++ [{ x with readAt := s.tb.tick }] } }
      let dark := if !x.emit then 1 else if s.seq.inhibit then 4 else if (s.string x.string).1 = 3 then 3 else 0
      .next (if run then s.queueWord 1 (shotWord x dark) (x.fire - 3840) else s)

/-! ### Blanking, transfer, firing -/

/-- The shot that fires next. -/
def State.nextShot (s : State) : Option Shot := s.seq.shots.find? (fun x => !x.fired)

/-- The shot's entry fires or runs dark as things stand: its frame runs in RUN and the device is in RUN (R214, R217). -/
def State.live (s : State) (x : Shot) : Bool := x.run && !x.gone && s.running

/-- The dark cause of a shot, but for heat: the first that applies (R236, R242, R243). A follower takes it from the shot
word (R505). -/
def State.darkCause (s : State) (x : Shot) : Nat :=
  if s.follower then x.dark
  else if !x.emit && x.proof.isNone then 1
  else if x.proof.isSome && !s.live x then 5
  else if s.seq.inhibit || x.inhibited then 4
  else if x.wasOff.getD ((s.string x.string).1 == 3) then 3
  else 0

/-- Blanking begins for the next shot: a pending proof takes the place of a diagnose entry (R233), the applied pattern is
formed (R222, R231, R232), the thresholds are loaded (R228) and the heat check is made, which counts where no other dark
cause applies (R239, R242); a follower makes none (R505). A proof goes on to its next emitter. -/
def State.blank (s : State) (x : Shot) : State :=
  if x.blanked then s else
  let x : Shot := match x.diag && !s.follower, s.nextProof with
    | true, some (k, j) => { x with proof := some j, string := k, applied := 65535 - 2 ^ j, a := 1, win := 0 }
    | _, _ =>
      let ap := x.mask ||| s.forced x.string
      { x with applied := ap, a := ((inSeries ap).filter (fun j => s.health x.string j ≠ 2)).length }
  let s := match x.proof with
    | some j => { s with seq := { s.seq with proofAt := some (x.string, j + 1) } }
    | none => s
  let vf := s.cur SHOT_VF_MV x.string
  let v0 := s.cur SHOT_V0_MV x.string
  let e := x.pulses * s.heatOf x.pulseWidth
  let limit := s.val SHOT_HEAT_LIMIT_NJ
  let hot : Bool := x.proof.isNone && limit ≠ 0 &&
    !s.follower && (inSeries x.applied).any (fun j => decide (limit < tget 0 s.seq.heat (emKey x.string j) + e))
  s.setShot x.fire (fun _ => { x with
    blanked := true, hot := hot
    vlo := (2 * x.a - 1) * vf + 2 * v0 - (if x.a = 0 then vf else 0), vhi := (2 * x.a + 1) * vf + 2 * v0 })

/-- The last sub-pulse has fallen: blanking begins for the next shot (R223). -/
def execBlankingStart (s : State) : Out :=
  match s.nextShot with
  | some x => .next (s.blank x)
  | none => .next s

/-- The shot emits; only the conductor fires (R490). -/
def State.emits (s : State) (x : Shot) : Bool := s.enum.cond && s.live x && s.darkCause x == 0 && !x.hot

/-- Period of EMS_CLK in ns (SHOT_EMS_CLK). -/
def State.emsPeriod (s : State) : Nat := 10 * 2 ^ s.val SHOT_EMS_CLK

/-- The tick of the first EMS_CLK edge of the transfer for a shot: the transfer, of 25 periods, ends SHOT_EMS_SETTLE_NS before the
fire tick, or earlier by what its first edge has to a tick (R221, R222). -/
def State.emsFirst (s : State) (fire : Nat) : Int :=
  (fire : Int) - ceilDiv (8 * (25 * s.emsPeriod + s.val SHOT_EMS_SETTLE_NS)) 5

/-- EMS_CLK at a time in ns after the first rising edge of a transfer: high for the first half of each of 24 periods (R221). -/
def Ems.clk (e : Ems) (t : Rat) : Bool :=
  let p : Rat := (e.period : Nat)
  decide (0 ≤ t) && decide (t < 24 * p) && decide (t - (t / p).floor * p < p / 2)

/-- EMS_DAT at such a time: bit 23 from half a period before the first rising edge, the next lower one from each falling edge
on; not stated outside the 24 bits (R221). -/
def Ems.dat (e : Ems) (t : Rat) : Option Bool :=
  let p : Rat := (e.period : Nat)
  if t < -(p / 2) || 24 * p - p / 2 ≤ t then none
  else some (e.word >>> (23 - ((t + p / 2) / p).floor.toNat) % 2 == 1)

/-- EMS_LAT at such a time: high for the period that begins one period after the 24th rising edge (R221). -/
def Ems.lat (e : Ems) (t : Rat) : Bool :=
  let p : Rat := (e.period : Nat)
  decide (24 * p ≤ t) && decide (t < 25 * p)

/-- The pattern word of a shot that emits is shifted out, unless string and pattern are those of the emitting shot before it
(R221, R222). -/
def State.transfer (s : State) (x : Shot) : State :=
  let s := if x.shifted || s.seq.lastPat = some (x.string, x.applied) then s
    else
      let e : Ems := { word := packNat [(x.applied, 16), (x.string, 3)], first := s.emsFirst x.fire, period := s.emsPeriod }
      { s with seq := { s.seq with ems := some e } }
  s.setShot x.fire (fun y => { y with shifted := true })

/-- A bypass pattern word is shifted out during the blanking interval (R221 to R223). -/
def execPatternTransfer (s : State) : Out :=
  match s.nextShot with
  | some x => .next (if x.blanked && !x.shifted && s.emits x then s.transfer x else s)
  | none => .next s

/-- The channels that open a window for a shot, those of the receive set that were told of it 3,200 tk before: the front end
has settled, the hold of R161 is over, no range change runs (R115, R118, R119, R161, R560). -/
def State.openers (s : State) (x : Shot) : BitVec 512 :=
  maskOf (fun c => decide (x.readAt + 3200 ≤ x.fire) && x.rset.getLsbD c && s.willOpen c && (s.cell c).settled &&
    !(s.cell c).blind && !(s.cell c).changing)

/-- A shot with the windows of some channels open: these, those of them that contribute, the flagged channels, and those of the
receive set that do not listen. A quarantine found since the last window is in effect where one opens (R15, R16, R195, R444). -/
def State.withWindows (s : State) (x : Shot) (opened : BitVec 512) : Shot :=
  let now (c : Nat) : Bool := opened.getLsbD c
  { x with opened := opened, part := maskOf (fun c => now c && !s.silent c)
           flag := maskOf (fun c => if now c then (s.cell c).flagged else (s.cell c).tag)
           deaf := maskOf (fun c => x.rset.getLsbD c && (!s.willOpen c || (if now c then s.silent c else s.muted c))) }

/-- The accumulating bank of block b is complete: it has accumulated, and every group in it is closed (R266). -/
def Block.complete (b : Block) : Bool :=
  b.acc.any (fun g => g.acc ≠ 0) && b.acc.all (fun g => g.acc == 0 || g.closed)

/-- The banks of block b swap, if its accumulating bank is complete and the readout bank is empty (R21, R266). -/
def Block.swap (b : Block) : Block :=
  if b.complete && b.rd.isEmpty then { b with rd := b.acc.filter (fun g => g.acc ≠ 0), acc := b.acc.filter (fun g => g.acc == 0) }
  else b

/-- The histogram entry would be a member of a group whose members have another window length or code (host error of
chapter 07). -/
def State.histClash (s : State) (x : Shot) : Bool :=
  x.hist && (List.range 512).any (fun c => x.part.getLsbD c && (s.blk (c / 16)).acc.any (fun g =>
    g.ch == c && !g.ending && g.profNo == x.prof && (g.win ≠ x.win || g.code ≠ x.code)))

/-- A histogram entry on channel c (R263 to R265): a member of its group, accumulated or skipped; where the channel does not
listen it is a member that is neither (R15; DESIGN CHOICE, log 56). A group of a channel whose
group before it in the same bank is closed, while another channel's is not, joins that bank, which is not complete before it
closes (DESIGN CHOICE, log 56). -/
def State.histEntry (s : State) (x : Shot) (c : Nat) : State :=
  let hears := x.part.getLsbD c
  let s := s.setBlk (c / 16) Block.swap
  let b := s.blk (c / 16)
  let waiting := b.complete && !b.rd.isEmpty
  let busy := (b.acc ++ b.rd).any (fun g => g.ch == c && decide (s.tb.tick < g.endAt))
  let end_ (g : Grp) : Grp := if g.ch = c && !g.ending && g.profNo ≠ x.prof then { g with ending := true, early := true } else g
  let acc := b.acc.map end_
  let has := acc.any (fun g => g.ch == c && !g.ending)
  let w := (wd x.cap 2).fld 9 7
  let k := (wd x.cap 2).fld 6 0
  let cell := s.cell c
  let new : Grp := { ch := c, profNo := x.prof, prof := x.cap, win := x.win, code := x.code, frame := x.frame, last := x.fire
                     firstIdx := x.idx, lastIdx := x.idx, w := w, low := cell.low }
  let acc := if has then acc else acc ++ [new]
  let join (g : Grp) : Grp :=
    if g.ch ≠ c || g.ending then g else
    let g := { g with members := g.members + 1, last := x.fire, lastIdx := x.idx, frame := x.frame
                      thr := g.thr || decide (x.s < 256), ending := decide (k ≤ g.members + 1) }
    let g := { g with heard := g.heard || hears }
    if !hears then g
    else if waiting || busy then { g with skip := g.skip + 1 }
    else
      let nb := min 3200 (ceilDiv x.win w)
      let g := if g.acc = 0 then { g with nb := nb, bins := List.replicate nb 0, base := cell.baseOf } else g
      { g with acc := g.acc + 1, opens := g.opens ++ [(x.fire, 0)], endAt := x.winEnd }
  let s := s.setBlk (c / 16) (fun b => { b with acc := acc.map join })
  if hears && (waiting || busy) then (s.countFrame x.frame 22 1).countB (c / 16) 0x0C 0 (some (c % 16)) 1 else s

/-- The ladder step in force at a fire tick (R286). -/
def Ladder.at_ (l : Ladder) (fire : Nat) : Nat := ((l.hist.find? (fun e => decide (e.1 + 6400 ≤ fire))).map (·.2)).getD 0

/-- The windows that a shot has been given open at its fire tick: its gap ends, a quarantine takes effect, a fade goes on (R16, R118, R138,
R161, R165, R173). -/
def State.openWindows (s : State) (x : Shot) : State :=
  let s := s.setShot x.fire (fun _ => x)
  let s := { s with cells := tmap {} s.cells (fun c k =>
    if !x.rset.getLsbD c then k else
    let k := { k with j := if k.old.isSome then k.j + 1 else k.j }
    if x.opened.getLsbD c then { k with gapUsed := false, mute := k.silenced, tag := k.flagged } else k) }
  if x.hist then (List.range 512).foldl (fun s c => if x.rset.getLsbD c && s.blockUp (c / 16) then s.histEntry x c else s) s else s

/-- What an emitted shot adds: heat (R238), ageing counts and their warning (R240, R241). -/
def State.emitted (s : State) (x : Shot) : State :=
  let e := x.pulses * s.heatOf x.pulseWidth
  let warn := s.val SHOT_AGE_WARN * 10000000
  (inSeries x.applied).foldl (fun s j =>
    let k := emKey x.string j
    let n := tget 0 s.wear.pulses k
    let s := { s with
      seq := { s.seq with heat := tmod 0 s.seq.heat k (· + e) }
      wear := { s.wear with pulses := tset 0 s.wear.pulses k (wrap 48 (n + x.pulses))
                            onTime := tmod 0 s.wear.onTime k (fun v => wrap 48 (v + x.pulses * x.pulseWidth)) } }
    if warn ≠ 0 && n / warn < (n + x.pulses) / warn then
      s.chipEvent 0x0603 [x.string + 16 * j, (n + x.pulses) % 2 ^ 32, (n + x.pulses) / 2 ^ 32 % 65536]
    else s) s

/-- A proof shot that runs dark is repeated at the next diagnose entry, while its proof is pending (R236). -/
def State.repeatProof (s : State) (x : Shot) : State :=
  match x.proof with
  | some j => if (s.string x.string).1 = 2 then { s with seq := { s.seq with proofAt := some (x.string, j) } } else s
  | none => s

/-- A follower opens no window without a frame-start word, unaligned, or after an enumeration fault (R495, R507, R509). -/
def State.chainListens (s : State) : Bool := !s.enum.fault && (!s.follower || (s.ch.aligned && !s.ch.noFrame))

/-- The blanking interval before an emitting shot is not shorter than the gap of R222: from the fall of the last sub-pulse fired
to its own rise; a diagnose entry and its neighbours change string and pattern (R233). -/
def State.gapOk (s : State) (x : Shot) : Bool :=
  match s.seq.shots.reverse.find? (fun y => y.fired && y.dark == 0) with
  | none => true
  | some y =>
    let change := x.diag || y.diag || (y.string, y.applied) ≠ (x.string, x.applied)
    let gap := if change then max (s.val SHOT_MIN_GAP_NS) (25 * s.emsPeriod + s.val SHOT_EMS_SETTLE_NS) else s.val SHOT_MIN_GAP_NS
    y.lastFall * 10 + gap * 256 ≤ (16 * x.fire + x.edge) * 10

/-- The firing output that is high at an instant in 1/16 tk: of the last shot that emitted, in RUN (R218, R219, R223). -/
def State.emf (s : State) (at16 : Nat) : Option Nat :=
  if s.running then (s.seq.subs.find? (fun e => decide (e.2.1 ≤ at16) && decide (at16 < e.2.2))).map (·.1) else none

/-- The next shot comes to its fire tick: it fires, runs dark, or does neither outside RUN (R214, R217, R218, R232, R236,
R242). Its time is that of its first edge (R105). -/
def execShotFire (s : State) : Out :=
  match s.nextShot with
  | none => .next s
  | some x =>
    if s.tb.tick < x.fire then .next s else
    let s := s.blank x
    let x := (s.shot x.fire).getD x
    if !s.live x && x.proof.isNone then
      .next { s with seq := { s.seq with shots := s.seq.shots.filter (fun y => y.fire ≠ x.fire) } }
    else
      let dark := if s.darkCause x ≠ 0 then s.darkCause x else if x.hot then 2 else 0
      if dark = 0 && s.emits x && !s.gapOk x then .fault (.hostError "blanking interval shorter than the gap") else
      let s := if dark = 0 && s.emits x then s.transfer x else s
      let s := s.setShot x.fire (fun y => { y with
        fired := true, dark := dark, recorded := s.follower
        time := timeOf s.tb.map (256 * x.fire + 16 * x.edge : Nat) })
      let s := if dark = 0 then s else s.repeatProof x
      let s := (s.setFrame x.frame (fun f => { f with ran := f.ran + 1 })).countC 0x23 dark 1
      let s := if dark = 0 then s else s.countFrame x.frame (9 + dark) 1
      let s := if dark = 0 && !s.follower then
          let s := s.emitted x
          { s with seq := { s.seq with subs := x.subPulses, pulses := s.seq.pulses + x.pulses
                                       lastPat := some (x.string, x.applied) } }
        else s
      match s.shot x.fire with
      | some y =>
        let y := { y with cap := s.profileNow y.prof, lad := s.lad.at_ y.fire }
        if x.proof.isNone && x.win ≠ 0 && s.live x && s.chainListens then
          let y := s.withWindows y (s.openers y)
          if s.histClash y then .fault (.hostError "members of one group with different window lengths or codes")
          else .next (s.openWindows y)
        else .next (s.setShot x.fire (fun _ => s.withWindows y 0))
      | none => .next s

/-! ### Diagnosis and proofs -/

/-- The cause that a strobe gives (R229): 0 pass, 1 over-current, 2 no current, 3 low voltage, 4 high voltage; sns in mV
at EMI_SNS, emv in mV at EMVk, against the thresholds loaded for the shot (R228). -/
def State.strobe (s : State) (x : Shot) (sns emv : Rat) : Nat :=
  if (s.val SHOT_IMAX_MV : Nat) < sns then 1
  else if sns < (s.val SHOT_IOPEN_MV : Nat) then 2
  else if emv * 2 < (x.vlo : Nat) then 3
  else if (x.vhi : Nat) < emv * 2 then 4
  else 0

/-- The first cause in the order of R229. -/
def firstCause (a b : Nat) : Nat := if a = 0 then b else if b = 0 then a else min a b

/-- A SHOT_PROOF_RUN answers when each of its strings has finished or lost its proof (R251). -/
def State.answerProofs (s : State) : State :=
  s.seq.proofRun.foldl (fun (s : State) (e : Nat × Nat × Nat) =>
    if e.2.1 &&& s.proofs = 0 then
      { s with seq := { s.seq with proofRun := s.seq.proofRun.erase e } }.respond e.1 0 [pack [(e.2.2, 8), (e.2.1 - e.2.2, 8)]]
    else s) s

/-- The last proof shot of string k has been evaluated (R235, R237). -/
def State.endProof (s : State) (k : Nat) : State :=
  let located := s.seq.proofChg >>> k % 2 == 1
  let res (a : Nat) : Nat := packNat ((List.range 8).map (fun j => (tget 0 s.p.proof (emKey k (a + j)), 3)))
  let s := { s with seq := { s.seq.dropProof k with
    proofRun := s.seq.proofRun.map (fun (e : Nat × Nat × Nat) => if e.2.1 >>> k % 2 = 1 then (e.1, e.2.1, e.2.2 ||| 2 ^ k) else e) } }
  let s := if located then s.setString k (0, 0, 0) else s.disable k 2
  let s := s.chipEvent 0x0601 [k + 8 * b2n located, res 0, res 8]
  (s.allForced k).answerProofs

/-- The proof of string k ends when it has begun, has no emitter left to fire, and no shot of it is still to be judged (R232,
R235). -/
def State.settleProof (s : State) (k : Nat) : State :=
  if (s.string k).1 = 2 && s.seq.proofAt.any (fun e => e.1 == k && e.2 ≠ 0) && (s.proofLeft k).isEmpty &&
    !s.seq.shots.any (fun x => x.proof.isSome && x.string == k && x.blanked && (!x.fired || (x.dark == 0 && x.judged == 0)))
  then s.endProof k else s

/-- A proof shot of emitter j of string k has been judged (R234, R235): over-current disables the string at once (R230), and so
does the last of its 16 emitters that comes to be forced bypassed (R237). -/
def State.judgeProof (s : State) (k j cause : Nat) : State :=
  if cause = 1 then
    ((s.disable k 1).chipEvent 0x0602 [k]).answerProofs
  else
    let res := if cause = 0 then 1 else cause
    let health := if res = 1 then 0 else if res = 3 then 2 else 1
    let chg := s.health k j ≠ health
    let s := s.hwP (fun p => { p with proof := tset 0 p.proof (emKey k j) res, health := tset 0 p.health (emKey k j) health })
    if (s.string k).1 ≠ 2 then s
    else
      let s := { s with seq := { s.seq with proofChg := if chg then s.seq.proofChg ||| 2 ^ k else s.seq.proofChg } }
      let last := s.proofFrom k (j + 1)
      if last.isEmpty then s.endProof k else (s.allForced k).answerProofs

/-- An emitting shot of string k has been judged (R229, R230). -/
def State.judgeShot (s : State) (k cause : Nat) : State :=
  let (st, why, n) := s.string k
  if st = 3 then s
  else if cause = 0 then s.setString k (if st = 1 then 0 else st, why, 0)
  else if cause = 1 then ((s.disable k 1).chipEvent 0x0602 [k]).answerProofs
  else
    let s := s.setString k (if st = 0 then 1 else st, why, min 15 (n + 1))
    if s.val SHOT_DIAG_CONFIRM ≤ n + 1 && st ≠ 2 then s.pendProof k else s

/-- The instants, in 1/16 tk, at which a shot's sub-pulses are strobed: rise, half the width rounded down, and SHOT_DIAG_DELAY
(R227). -/
def State.strobes (s : State) (x : Shot) : List Nat :=
  x.subPulses.map (fun e => e.2.1 + (e.2.2 - e.2.1) / 2 + s.val SHOT_DIAG_DELAY)

/-- The diagnosis comparators are strobed once per emitting sub-pulse, in the tick in which that one's instant falls or after it
(R227, R229): with the last one the shot is judged. -/
def execDiagnosisStrobe (sns emv : Rat) (s : State) : Out :=
  match s.seq.shots.reverse.find? (fun x => x.fired && x.dark == 0) with
  | none => .next s
  | some x =>
    if s.follower || x.pulses ≤ x.judged || 16 * (s.tb.tick + 1) ≤ (s.strobes x).getD x.judged 0 then .next s else
    let cause := firstCause x.cause (s.strobe x sns emv)
    let s := s.setShot x.fire (fun y => { y with judged := y.judged + 1, cause := cause })
    if x.judged + 1 < x.pulses then .next s
    else match x.proof with
      | some j => .next (s.judgeProof x.string j cause)
      | none => .next (s.judgeShot x.string cause)

/-- Every 1,600 tk each heat estimate decays (R238). -/
def execHeatDecay (s : State) : Out :=
  let sh := s.val SHOT_HEAT_SHIFT
  .next { s with seq := { s.seq with
    heat := tmap 0 s.seq.heat (fun _ h => h - h / 2 ^ sh) } }

/-! ### Records -/

/-- Shots that are placed and recorded, and whose detections can no longer share in a candidate, leave the list. -/
def State.pruneShots (s : State) : State :=
  { s with seq := { s.seq with shots := s.seq.shots.dropWhile (fun x =>
      x.fired && x.placed && x.recorded && decide (x.searchEnd + 4096 < s.tb.tick)) } }

/-- The collector enqueues the shot record of the first shot in fire order that has none (R441), with the time of its edge
(R105) and the angles of R353, once the engine has returned them. -/
def execShotRecordEnqueue (s : State) : Out :=
  match s.seq.shots.find? (fun x => x.fired && !x.recorded) with
  | none => .next s
  | some x =>
    if x.angles.isNone then .next s else
    let s := s.enqueueAll 2 (fun _ => true) (fun _ => s.shotRecord x)
    .next (s.setShot x.fire (fun y => { y with recorded := true })).pruneShots

/-- A frame record is enqueued once the frame is over and every record of its shots is placed (R212, R445). -/
def execFrameRecordEnqueue (s : State) : Out :=
  match s.seq.frames with
  | [] => .next s
  | f :: rest =>
    if !f.ovr || s.seq.shots.any (fun x => x.frame == f.seq && !(x.fired && x.placed && x.recorded)) then .next s
    else
      let s := s.enqueueAll 7 (fun _ => true) (fun _ => s.frameRecord f)
      .next { s with seq := { s.seq with frames := rest } }

/-! ### 06xxh commands -/

/-- SHOT_STATUS_GET. -/
def execShotStatusGet (m : Fin 64) (s : State) : Out :=
  s.skeic 0x0601 m fun s =>
    let n := s.tb.tick
    let fly := (s.seq.shots.filter (fun x => x.fired && x.fire ≤ n && n < x.winEnd)).length
    let sc := ((s.seq.frames.find? (fun f => f.seq == s.kept.frame && !f.ovr)).map (·.s)).getD 256
    .done s [pack [(s.seq.run, 2), (s.kept.active, 1), (b2n s.kept.armed, 1), (min 4 fly, 3),
      (b2n (!(s.bank s.kept.active).image), 1), (sc, 9)], w32 s.kept.frame, pack [(s.seq.rdNext, 18)],
      pack [(s.stringBits, 16)]]

/-- SHOT_PARAM_WRITE: W0 [7:0] index, [10:8] first string, [14:11] count (R247). -/
def execShotParamWrite (m : Fin 64) (s : State) : Out :=
  s.skeic 0x0602 m fun s =>
    need ((s.pw m 0).fld 31 15 = 0) "reserved bits" <|
    match findPar 6 ((s.pw m 0).fld 7 0) with
    | none => .err "parameter index"
    | some p =>
      let first := (s.pw m 0).fld 10 8
      let n := (s.pw m 0).fld 14 11
      need (p.ok (s.pw m 1).toNat) "parameter value" <|
      let t := if p.insts = 1 then s.writePar p (s.pw m 1).toNat 0 else s.writePars p (s.pw m 1).toNat first n
      need (p.insts = 1 || (n ≤ 8 && first + n ≤ 8)) "string range" <|
      need (decide (t.work SHOT_IOPEN_MV 0 < t.work SHOT_IMAX_MV 0)) "SHOT_IMAX_MV not above SHOT_IOPEN_MV" <|
      .commit t (recordBytes 1) []

/-- SHOT_PARAM_READ. -/
def execShotParamRead (m : Fin 64) (s : State) : Out :=
  s.skeic 0x0603 m fun s =>
    need ((s.pw m 0).fld 31 15 = 0) "reserved bits" <|
    match findPar 6 ((s.pw m 0).fld 7 0) with
    | none => .err "parameter index"
    | some p => .done s [s.pw m 0, w32 (s.work p (if p.insts = 1 then 0 else (s.pw m 0).fld 10 8))]

/-- Words of each section at most (R203). -/
def sectionWords (sec : Nat) : Nat := [8, 786432, 16384, 256, 2048].getD sec 0

/-- An image check is being computed: later changes of the subject wait (R471). -/
def State.checking (s : State) : Bool := s.seq.check.isSome

/-- SHOT_BANK_WRITE: words of one section of the inactive bank, which is disarmed first (R248). A reserved bit that is not
zero is a host error (R6). -/
def execShotBankWrite (m : Fin 64) (s : State) : Out :=
  s.skeic 0x0604 m fun s =>
    let sec := (s.pw m 0).fld 2 0
    let first := (s.pw m 0).fld 31 8
    let n := (s.pw m 1).fld 9 0
    need ((s.pw m 0).fld 7 3 = 0 && (s.pw m 1).fld 31 10 = 0 && sec ≤ 4 && n ≤ 960 && first + n ≤ sectionWords sec) "field" <|
    need ((List.range n).all (fun i => bankReserved sec (first + i) (s.pw m (2 + i)))) "reserved bits of a bank image" <|
    if s.checking then .wait else
    let s := { s with kept := { s.kept with armed := s.kept.armed && s.swapping } }
    let ws := (List.range n).map (fun i => (i, s.pw m (2 + i)))
    .done (s.setBank s.inactive (fun b => { b with
      w := ws.foldl (fun t e => tset 0 t (sec * 2 ^ 20 + first + e.1) e.2) b.w })) []

/-- SHOT_BANK_ARM: the image check of the inactive bank is computed (R249). -/
def execShotBankArm (m : Fin 64) (s : State) : Out :=
  s.skeic 0x0605 m fun s => if s.checking then .wait else .run { s with seq := { s.seq with check := some (m.val, s.inactive) } }

/-- The image check is computed: the bank that was inactive when the command was applied is armed if it equals W7 (R204, R249);
where that bank has become the active one since, nothing is armed (DESIGN CHOICE, log 66). -/
def execBankImageCheckComplete (s : State) : Out :=
  match s.seq.check with
  | none => .next s
  | some (m, b) =>
    let k := s.bank b
    let ok : Bool := k.check == (k.at_ 0 7).toNat
    let arm := ok && b ≠ s.kept.active
    let s := { s with seq := { s.seq with check := none, disarmAt := s.seq.disarmAt && !arm }
                      kept := { s.kept with armed := s.kept.armed || arm } }
    let s := if ok then s.setBank b (fun x => { x with image := true }) else s
    .next (s.respond m 0 [pack [(b2n (!ok), 2)], w32 k.check])

/-- SHOT_BANK_DISARM: the inactive bank is disarmed, after the latch tick at the following boundary (R249). -/
def execShotBankDisarm (m : Fin 64) (s : State) : Out :=
  s.skeic 0x0606 m fun s =>
    if s.checking then .wait
    else if !s.seq.latch.isEmpty || (s.seq.run = 2 && decide (s.seq.bound ≤ s.tb.tick + 4096)) then
      .done { s with seq := { s.seq with disarmAt := true } } []
    else .done { s with kept := { s.kept with armed := false } } []

/-- SHOT_SEQ_START (R215): changes nothing while running, in PARK, before lock, or with nothing to run, and in a device that
is not the conductor (R490). It waits for the end of CH_SYNC_MEASURE, which needs a stopped sequencer (R508; DESIGN CHOICE,
log 87). -/
def execShotSeqStart (m : Fin 64) (s : State) : Out :=
  s.skeic 0x0607 m fun s =>
    need ((s.pw m 0).fld 31 1 = 0) "reserved bits" <|
    if s.checking || s.ch.measuring.isSome then .wait
    else if s.seq.run ≠ 0 || !s.dom 90 || s.pwr.settling.getLsbD 90 || !s.tb.locked || !s.enum.cond ||
      (!s.kept.armed && !(s.bank s.kept.active).image) then .done s []
    else
      let soon := s.tb.tick + 4096
      let named := (s.pw m 1).toNat + 2 ^ 32 * (s.pw m 2).toNat
      let f := if (s.pw m 0).bit 0 then max soon named else soon
      let s := { s with seq := { s.seq with run := 1, first := some f, bound := f, rdNext := 2 ^ 18, rdBank := 0, rdFire := none
                                            rdStart := 0, rdFrame := 0 } }
      need (decide (soon < f) || (s.bank s.bankNext).headerOk) "bank header" <|
      .done (if f ≤ soon then s.latchFrame s.kept.frame f else s) []

/-- SHOT_SEQ_STOP (R216): at the next boundary, the start of a first frame being one (DEDUCED, log 19), or at once with the frame
in progress truncated. -/
def execShotSeqStop (m : Fin 64) (s : State) : Out :=
  s.skeic 0x0608 m fun s =>
    need ((s.pw m 0).fld 31 1 = 0) "reserved bits" <|
    if s.checking then .wait
    else if s.seq.run = 0 then .done s []
    else if (s.pw m 0).bit 0 then .done s.truncate []
    else
      let here (k : Nat) : Bool := s.inFrame && k == s.kept.frame
      .later { s with
        seq := { s.seq with run := 2, stopMbx := s.seq.stopMbx ++ [m.val], latch := []
                            rdNext := if here s.seq.rdFrame then s.seq.rdNext else 2 ^ 18
                            frames := s.seq.frames.filter (fun f => f.ovr || here f.seq)
                            shots := s.seq.shots.filter (fun x => x.fired || here x.frame) }
        ch := { s.ch with words := s.ch.words.filter (fun (w : Nat × Nat × Nat) =>
          decide (w.1 ≠ 2) && (decide (w.1 ≠ 1) || (s.inFrame && decide (w.2.2 + 3840 < s.seq.bound)))) } }

/-- SHOT_EMITTER_GET. -/
def execShotEmitterGet (m : Fin 64) (s : State) : Out :=
  s.skeic 0x0609 m fun s =>
    need ((s.pw m 0).fld 31 3 = 0) "reserved bits" <|
    let k := (s.pw m 0).fld 2 0
    let (st, why, n) := s.string k
    .done s (pack [(st, 2), (why, 2), (n, 4), (0, 8), (s.forced k, 16)] :: (List.range 16).flatMap (fun j =>
      let e := emKey k j
      let p := tget 0 s.wear.pulses e
      let o := tget 0 s.wear.onTime e
      [pack [(s.health k j, 2), (tget 0 s.p.proof e, 3), (0, 3), (sat 24 (tget 0 s.seq.heat e), 24)], w32 p,
        pack [(p / 2 ^ 32, 16)], w32 o, pack [(o / 2 ^ 32, 16)], 0]))

/-- SHOT_EMITTER_SET (R231, R237, R250). A string disabled because all its emitters were forced returns to state 0 once
action 0 has returned one of them; one that was disabled for another cause keeps it until action 2 (DEDUCED, log 67). -/
def execShotEmitterSet (m : Fin 64) (s : State) : Out :=
  s.skeic 0x060A m fun s =>
    let k := (s.pw m 0).fld 2 0
    let act := (s.pw m 0).fld 4 3
    let mask := (s.pw m 0).fld 31 16
    need ((s.pw m 0).fld 15 5 = 0 && act ≠ 3) "field" <|
    if s.checking then .wait
    else if act = 2 then
      .commit { s with p := { s.p with enable := if (s.string k).1 = 3 then s.p.enable ||| 2 ^ k else s.p.enable } }
        (recordBytes 8) []
    else
      let h := if act = 0 then 0 else 3
      let health := (List.range 16).foldl (fun t j => if mask >>> j % 2 = 1 then tset 0 t (emKey k j) h else t) s.p.health
      let s := { s with p := { s.p with health := health } }
      let kept := (s.keepBlanked k).seq.shots
      let (st, why, n) := s.string k
      let str : Nat × Nat × Nat := if s.forced k = 65535 then (3, if st = 3 && why ≠ 0 then why else 3, n)
        else if st = 3 && why = 3 then (0, 0, 0) else (st, why, n)
      let seq := if s.forced k = 65535 then s.seq.dropProof k else s.seq
      let seq := if (str.1 = 3) = (st = 3) then seq else { seq with shots := kept }
      let s := { s with p := { s.p with strings := tset (0, 0, 0) s.p.strings k str }, seq := seq }
      .commit (s.settleProof k).answerProofs (recordBytes 8) []

/-- SHOT_PROOF_RUN: a proof becomes pending for each named string that is not disabled (R251). -/
def execShotProofRun (m : Fin 64) (s : State) : Out :=
  s.skeic 0x060B m fun s =>
    need ((s.pw m 0).fld 31 8 = 0) "reserved bits" <|
    if s.checking then .wait else
    let ks := (List.range 8).filter (fun k => (s.pw m 0).bit k && (s.string k).1 ≠ 3)
    let mask := (ks.map (2 ^ ·)).sum
    if mask = 0 then .done s [0]
    else
      let s := ks.foldl (fun s k => s.pendProof k) s
      .later { s with seq := { s.seq with proofRun := s.seq.proofRun ++ [(m.val, mask, 0)] } }

/-- After 1 s SHOT_PROOF_RUN responds with the proofs not run, which stay pending (R251). -/
def execProofRunTimeout (s : State) : Out :=
  match s.seq.proofRun with
  | [] => .next s
  | e :: rest =>
    .next ({ s with seq := { s.seq with proofRun := rest } }.respond e.1 0 [pack [(e.2.2, 8), (e.2.1 - e.2.2, 8)]])

end Sys2Proof.Machine
end

