-- ==== Sys2Proof/Machine/RegionOps.lean ====
section
/-! DEFINITION. What a block restart, a region restart and the safe state do to returns, segments, verdicts and the
calibration run; the look-back freeze (chapters 01, 07, 08, 15). -/
namespace Sys2Proof.Machine

/-! ### The calibration run (chapter 15) -/

/-- The last results of CAL_STATUS_GET W1. -/
def State.calResults (s : State) : Word := pack ((List.range 9).map (fun i => (tget 4 s.cal.res i, 3)))

/-- The calibration status of every channel of a region (R567); the housekeeping part has none. -/
def State.calStatus (s : State) (part st : Nat) : State :=
  if part < 8 then s.hwP (fun p => { p with calSt := (span (64 * part) 64).foldl (fun t c => tset 0 t c st) p.calSt }) else s

/-- The commit of a part's values is in progress. -/
def State.calCommitting (s : State) : Bool :=
  match s.jnl.txn with
  | some t => match t.waiter with
    | .calPart _ _ _ => true
    | _ => false
  | none => false

/-- The calibration run ends: named parts that have not run get result 4, CAL_RUN and CAL_ABORT respond (R559, R563,
R575), once the last values have been committed (R580). -/
def State.calEnd (s : State) : State :=
  match s.cal.run with
  | none => s
  | some r =>
    let res := r.left.foldl (fun t i => tset 4 t i 4) s.cal.res
    if s.calCommitting then { s with cal := { s.cal with run := some { r with left := [], part := none }, res := res } }
    else
      let s := { s with cal := { s.cal with run := none, res := res } }
      let s := s.respond r.mbx 0 [s.calResults, w32 s.cal.failed]
      r.aborts.foldl (fun s m => s.respond m 0 []) s

/-- The part in progress ends with a result; with no part left the run ends (R559). -/
def State.calPart (s : State) (res : Nat) : State :=
  match s.cal.run with
  | none => s
  | some r =>
    match r.part with
    | none => s
    | some p =>
      let run := { r with part := none, passA := none, passB := none }
      let s := { s with cal := { s.cal with run := some run, res := tset 4 s.cal.res p res } }
      if run.left.isEmpty then s.calEnd else s

/-- The run of region r is interrupted, result 3 (R562): its values stay, its channels get status 4 (R567). -/
def State.calInterrupt (s : State) (r : Nat) : State :=
  if (s.cal.run.bind (·.part)) = some r then ((s.calStatus r 4).chipEvent 0x0E01 [r, 3, 0]).calPart 3 else s

/-- The part in progress ends with a result and the channels of its region with a status, and the run with it: later parts
get result 4 (R562, R563). -/
def State.calBreak (s : State) (res st : Nat) : State :=
  match s.cal.run with
  | none => s
  | some r =>
    match r.part with
    | none => s.calEnd
    | some p =>
      let n := if st = 3 && p < 8 then 64 else 0
      let s := (s.calStatus p st).chipEvent 0x0E01 [p, res, n]
      ({ s with cal := { s.cal with
          res := tset 4 s.cal.res p res, failed := s.cal.failed + n
          run := some { r with part := none, passA := none, passB := none } } }).calEnd

/-- The whole run is ended by an abort, a transition or the safe state (R562). -/
def State.calStop (s : State) : State := s.calBreak 3 4

/-- A reset ends the run without a response: a region in progress is interrupted, with result 3 and status 4 (R562, R567); of the
results nothing else is left (class V). -/
def State.calReset (s : State) : State :=
  match s.cal.run.bind (·.part) with
  | some p => { s.calStatus p 4 with cal := { res := tset 4 [] p 3 } }
  | none => { s with cal := {} }

/-! ### The look-back freeze (R280, R281) -/

/-- Bytes of a segment as it is held: header and samples (R261, R262). -/
def Seg.bytes (g : Seg) : Nat := 16 + (if g.packing then 4 * ceilDiv g.smp.length 2 else 4 * ceilDiv (10 * g.smp.length) 32)

/-- Bytes of a segment ring: capacity less 401 MiB (R276). -/
def State.ringBytes (s : State) : Nat := s.memCfg.fld 18 14 * 2 ^ 30 - 401 * 2 ^ 20

/-- The newest segments of a ring, oldest first, that fit into n bytes. -/
def newest (ring : List Seg) (n : Nat) : List Seg :=
  (ring.reverse.foldl (fun (a : Nat × List Seg × Bool) g =>
    if a.2.2 || n < a.1 + g.bytes then (a.1, a.2.1, true) else (a.1 + g.bytes, g :: a.2.1, false)) (0, [], false)).2.1

/-- The segments that lie in the ring are protected but for the first n; those in the spill area lie in no ring. -/
def protectFrom : Nat → List Seg → List Seg
  | _, [] => []
  | n, g :: r =>
    if g.spill then { g with prot := false } :: protectFrom n r
    else { g with prot := n == 0 } :: protectFrom (n - 1) r

/-- The recorder becomes frozen: the newest seven eighths of each ring are protected (R280). -/
def State.freeze (s : State) : State :=
  let n := s.ringBytes * 7 / 8
  { s with look := { s.look with st := 2 }
           regions := tmap {} s.regions (fun _ g =>
             let own := g.ring.filter (fun x => !x.spill)
             { g with ring := protectFrom (own.length - (newest own n).length) g.ring }) }

/-- Nothing in the rings is protected any more (R283). -/
def State.unprotect (s : State) : State :=
  { s with regions := tmap {} s.regions (fun _ g => { g with ring := g.ring.map (fun x => { x with prot := false }) }) }

/-- A freeze trigger (R280, R281): it starts the post time in the live state, else it is counted. -/
def State.trigger (s : State) : State :=
  if s.look.st ≠ 0 then { s with look := { s.look with ignored := s.look.ignored + 1 } }
  else
    let s := { s with look := { s.look with st := 1, since := s.tb.tick } }
    if s.val CAP_LB_POST_MS = 0 then s.freeze else s

/-- An event that may freeze: 0 safety reaction, 1 region restart, 2 block restart, 3 ladder step 3 (R281). The
look-back parameters take effect at a trigger (R288). With domain 94 off, or not yet settled, there is no recorder (R75). -/
def State.freezeEvent (s : State) (bit : Nat) : State :=
  if !s.acts 94 then s else
  let s := s.force .freeze
  if s.val CAP_LB_TRIGGERS >>> bit % 2 = 1 then s.trigger else s

/-! ### Marking returns (R30, R325) -/

/-- A return of the engine that has not entered the collector is decided RETRACT with a cause: in the safe state whatever
was decided (R325), in a region restart unless it was retracted before (R30). -/
def Prov.mark (p : Prov) (cause : Nat) : Prov :=
  if p.col || p.sent then p
  else if cause = 6 || p.decided.isNone || p.decided = some 0 then { p with decided := some cause }
  else p

/-- Verdicts whose return has no record are final at their decision: counted (R320, R445). -/
def State.countVerdict (s : State) (p : Prov) (cause : Nat) : State :=
  let w := min 5 cause + 19
  ((s.countFrame p.r.frame (25 + cause) 1).countR (p.r.ch / 64) 0x11 cause (some (p.r.ch / 16 % 4)) 1) |>
    fun s => { s with rej := { s.rej with n := tmod 0 s.rej.n w (fun v => wrap 32 (v + 1)) } }

/-- The provisional returns of region r on their way to its engine: in its point FIFO, in the dual-clock queues of its blocks,
and passed on by their cells (R26, R298). -/
def State.underway (s : State) (r : Nat) : List Ret :=
  (s.reg r).fifo ++ (span (4 * r) 4).flatMap (fun b => (s.blk b).out ++ (s.blk b).rets.filter (·.passed))

/-- They are put into the engine's list, where the point collector settles them (R30). -/
def State.gather (s : State) (r : Nat) : State :=
  let ps : List Prov := (s.underway r).map (fun x => { r := x, entry := s.tb.tick, conf := x.conf })
  let s := (span (4 * r) 4).foldl (fun s b => s.setBlk b (fun k => { k with out := [], rets := k.rets.filter (fun x => !x.passed) })) s
  s.setReg r (fun g => { g with fifo := [], eng := g.eng ++ ps })

/-- The returns of region r that have not entered the collector are marked for RETRACT with a cause (R30, R325), their
segments freed (R255). Those that will have no record get no verdict record and are settled at once; a return whose record is
still to come gets record and verdict (R298). -/
def State.retractRegion (s : State) (r cause : Nat) : State :=
  let s := s.gather r
  let open_ := (s.reg r).eng.filter (fun p => !p.col && !p.sent)
  let now (p : Prov) : Bool := p.rec_ = 2
  let s := open_.foldl (fun s p => s.freeSeg p.r.ch p.r.nd) s
  let s := (open_.filter now).foldl (fun s p => s.countVerdict p cause) s
  s.setReg r (fun g => { g with eng := g.eng.map (fun p =>
    if p.col || p.sent then p
    else if now p then { p.mark cause with sent := true }
    else p.mark cause) })

/-! ### Cells and blocks at their defaults -/

/-- A cell of channel c at the defaults of a block restart or any wider reset, its front end still settled or not (R123,
R131, R137, R161, R166, R614). -/
def State.freshCell (s : State) (c : Nat) (settled : Bool) : Cell :=
  let i := tget [0, 0, 0, 0, 0] s.p.inter c
  { settled := settled, due := settled, low := s.cur FE_GAIN_MODE c == 2, coef := tget Coef.builtIn s.p.coef c
    offA := i.getD 0 0, offB := i.getD 1 0, gainA := i.getD 2 0, gainB := i.getD 3 0, skew := i.getD 4 0 }

/-- The 16 cells of block b at their defaults. -/
def State.freshCells (s : State) (b : Nat) (keepSettled : Bool) : State :=
  (span (16 * b) 16).foldl (fun s c => s.setCell c (fun x => s.freshCell c (keepSettled && x.settled))) s

/-- The counters of a range at their defaults (R602, R614). -/
def State.clearPerf (s : State) (lo hi : Nat) : State :=
  { s with obs := { s.obs with perf := s.obs.perf.filter (fun e => e.1 < lo || hi < e.1) } }

/-- The windows of block b in shots that are not final there are abandoned: its channels did not listen (R23, R318). Its
returns of those shots that are in the engine, or on their way there, go on (R24, R34). -/
def State.abandon (s : State) (b : Nat) : State :=
  let m : BitVec 512 := maskOf (fun c => c / 16 == b)
  { s with seq := { s.seq with shots := s.seq.shots.map (fun x =>
      if !x.fired then x else { x with opened := x.opened &&& ~~~m, deaf := x.deaf ||| (x.part &&& m &&& ~~~x.final) }) } }

/-- The echo segments of block b in the write queue and the ring whose return has not left the block are freed without trace
(R255). -/
def State.dropSegs (s : State) (b : Nat) : State :=
  let g := s.reg (b / 4)
  let kept (x : Seg) : Bool := match x.nd with
    | some n => decide (2 ≤ x.fate) || (g.eng.map (·.r) ++ g.fifo ++ (s.blk b).out).any (fun r => r.ch == x.ch && r.nd == n)
    | none => true
  let keep (l : List Seg) : List Seg := l.filter (fun x => x.ch / 16 ≠ b || kept x)
  s.setReg (b / 4) (fun g => { g with wq := keep g.wq, ring := keep g.ring })

/-- Block b stops: its windows are abandoned, its undelivered returns, their segments and its histograms are gone, its cells
and counters return to their defaults (R23, R24, R255, R614). -/
def State.stopBlock (s : State) (b : Nat) : State :=
  let s := ((s.abandon b).dropSegs b).freshCells b true
  let s := s.setBlk b (fun k => { k with rets := [], acc := [], rd := [], last := 15 })
  s.clearPerf (8 * b) (8 * b + 7)

/-! ### Region restarts (R29 to R32) -/

/-- Region r stops: what it held is retracted (R30), its blocks are re-initialised, a calibration of it is interrupted. -/
def State.stopRegion (s : State) (r : Nat) : State :=
  let s := s.retractRegion r 5
  let s := (span (4 * r) 4).foldl (fun s b =>
    (s.stopBlock b).setBlk b (fun k => { k with out := [], restart := false, held := false, starts := [] })) s
  let s := s.setReg r (fun g => { g with fifo := [], rr := 0, rrLeft := 0, wq := [] })
  (s.clearPerf (256 + 8 * r) (263 + 8 * r)).calInterrupt r

/-- A region is disabled until a Skeic device reset or wider (R32). -/
def State.disableRegion (s : State) (r : Nat) : State :=
  ((s.stopRegion r).setReg r (fun g => { g with restart := false, disabled := true })).noteAbsent.event 2 r 0x0005 []

/-- A region restart starts (R29) with event 0003h; its home channel, where it is on, retrains in it. -/
def State.startRestart (s : State) (r cause : Nat) : State :=
  let s := (s.stopRegion r).setReg r (fun g => { g with restart := true, since := s.tb.tick, noSeg := false, cause := cause })
  let s := if s.dom (72 + r) then { s with mem := tmod {} s.mem r (fun x => { x with st := 1 }) } else s
  ((s.noteAbsent).event 2 r 0x0003 [cause]).freezeEvent 1

/-- One ms in ticks. -/
def msTicks : Nat := 1600000

/-- A condition of the region conditions is detected in region r: a restart, or disabling after two failed ones (R29,
R32). Causes: 1 memory channel, 2 watchdog, 3 sample clock tree. -/
def State.regionError (s : State) (r cause : Nat) : State :=
  let g := s.reg r
  if g.disabled || !s.dom (64 + r) || s.pwr.safe then s
  else
    let again := match g.resumed with
      | some t => decide (s.tb.tick ≤ t + msTicks)
      | none => false
    let fails := if g.restart then g.fails else if again then g.fails + 1 else 0
    let s := s.setReg r (fun g => { g with errs := g.errs + 1, fails := fails })
    if g.restart then s
    else if 2 ≤ fails then s.disableRegion r
    else s.startRestart r cause

end Sys2Proof.Machine
end

