-- ==== Sys2Proof/Machine/IslandOps.lean ====
section
/-! DEFINITION. The safety island's operations: effective parameters, reactions, emission enables, brake, energy sums,
status block and messages (chapter 10). -/
namespace Sys2Proof.Machine

/-! ### Parameters (R410, R411) -/

/-- The key of a safety parameter's instance. -/
def safKey (p : Par) (i : Nat) : Nat := p.idx * 8 + i

/-- The value of a safety parameter in a set of values that differ from the defaults. -/
def setVal (t : Tab Nat) (p : Par) (i : Nat) : Nat := tget p.dflt t (safKey p i)

/-- The active value of a safety parameter; the default while no set is valid. -/
def State.saf (s : State) (p : Par) (i : Nat := 0) : Nat := setVal (s.isl.active.getD []) p i

/-- The 55 values of a set in index order (R410). -/
def setValues (t : Tab Nat) : List Nat := safPars.flatMap (fun p => (List.range p.insts).map (setVal t p))

/-- The check of a set (R404, R410). -/
def setCheck (t : Tab Nat) : Nat := crc32c (wordsBytes ((setValues t).map w32))

/-- The fused bound of a safety parameter that has one (R411): its fuse field. -/
def safFuse (idx : Nat) : Option Nat :=
  match idx with
  | 9 => some 14
  | 10 => some 15
  | 11 => some 16
  | 8 => some 17
  | 7 => some 18
  | 5 => some 19
  | _ => none

/-- The bound as the island took it at its cold reset (R570). -/
def State.safBound (s : State) (p : Par) (i : Nat) : Nat :=
  match safFuse p.idx with
  | some f => tget 0 s.fuse.island (fuseKey f i)
  | none => 0

/-- The effective value (R411): ceilings for the two limits, where a journaled 0 is no limit of its own; floors for the
others. -/
def State.safEff (s : State) (p : Par) (i : Nat := 0) : Nat :=
  let v := s.saf p i
  let f := s.safBound p i
  if p.idx = 9 || p.idx = 10 then (if v = 0 then f else min v f)
  else if (safFuse p.idx).isSome then max v f else v

/-! ### Outputs -/

/-- The island changed. -/
def State.setIsl (s : State) (f : Island → Island) : State := { s with isl := f s.isl }

/-- Output masks of S0: enables, brake, torque off. -/
def emitBits : BitVec 6 := 0b000011#6
def brkBits : BitVec 6 := 0b001100#6
def tqBits : BitVec 6 := 0b110000#6

/-- Outputs driven low. -/
def Island.drop (x : Island) (b : BitVec 6) : Island := { x with out := x.out &&& ~~~b }

/-- Outputs driven high. -/
def Island.lift (x : Island) (b : BitVec 6) : Island := { x with out := x.out ||| b }

/-- The brake outputs driven low or high; the feedback times start where they change (R394). A dropped brake is not
reported released; a raised one is at once where both feedback inputs read high (R393). -/
def Island.brake (x : Island) (high : Bool) : Island :=
  let y := if high then x.lift brkBits else x.drop brkBits
  if y.out = x.out then x else { y with fbAt := [(0, x.us), (1, x.us)], released := high && x.fbk == 3#2 }

/-! ### Availability of the brake (R395) -/

/-- One operating hour in units of 100 µs. -/
def hourUnits : Nat := 36000000

/-- More operating hours than test interval and grace have passed since the last pass. -/
def State.overdue (s : State) : Bool :=
  decide ((s.saf SAF_BRK_TEST_H + s.saf SAF_BRK_TEST_GRACE_H) * hourUnits ≤ s.wear.brakeTime)

/-- The brake is available (R395). -/
def State.brakeAvail (s : State) : Bool := s.p.brake == 0 && !s.overdue && !s.isl.fbFault

/-! ### The two channels' encoder functions (R366): a reaction is taken as soon as either channel takes it -/

/-- Both channels. -/
def Island.encs (x : Island) (f : IslEnc → IslEnc) : Island := { x with encA := f x.encA, encB := f x.encB }

/-- Some channel. -/
def Island.someEnc (x : Island) (f : IslEnc → Bool) : Bool := f x.encA || f x.encB

/-- An encoder fault of either channel (R386). -/
def Island.encFault (x : Island) : Bool := x.someEnc (·.fault)

/-- A scan stall in either channel, without an encoder fault's (R385). -/
def Island.stall (x : Island) : Bool := x.someEnc (·.stall)

/-- Standstill in either channel (R400). -/
def Island.still (x : Island) : Bool := x.someEnc (fun e => 1000 ≤ e.still)

/-- The angle is known in a channel (R387). -/
def IslEnc.angle (e : IslEnc) : Bool := e.known && !e.fault

/-! ### Demands and emission conditions (R378, R382) -/

/-- State of pair p. -/
def State.pair (s : State) (p : Nat) : Nat := tget 0 s.isl.pair p

/-- Function of pair p. -/
def State.pairFunc (s : State) (p : Nat) : Nat := s.saf SAF_SIN_FUNC p

/-- The demand level of pairs, messages and output faults that stands: 0 none or emission stop only, 2 safe stop, 3 torque
off. A message demand and a message fault stand until a matched pair or SAF_ACK ends them, whatever SAF_MSG_MODE says since
(R407, R413). -/
def State.stopLevel (s : State) : Nat :=
  let pairs := ((List.range 8).map (fun p => if s.pair p ≠ 0 then s.pairFunc p else 0)).foldl max 0
  let msg := max (if s.isl.demand.getLsbD 2 then 3 else if s.isl.demand.getLsbD 1 then 2 else 0)
    (if s.isl.msgFault then s.saf SAF_MSG_FUNC else 0)
  let out := if s.isl.outFault &&& (brkBits ||| tqBits) ≠ 0 then 2 else 0
  let m := max pairs (max msg out)
  if m < 2 then 0 else min 3 m

/-- The demands for a safe stop or torque off that stand, as the bits of reacted. -/
def State.demands (s : State) : Nat :=
  packNat ((List.range 8).map (fun p => (b2n (s.pair p ≠ 0 && 2 ≤ s.pairFunc p), 1)) ++
    [(b2n (s.isl.demand.getLsbD 2 || s.isl.demand.getLsbD 1), 1), (b2n (s.isl.msgFault && 2 ≤ s.saf SAF_MSG_FUNC), 1),
      (b2n (s.isl.outFault &&& (brkBits ||| tqBits) ≠ 0), 1)])

/-- The ten inhibit causes of S0 [15:6] (R382). -/
def State.causes (s : State) : List Bool :=
  let x := s.isl
  [!x.run, (List.range 8).any (fun p => s.pairFunc p ≠ 0 && s.pair p ≠ 0), x.stall || x.encFault,
    x.enInh || x.enLatch || s.safEff SAF_EN_LIMIT_NJ == 0, x.pulse || s.safEff SAF_PULSE_LIMIT_NJ == 0,
    x.demand ≠ 0 || x.msgFault, x.stop ≠ 0, x.outFault &&& emitBits ≠ 0 || x.fault,
    x.active.isNone, x.event]

/-- Every emission condition holds (R382). -/
def State.emitOk (s : State) : Bool := s.isl.tested && !s.isl.fault && !s.causes.any id

/-! ### Status block (R403) -/

/-- The sector in which a channel's encoder count stands (R387). -/
def State.sector (s : State) (e : IslEnc) : Nat :=
  let q := 4 * s.saf SAF_ENC_LINES
  (e.count % (q : Int)).toNat * s.safEff SAF_SECTORS / q

/-- The channel whose speed, sector and angle the status block shows: open where the two differ (log 83). -/
def Island.shownEnc (x : Island) : IslEnc := if Config.openInt 0x0A07 0 % 2 = 0 then x.encA else x.encB

/-- The sum of a sector in a channel (R389). -/
def Island.sum (x : Island) (ch sec : Nat) : Nat :=
  (x.buckets.filter (fun e => e.1 / 17 == ch * 1024 + sec)).foldl (fun a e => a + e.2) 0

/-- The larger of a sector's two sums. -/
def Island.sum2 (x : Island) (sec : Nat) : Nat := max (x.sum 0 sec) (x.sum 1 sec)

/-- The largest sum of all sectors. -/
def State.maxSum (s : State) : Nat := ((List.range (s.safEff SAF_SECTORS)).map s.isl.sum2).foldl max 0

/-- S0. -/
def State.s0 (s : State) : Word :=
  pack ([(s.isl.out.toNat, 6)] ++ s.causes.map (fun b => (b2n b, 1)) ++
    [(s.isl.stop, 3), (b2n s.brakeAvail, 1), (b2n s.isl.shownEnc.angle, 1), (b2n s.isl.active.isSome, 1), (b2n s.isl.enLatch, 1)])

/-- S1. -/
def State.s1 (s : State) : Word :=
  pack ((List.range 8).map (fun p => (s.pair p, 2)) ++ (List.range 8).map (fun p => (b2n (s.pair p == 3), 1)))

/-- The number that S2 spells. -/
def State.faults (s : State) : Nat :=
  let x := s.isl
  packNat [(x.outFault.toNat, 6), (b2n x.fbFault, 1), (b2n (s.p.brake == 1), 1), (b2n s.overdue, 1), (b2n x.encFault, 1),
    (b2n x.fault, 1), (b2n x.msgFault, 1), (b2n x.stray, 1)]

/-- The set check of S5; without a valid set its value is open (log 10). -/
def State.s5 (s : State) : Word :=
  match s.isl.active with
  | some t => w32 (setCheck t)
  | none => w32 (unsgn 32 (Config.openInt 0x0A05 0))

/-- S0 to S5. The rounding of speed and sum, and the share of a limit of 0, are open (log 10). -/
def State.statusBlock (s : State) : List Word :=
  let lim := s.safEff SAF_EN_LIMIT_NJ
  let sum := (roundOpen 0x0A04 (if lim = 0 then (Config.openInt 0x0A06 0 : Rat) else (s.maxSum : Rat) * 1024 / (lim : Nat))).toNat
  [s.s0, s.s1, w32 s.faults, pack [(min 65535 (roundOpen 0x0A03 (256 * s.isl.shownEnc.speed)).toNat, 16), (s.sector s.isl.shownEnc, 10)],
    pack [(min 65535 sum, 16), (min 65535 (s.wear.brakeTime / hourUnits), 16)], s.s5]

/-! ### Reactions (R382, R383, R392, R398 to R402) -/

/-- The end of a stop: its state, the withdrawn command, the report (R402). -/
def Island.ended (x : Island) (stop : Nat) : Island :=
  { x.drop tqBits with stop := stop, holding := 0, command := none, report := true }

/-- What waits for the brake's feedback goes on where both inputs read low, or once a feedback fault is latched (R392,
R400); after torque off the end comes at standstill (R401). -/
def Island.finish (avail : Bool) (x : Island) : Island :=
  match x.holding with
  | 0 => x
  | 3 =>
    if !x.still then x
    else if !avail then x.ended 4
    else if x.fbk = 0 then x.ended 3
    else x
  | 1 => if x.fbk = 0 || x.fbFault then { x.drop tqBits with holding := 0 } else x
  | _ => if x.fbk = 0 then x.ended 3 else if x.fbFault then x.ended 4 else x

/-- The brake is dropped: in normal operation (1), at the end of a safe stop (2; without the brake its torque goes first), or
after torque off (3) (R392, R400, R401). -/
def State.hold (s : State) (kind : Nat) : State :=
  s.setIsl (fun x =>
    if kind = 2 && !s.brakeAvail then ((x.drop tqBits).brake false).ended 4
    else { x.brake false with holding := kind }.finish s.brakeAvail)

/-- A superseding reaction ends the transition in progress and the PWR_STATE_SETs queued behind it (R67, R68); a wake message
that waits for its authentication goes with its transition, and rails that fall toward OFF come up again (log 84). -/
def State.supersede (s : State) : State :=
  let ms := (match s.pwr.trans with | some t => t.mbx.toList | none => []) ++ s.pwr.queue.map (·.2)
  { s with pwr := { s.pwr with
      trans := none, queue := [], ended := s.pwr.ended ++ ms, wake := none
      falling := if s.pwr.failing then s.pwr.falling else 0 } }

/-- A safety reaction supersedes the transition in progress: the way is to PARK, which the stop report at its end leads to
(R68, R402). -/
def State.overrule (s : State) : State :=
  if s.pwr.trans.isNone then s
  else { s.supersede with pwr := { s.supersede.pwr with trans := some { next := .park, target := .park } } }

/-- The outputs and the stop state of torque off. -/
def Island.cutTorque (x : Island) : Island :=
  if 3 ≤ x.stop then x.drop (tqBits ||| emitBits)
  else { x.drop (tqBits ||| emitBits) with stop := 2, rising := none, holding := if x.holding = 1 then 0 else x.holding }

/-- Torque off (R401); where it is a new reaction it supersedes a transition (R68), and a look-back freeze may follow it
(R281). -/
def State.torqueOff (s : State) : State :=
  let t := s.setIsl Island.cutTorque
  if s.isl.stop < 2 then t.overrule.freezeEvent 0 else t

/-- A safe stop starts at its demand (R398) and supersedes a transition (R68); a look-back freeze may follow it (R281). -/
def State.safeStop (s : State) : State :=
  if s.isl.stop ≠ 0 then s
  else
    (s.setIsl (fun x => { x.drop emitBits with
      stop := 1, since := x.us, rising := none, holding := 0, command := some x.ssCopy
      encA := { x.encA with w0 := x.encA.speed }, encB := { x.encB with w0 := x.encB.speed } })).overrule.freezeEvent 0

/-- A demand where the head stands stopped already (stop state 3 or 4): torque goes at once from a brake test (R396, R401), and
a transition on its way out of PARK is superseded (R68). -/
def State.stopAgain (s : State) : State := (s.setIsl (fun x => x.drop (tqBits ||| emitBits))).overrule

/-- The reaction that the standing demand asks for (R378). -/
def State.react (s : State) : State :=
  let d := s.demands
  let new := d &&& (2047 - s.isl.reacted) ≠ 0
  let s := s.setIsl (fun x => { x with reacted := d })
  if 3 ≤ s.isl.stop then (if new then s.stopAgain else s)
  else match s.stopLevel with
  | 3 => if s.isl.stop < 2 then s.torqueOff else s
  | 2 => s.safeStop
  | _ => s

/-- The enables with every emission condition true: they rise together (R382, R383). -/
def Island.enable (x : Island) : Island :=
  x.lift emitBits

/-- The enables with a condition false: low, and emission inhibited (R382, R383). -/
def Island.disable (x : Island) : Island := { x.drop emitBits with inhibit := true }

/-- The enables follow the emission conditions (R382, R383). An emission stop, other than the state logic's own, may freeze
the look-back recorder (R281). -/
def State.enables (s : State) : State :=
  if s.emitOk then s.setIsl Island.enable
  else
    let t := s.setIsl Island.disable
    if s.isl.out &&& emitBits ≠ 0 && (s.causes.drop 1).any id then t.freezeEvent 0 else t

/-- The faults that have been reported. -/
def State.setShown (s : State) : State := s.setIsl fun x => { x with shown := s.faults }

/-- Event 0A05h for newly latched faults. -/
def State.reportFaults (s : State) : State :=
  (if s.faults &&& (8191 - s.isl.shown) = 0 then s else s.chipEvent 0x0A05 [s.faults]).setShown

/-- Whether the brake's unavailability has been reported. -/
def Island.setGone (b : Bool) (x : Island) : Island := { x with gone := b }

/-- Event 0A04h when the brake becomes unavailable (R395). -/
def State.reportBrake (s : State) : State :=
  if s.brakeAvail then s.setIsl (Island.setGone false)
  else if s.p.brake ≠ 3 && !s.isl.gone then (s.setIsl (Island.setGone true)).chipEvent 0x0A04 []
  else s

/-- The outputs of an island with a fault: all low (R368); the brake's feedback times start where it falls (R394). -/
def Island.dead (x : Island) : Island := { x.brake false with out := 0, inhibit := true }

/-- The island's state is evaluated: the reaction that a standing demand asks for, the enables, and the events of newly
latched faults and of a brake that becomes unavailable (R382, R383, R395). -/
def State.island (s : State) : State :=
  if s.isl.fault then s.setIsl Island.dead
  else s.react.enables.reportFaults.reportBrake

/-- An island fault: all six outputs low until a cold reset (R368). It supersedes a transition in progress (R68); a look-back
freeze may follow it (R281). -/
def State.islandFault (s : State) : State :=
  let new := !s.isl.fault
  let s := s.setIsl (fun x => { x.dead with fault := true })
  let s := (s.chipEvent 0x0A05 [s.faults]).setIsl (fun x => { x with shown := s.faults })
  if new then s.supersede.freezeEvent 0 else s

/-- A device event of R382 and R408: torque off, and the condition stays failed. -/
def State.deviceEvent (s : State) : State :=
  if s.isl.fault then s else (s.setIsl (fun x => { x with event := true })).torqueOff.island

/-- The head turns faster than standstill. -/
def State.turning (s : State) : Bool := s.isl.someEnc (fun e => decide ((s.saf SAF_STANDSTILL_RPS : Rat) / 256 < e.speed))

/-- The brake test ends without a result: its torque-off outputs fall. -/
def Island.endTest (x : Island) : Island :=
  match x.test with
  | some _ => { x.drop tqBits with test := none }
  | none => x

/-- Domain 88 or 90 is about to switch off: torque off while the head turns (R408). -/
def State.guardOff (s : State) : State := if s.turning && !s.isl.fault then s.torqueOff.island else s

/-! ### Parameter set (R381, R410) -/

/-- A set becomes active: pairs that were not evaluated start awaiting acknowledgement where their restart is
acknowledged; pairs with function 0 are not evaluated. The motion control engine takes its copy of the safe stop's limits
(R398). -/
def State.activate (s : State) (t : Tab Nat) : State :=
  let start (p : Nat) : Nat :=
    if setVal t SAF_SIN_FUNC p = 0 then 0
    else if s.isl.active.isSome && s.pairFunc p ≠ 0 then s.pair p
    else if setVal t SAF_SIN_RESTART p = 1 then 2 else 0
  let pair := (List.range 8).foldl (fun a p => tset 0 a p (start p)) s.isl.pair
  (s.setIsl (fun x => { x with
    active := some t, pair := pair, ssCopy := (setVal t SAF_SS_DECEL 0, setVal t SAF_SS_JERK 0) })).island

/-! ### Energy (R388 to R391) -/

/-- Energies of the two channels are added to the current buckets: of the sector where the channel's count stands, or of every
sector while its angle is unknown (R389). -/
def State.addEnergy (s : State) (ea eb : Nat) : State :=
  let secs (e : IslEnc) : List Nat := if e.angle then [s.sector e] else List.range (s.safEff SAF_SECTORS)
  let a := (secs s.isl.encA).foldl (fun t k => tmod 0 t (k * 17) (· + ea)) s.isl.buckets
  let b := (secs s.isl.encB).foldl (fun t k => tmod 0 t ((1024 + k) * 17) (· + eb)) a
  s.setIsl (fun x => { x with buckets := b })

/-- Both limits are checked after a sub-pulse (R390, R391). -/
def State.checkEnergy (s : State) (e : Nat) : State :=
  let s := if s.safEff SAF_PULSE_LIMIT_NJ < e then s.setIsl (fun x => { x with pulse := true }) else s
  let s := if s.isl.enInh || s.maxSum ≤ s.safEff SAF_EN_LIMIT_NJ then s
    else s.setIsl (fun x =>
      let ts := x.us :: x.enTimes.filter (fun t => decide (x.us < t + 10000000))
      { x with enInh := true, enCount := wrap 32 (x.enCount + 1), enTimes := ts, enLatch := x.enLatch || 3 ≤ ts.length })
  s.island

/-- The energy of a sub-pulse in nJ (R388). -/
def pulseEnergy (i g : Nat) : Nat := ceilDiv (min 65535 i * g) 256000

/-! ### Encoder (R384, R386) -/

/-- An edge at a channel's encoder inputs, with q counts per revolution: the count, an illegal transition (four of them within a
revolution are a fault), and the index, which sets the count once and is checked against it from then on. -/
def IslEnc.edge (q : Nat) (e : EncEdge) (x : IslEnc) : IslEnc :=
  match e with
  | .up => { x with count := x.count + 1, now := x.now + 1, travel := x.travel + 1 }
  | .down => { x with count := x.count - 1, now := x.now + 1, travel := x.travel + 1 }
  | .both =>
    let ill := x.travel :: x.illegal.filter (fun t => decide (x.travel < t + q))
    if 4 ≤ ill.length then { x with fault := true, illegal := [] } else { x with illegal := ill }
  | .index =>
    if !x.known then { x with known := true, count := 0 }
    else
      let m := (x.count % (q : Int)).toNat
      { x with fault := x.fault || (1 < m && m + 1 < q) }

/-- A channel's edge, if it sees one. -/
def IslEnc.edge? (q : Nat) (e : Option EncEdge) (x : IslEnc) : IslEnc :=
  match e with
  | some d => x.edge q d
  | none => x

/-- A brake test's start counts where an index sets the count, which is no movement (R384, R396). -/
def BrakeTest.rebase (t : BrakeTest) (a b : IslEnc) (e : EncEdges) : BrakeTest :=
  { t with
    fromA := if e.a = some .index && !a.known then t.fromA - a.count else t.fromA
    fromB := if e.b = some .index && !b.known then t.fromB - b.count else t.fromB }

/-- An edge at the island's encoder inputs, as each channel sees it; a new encoder fault is evaluated. -/
def State.islandEdge (s : State) (e : EncEdges) : State :=
  let q := 4 * s.saf SAF_ENC_LINES
  let was := s.isl.encFault
  let s := s.setIsl (fun x => { x with
    test := x.test.map (fun t => t.rebase x.encA x.encB e), encA := x.encA.edge? q e.a, encB := x.encB.edge? q e.b })
  if s.isl.encFault && !was then s.island else s

/-! ### Messages (R403 to R407) -/

/-- The message words W0 to W8 and their check. -/
def State.statusMessage (s : State) : List Word :=
  let ws := [w32 s.isl.seq, w32 s.isl.us] ++ s.statusBlock ++ [w32 (s.saf SAF_STATUS_ID)]
  ws ++ [w32 (crc32c (wordsBytes ws))]

/-- The fabric takes the island's messages: the fabric runs and has had no fatal error (R405, R625). -/
def State.fabricTakes (s : State) : Bool :=
  s.pwr.good && s.boot.phase ≠ 2 && !(s.pwr.safe && s.pwr.safeCause == 1)

/-- A status message is built and offered to queue 0 as one record for both ports (R403, R423, R447); the answer says whether
it was taken (R405, R427). -/
def State.sendStatus (s : State) : Bool × State :=
  if s.pwr.dev == .sleep || s.pwr.dev == .off then (false, s)
  else
    let ws := [pack [(s.addr, 3)], 0, 0, recW3 s.kept.frame 0x79 0] ++ s.statusMessage
    let s := s.setIsl (fun x => { x with seq := wrap 32 (x.seq + 1), told := [s.s0, s.s1, w32 s.faults, s.s5] })
    if s.fabricTakes then s.enqueue 0 ws else (false, s)

/-- A sequence is later than that of the last matched pair, by at most 1,024; before the first pair any is (R406). -/
def Island.fresh (x : Island) (w : Word) : Bool :=
  match x.sLast with
  | none => true
  | some l => let d := (w - l).toNat; 1 ≤ d && d ≤ 1024

/-- Copies that cannot pair any more and whose sequence is no longer valid are forgotten. -/
def Island.forget (x : Island) : Island := { x with copies := x.copies.filter (fun c => !c.past || x.fresh c.seq) }

/-- A copy of a vehicle message reaches the island (R406, R407): its demands act at once. A second copy from the same port is
ignored; two that differ are a message fault, whenever the second one comes; two alike are a matched pair within the skew
time. -/
def State.vehicleCopy (s : State) (p : Port) (w0 w1 w2 w3 : Word) : State :=
  let x := s.isl
  if s.saf SAF_MSG_MODE = 0 || w3.toNat ≠ crc32c (wordsBytes [w0, w1, w2]) || w1.toNat ≠ s.saf SAF_MSG_SOURCE_ID ||
    !x.fresh w0 || x.copies.any (fun c => c.seq == w0 && c.port == p) then s
  else
    let bits : BitVec 3 := BitVec.ofNat 3 (w2.fld 2 0)
    let new : MsgCopy := { seq := w0, port := p, w1 := w1, w2 := w2, at_ := x.us }
    let s := match x.copies.find? (fun c => c.seq == w0) with
      | none => s.setIsl (fun x => { x with demand := x.demand ||| bits, copies := x.copies ++ [new] })
      | some c =>
        if c.w1 ≠ w1 || c.w2 ≠ w2 then
          s.setIsl (fun (x : Island) => { x with
            demand := x.demand ||| bits, msgFault := true, msgBad := wrap 32 (x.msgBad + 1)
            copies := x.copies.map (fun d => if d = c then { d with past := true } else d) ++ [{ new with past := true }] })
        else if c.past || c.at_ + 1000 * s.saf SAF_MSG_SKEW_MS < x.us then
          s.setIsl (fun x => { x with demand := x.demand ||| bits, copies := x.copies ++ [new] })
        else
          s.setIsl (fun (x : Island) =>
            { x with demand := bits, sLast := some w0, msgAt := x.us, copies := x.copies.erase c }.forget)
    s.island

end Sys2Proof.Machine
end

