-- ==== Sys2Proof/Machine/Sessions.lean ====
section
/-! DEFINITION. Arrival and placement of Skeic messages, sessions, the service port, and the 01xxh commands (chapter
12). -/
namespace Sys2Proof.Machine

/-- Words of a firmware slot (R487). -/
def slotWords : Nat := 6291456

/-! ### Placement (R453 to R458, R462 to R466) -/

/-- A header word of a message under test. -/
def hdr (ws : List Word) (i : Nat) : Word := wd ws i

/-- The trailer words a message must carry: 4 in sessions 1 to 15 and on a wake message, none in session 0 (R462, R466).
free = it came through the unlocked service port, where session 0 is permitted for every opcode. -/
def trailerWords (ws : List Word) (free : Bool) : Nat :=
  if (hdr ws 2).fld 3 0 ≠ 0 then 4 else if (hdr ws 0).fld 15 0 = 0x0202 && !free then 4 else 0

/-- The key whose code a message must carry (R465, R466). -/
def State.keyOf (s : State) (ws : List Word) (free : Bool) : List Byte :=
  let n := (hdr ws 2).fld 3 0
  if n ≠ 0 then (s.sess n).key else if (hdr ws 0).fld 15 0 = 0x0202 && !free then s.wakeKey else []

/-- Step 4 of R453: the trailer is the code of header and payload. -/
def macOk (key : List Byte) (ws : List Word) : Bool :=
  key.isEmpty || ws.drop (ws.length - 4) == trailer key (ws.take (ws.length - 4))

/-- A sequence is newer than another: 1 ≤ (a − b) mod 2³² ≤ 2³¹ − 1 (R464, R466). -/
def newer (a b : BitVec 32) : Bool := let d := (a - b).toNat; 1 ≤ d && d ≤ 2 ^ 31 - 1

/-- The sequence lies in the window of 64 below s_max. -/
def Sess.inWindow (x : Sess) (q : BitVec 32) : Bool := (x.smax - q).toNat < 64

/-- A session accepts a sequence (R464). -/
def Sess.accepts (x : Sess) (q : BitVec 32) : Bool :=
  x.fresh || newer q x.smax || (x.inWindow q && !x.seen.getLsbD (x.smax - q).toNat)

/-- An accepted sequence taken: s_max follows a newer one (R464). -/
def Sess.advance (x : Sess) (q : BitVec 32) : Sess :=
  if x.fresh then { x with smax := q, seen := 0, fresh := false }
  else if newer q x.smax then { x with smax := q, seen := x.seen <<< (q - x.smax).toNat }
  else x

/-- An accepted sequence taken and marked as seen (R464). -/
def Sess.mark (x : Sess) (q : BitVec 32) : Sess :=
  let x := x.advance q
  { x with seen := x.seen ||| (1#64 <<< (x.smax - q).toNat) }

/-- The mark of a sequence taken back, for a forwarded message that the target answered as busy (R455, R516). -/
def Sess.unmark (x : Sess) (q : BitVec 32) : Sess :=
  if x.inWindow q then { x with seen := x.seen &&& ~~~(1#64 <<< (x.smax - q).toNat) } else x

/-- Step 5 of R453: the sequence is accepted. Session 0 has no check but for wake messages (R464, R466). -/
def State.seqOk (s : State) (ws : List Word) (free : Bool) : Bool :=
  let n := (hdr ws 2).fld 3 0
  if n ≠ 0 then (s.sess n).accepts (hdr ws 1)
  else if (hdr ws 0).fld 15 0 = 0x0202 && !free then newer (hdr ws 1) (w32 (s.work SKE_WAKE_SEQ 0))
  else true

/-- Step 6 of R453: the opcodes that session 0 permits (R462). -/
def session0Ok (op : Nat) (free : Bool) : Bool := if free then op ≠ 0x0A20 else [0x0101, 0x0102, 0x0202].contains op

/-- The time of a session has run out: 1 s pending, or SKE_IDLE_S seconds open with no message accepted, 0 for never (R467,
R468). -/
def State.sesDue (s : State) (n : Nat) : Bool :=
  let x := s.sess n
  let secs := if x.st = 1 then 1 else if x.st = 2 then s.val SKE_IDLE_S else 0
  secs ≠ 0 && decide (x.since + usTicks (1000000 * secs) ≤ s.tb.tick)

/-- A message accepted by its session: a pending session opens, the idle time starts again (R467, R468); its sequence is
marked as seen, but for one that is answered as busy (R455, R464). -/
def State.accept (s : State) (ws : List Word) (mark : Bool) (free : Bool) : State :=
  let n := (hdr ws 2).fld 3 0
  if n ≠ 0 then
    s.setSess n (fun x =>
      let x := { x with st := 2, since := s.tb.tick }
      if mark then x.mark (hdr ws 1) else x.advance (hdr ws 1))
  else if mark && (hdr ws 0).fld 15 0 = 0x0202 && !free then s.writePar SKE_WAKE_SEQ (hdr ws 1).toNat 0
  else s

/-- Header bits that are reserved are zero and the codes are those of a command (R459, R474). -/
def headerOk (ws : List Word) : Bool :=
  (hdr ws 0).fld 31 25 == 0 && (hdr ws 2).fld 15 4 == 0 && (hdr ws 2).fld 31 26 == 0 &&
    opcodeKnown ((hdr ws 0).fld 15 0)

/-- The role that a message's command has (R463). -/
def State.roleOf (s : State) (ws : List Word) (free : Bool) : Bool :=
  let n := (hdr ws 2).fld 3 0
  if n ≠ 0 then (s.sess n).service else free

/-- The role or the session forbids the command (R463, R485): a service command, another session's closing, or SES_OPEN in a
session. -/
def State.roleBad (s : State) (ws : List Word) (free : Bool) : Bool :=
  let op := (hdr ws 0).fld 15 0
  let n := (hdr ws 2).fld 3 0
  let k := (hdr ws 4).fld 3 0
  (op == 0x0102 && n != 0) || ((serviceOnly op || (op == 0x0103 && k != 0 && k != n)) && !s.roleOf ws free)

/-- A response without a mailbox of its own, sent on the port on which its command arrived, or lost without a link (R455,
R456). -/
def State.answerOn (s : State) (p : Nat) (src : Addr) (udp vid : Nat) (r : List Word) : State :=
  if (s.port p).up then s.toCtl p (.resp src udp vid (s.skeicAt p) r)
  else { s with ske := { s.ske with lost := wrap 32 (s.ske.lost + 1) } }

/-- A chain address names a member: an upstream device, or one that reported (R458, R515). A device without an address, as
after an enumeration fault, knows none and forwards nothing (R495). -/
def State.member (s : State) (a : Nat) : Bool := s.enum.addr.isSome && (a < s.addr || (tget {} s.ch.mems a).reach)

/-- A message taken into its mailbox (R454). -/
def State.place (s : State) (m : Nat) (ws : List Word) (b : Mbx) : State :=
  let s := (s.setMws m 0 ws).setMbx m (fun _ => b)
  let s := if isQuery ((hdr ws 0).fld 15 0) then s
    else { s with ske := { s.ske with order := s.ske.order ++ [m] } }
  s.countC 0x27 0 1

/-- Steps 3 to 7 of R453 on a message whose length is right; then placement or forwarding. sp = the mailbox that the
service port has claimed for it. -/
def State.placeMessage (s : State) (ws : List Word) (sp : Option Nat) (d : Arrival) : Out :=
  let free := sp.isSome && !s.spLocked
  let op := (hdr ws 0).fld 15 0
  let n := (hdr ws 2).fld 3 0
  let m := match sp with | some k => k | none => (hdr ws 0).fld 21 16
  let a := (hdr ws 0).fld 24 22
  let key := s.keyOf ws free
  let bad (c : Nat) : Out :=
    let t := s.skeDiscard c
    match sp with
    | none => .next t
    | some k => .next { t.setMbx k (fun b => { b with st := 0 }) with
        ske := { (t.setMbx k (fun b => { b with st := 0 })).ske with bell := s.ske.bell ||| BitVec.ofNat 64 (2 ^ k) } }
  if n ≠ 0 && (n > 8 || (s.sess n).st = 0 || s.sesDue n) then bad 1
  else if !macOk key ws then bad 2
  else if !s.seqOk ws free then bad 3
  else if n = 0 && !session0Ok op free then bad 4
  else if op = 0x0A20 then bad 4
  else if a ≠ s.addr then
    -- forwarded to another member (R458, R516); the receiving device's role applies, and a wake message's sequence is
    -- committed there first (R466)
    if !s.member a then .fault (.hostError "chain address")
    else
      let t := s.accept ws true free
      let f : Fwd := { addr := a, mbx := m, h1 := hdr ws 1, h2 := hdr ws 2, h3 := hdr ws 3, viaSp := sp.isSome,
                       port := d.port, src := d.src, udp := d.udp, vid := d.vid, key := key
                       closes := op = 0x0103 && ((hdr ws 4).fld 3 0 = 0 || (hdr ws 4).fld 3 0 = n) }
      if s.roleBad ws free then
        let r := responseWords (hdr ws 0) (hdr ws 1) (hdr ws 2) (hdr ws 3) 3 [] key
        match sp with
        | some k => .next ((t.place k ws { st := 2, viaSp := true, key := key }).respond k 3 [])
        | none => .next (t.answerOn d.port.n d.src d.udp d.vid r)
      else
        let body := ws.take (4 + (hdr ws 2).fld 25 16)
        let t := { t with ske := { t.ske with fwd := t.ske.fwd ++ [f] } }
        let t := match sp with
          | some k => t.setMbx k (fun b => { b with st := 3, viaSp := true, key := key })
          | none => t
        let down := decide (s.addr < a)
        if n = 0 && op = 0x0202 && !free && !s.jnl.readOnly then
          .next (if s.jnl.txn.isSome then { t with ske := { t.ske with fwdWakes := t.ske.fwdWakes ++ [(down, body)] } }
            else t.startTxn 1 (recordBytes 1) (.forward down body))
        else .next (t.toLink down 2 body)
  else if sp.isNone && (s.mbx m).st ≠ 0 then
    -- occupied: answered busy by hardware, not marked as seen (R455)
    let t := (s.accept ws false free).skeDiscard 5
    .next (t.answerOn d.port.n d.src d.udp d.vid
      (responseWords (hdr ws 0) (hdr ws 1) (hdr ws 2) (hdr ws 3) 1 [] key))
  else if !headerOk ws then .fault (.hostError "header")
  else
    let b : Mbx := { st := 2, viaSp := sp.isSome, port := d.port, src := d.src, udp := d.udp, vid := d.vid,
                     service := s.roleOf ws free, key := key,
                     wakeWait := n = 0 && op = 0x0202 && !free }
    .next ((s.accept ws true free).place m ws b)

/-- The message length of R453 step 2 in bytes: header, payload, trailer. -/
def wantedBytes (ws : List Word) (free : Bool) : Nat := 16 + 4 * (hdr ws 2).fld 25 16 + 4 * trailerWords ws free

/-! ### Responses (R456, R457) -/

/-- The response of mailbox m handed to its port or chain link; lost without a link; the mailbox is free (R456). -/
def State.handoff (s : State) (m : Nat) : State :=
  let b := s.mbx m
  if !(b.ready && b.st == 3) then s else
  let msg := s.message m
  let s := s.setMbx m (fun _ => {})
  match b.fromChain with
  | some down => s.toLink down 2 msg
  | none =>
    s.answerOn b.port.n b.src b.udp b.vid msg

/-- The ready response of mailbox m is handed on. -/
def execResponseHandoff (m : Fin 64) (s : State) : Out := .next (s.handoff m)

/-- A forwarded message or response arrives over a chain link (R458, R516). A response that this device awaits is given
its trailer and sent on; a message for this device is placed or answered as busy; anything else is passed on (R515). -/
def execForwardedMessageArrival (down : Bool) (msg : List Word) (s : State) : Out :=
  let a := (hdr msg 0).fld 24 22
  let m := (hdr msg 0).fld 21 16
  if s.enum.fault then .next s
  else if (hdr msg 0).bit 25 then
    match s.ske.fwd.find? (fun f => f.addr == a && f.mbx == m && f.h1 == hdr msg 1 && f.h3 == hdr msg 3) with
    | none => .next (if s.passesOn then s.toLink (!down) 2 msg else s)
    | some f =>
      let status := (hdr msg 2).fld 15 8
      let s := { s with ske := { s.ske with fwd := s.ske.fwd.erase f } }
      let n := f.h2.fld 3 0
      let s := if status = 1 && n ≠ 0 then s.setSess n (fun x => x.unmark f.h1)
        else if status = 0 && f.closes && n ≠ 0 then s.setSess n (fun _ => {}) else s
      let s := if status = 1 then s.skeDiscard 5 else s
      let out := if f.key.isEmpty then msg else msg ++ trailer f.key msg
      if f.viaSp then
        let s := (s.setMws m 0 out).setMbx m (fun b => { b with st := 4 })
        .next { s with ske := { s.ske with bell := s.ske.bell ||| BitVec.ofNat 64 (2 ^ m) } }
      else .next (s.answerOn f.port.n f.src f.udp f.vid out)
  else if a ≠ s.addr then .next (if s.passesOn then s.toLink (!down) 2 msg else s)
  else if s.boot.stage ≠ 4 then .next s
  else if (s.mbx m).st ≠ 0 then
    .next (s.toLink down 2 (responseWords (hdr msg 0) (hdr msg 1) (hdr msg 2) (hdr msg 3) 1 [] []))
  else if !headerOk msg then .fault (.hostError "header")
  else .next (s.place m msg { st := 2, service := true, fromChain := some down })

/-! ### Sessions (R467, R468) -/

/-- A pending session not opened within 1 s is freed (R467). -/
def execSessionPendingExpiry (n : Fin 8) (s : State) : Out :=
  if (s.sess (n + 1)).st = 1 && s.sesDue (n + 1) then .next (s.setSess (n + 1) (fun _ => {})) else .next s

/-- A session idle for SKE_IDLE_S seconds closes; never with SKE_IDLE_S at 0 (R468). -/
def execSessionIdleExpiry (n : Fin 8) (s : State) : Out :=
  if (s.sess (n + 1)).st = 2 && s.sesDue (n + 1) then .next (s.setSess (n + 1) (fun _ => {})) else .next s

/-! ### Service port (R481 to R484) -/

/-- The service port answers: not in SLEEP or OFF, and from the fuse reading on (R482). -/
def State.spAlive (s : State) : Bool :=
  s.pwr.good && s.boot.phase ≠ 2 && decide (s.pwr.dev ≠ .sleep) && decide (s.pwr.dev ≠ .off)

/-- A write of SP_MBX_ADDR: window and claim (R483). -/
def execSpMbxAddrWrite (v : Word) (s : State) : Out :=
  if !s.spAlive then .next s
  else if v.fld 31 17 ≠ 0 then .fault (.hostError "reserved bits of SP_MBX_ADDR")
  else
    let m := v.fld 5 0
    let s := { s with ske := { s.ske with spMbx := m, spOff := v.fld 15 6 } }
    if (s.mbx m).st = 0 then .next (s.setMbx m (fun _ => { st := 1, viaSp := true })) else .next s

/-- The word offset after an access; it wraps within the 1,024 words of the window (DEDUCED, log 13). -/
def State.spAdvance (s : State) : State := { s with ske := { s.ske with spOff := (s.ske.spOff + 1) % 1024 } }

/-- The bytes of a word, most significant first (R481). -/
def msbFirst (v : Word) : List Byte := [v.extractLsb' 24 8, v.extractLsb' 16 8, v.extractLsb' 8 8, v.extractLsb' 0 8]

/-- The words of whole groups of four data bytes, most significant first; bytes short of a group are no access (DEDUCED, log
13). -/
def beWords : List Byte → List Word
  | a :: b :: c :: d :: rest => (a ++ b ++ c ++ d : Word) :: beWords rest
  | _ => []

/-- An access to SP_MBX_DATA: one word of the window read or written, offset + 1 (R483); in recovery a written word goes
into slot 0 in order (R484). -/
def execSpMbxDataAccess (read : Bool) (v : Word) (s : State) : Out :=
  if !s.spAlive then .next s
  else if s.boot.stage = 6 && !read then
    if s.boot.recover ≥ slotWords then .next s else
    .next { s with slot := tput s.slot s.boot.recover v, boot := { s.boot with recover := s.boot.recover + 1 } }
  else if read then .next { s.spAdvance with ske := { s.spAdvance.ske with sdo := some (msbFirst (s.mw s.ske.spMbx s.ske.spOff)) } }
  else if (s.mbx s.ske.spMbx).st = 1 then .next (s.setMw s.ske.spMbx s.ske.spOff v).spAdvance
  else .next s.spAdvance

/-- A write of SP_RING submits the claimed mailbox's message to steps 2 to 6 of R453 (R483). -/
def execSpRingWrite (v : Word) (s : State) : Out :=
  if !s.spAlive then .next s
  else
    let m := v.fld 5 0
    if v.fld 31 6 ≠ 0 then .fault (.hostError "reserved bits of SP_RING")
    else if (s.mbx m).st ≠ 1 then .fault (.hostError "SP_RING names an unclaimed mailbox")
    else if s.boot.stage ≠ 4 then .next s
    else
      let free := !s.spLocked
      let h := (List.range 4).map (s.mw m)
      let n := wantedBytes h free
      let discard : State :=
        let t := (s.skeDiscard 0).setMbx m (fun b => { b with st := 0 })
        { t with ske := { t.ske with bell := t.ske.bell ||| BitVec.ofNat 64 (2 ^ m) } }
      if n > 4096 then .next discard
      else s.placeMessage ((List.range (n / 4)).map (s.mw m)) (some m) { port := .a, src := {}, udp := 0, vid := 0, bytes := [] }

/-- Writing 1 to a doorbell bit clears it and frees the service port's answered mailbox (R483). -/
def execSpDoorbellWrite (hi : Bool) (v : Word) (s : State) : Out :=
  if !s.spAlive then .next s else
  let base := if hi then 32 else 0
  let free (s : State) (i : Nat) : State :=
    if v.bit i then
      let s := { s with ske := { s.ske with bell := s.ske.bell &&& ~~~ BitVec.ofNat 64 (2 ^ (base + i)) } }
      if (s.mbx (base + i)).st = 4 then s.setMbx (base + i) (fun _ => {}) else s
    else s
  .next ((List.range 32).foldl free s)

/-- The registers of the service port as they read (R482). -/
def State.spRead (s : State) (reg : Nat) : Word :=
  match reg with
  | 0 => pack [(0, 4), (s.fuseVal 2 0, 4), (s.fuseVal 1 0, 8), (s.fuseVal 0 0, 16)]
  | 1 => w32 (s.fuseVal 3 0)
  | 2 => w32 (s.fuseVal 3 0 / 2 ^ 32)
  | 3 => pack [(s.boot.stage, 3), (s.boot.slot, 1), (tget 7 s.boot.res 0, 3), (tget 7 s.boot.res 1, 3),
      (b2n s.boot.trial, 1)]
  | 4 => s.boot.version
  | 5 => pack [(s.addr, 3), (b2n s.enum.cond, 1), (b2n (s.enum.addr.isSome && !s.enum.fault), 1)]
  | 6 => pack [(s.pwr.dev.code, 3), (b2n s.pwr.safe, 1), (b2n s.faultLow, 1), (b2n s.pwr.failSeen, 1),
      (b2n s.spLocked, 1)]
  | 7 => w32 s.ske.bell.toNat
  | 8 => w32 (s.ske.bell.toNat / 2 ^ 32)
  | 9 => pack [(s.ske.spMbx, 6), (s.ske.spOff, 10), (b2n ((s.mbx s.ske.spMbx).st = 1), 1)]
  | 10 => s.mw s.ske.spMbx s.ske.spOff
  | 12 => s.ske.scratch
  | _ => 0

/-! ### Firmware images (R478) -/

/-- Word i of a firmware slot; an erased word is FFFF_FFFFh. -/
def State.slotWord (s : State) (k i : Nat) : Word := tget 0xFFFFFFFF#32 s.slot (k * slotWords + i)

/-- The slot holds no word written since its erase. -/
def State.slotErased (s : State) (k : Nat) : Bool := s.slot.all (fun e => e.1 / slotWords ≠ k)

/-- The check of R478: the first test that fails gives the result, 0 valid. -/
def State.imageCheck (s : State) (k : Nat) : Nat :=
  let w := s.slotWord k
  let len := (w 2).toNat
  if s.slotErased k then 6
  else if w 0 ≠ 0x49454B53#32 || (w 1).fld 7 0 ≠ 1 || len = 0 || len > 25165312 then 1
  else
    let body := (wordsBytes ((List.range ((len + 3) / 4)).map (fun i => w (128 + i)))).take len
    let field (a n : Nat) : List Byte := wordsBytes ((span a n).map w)
    if sha384 body ≠ field 8 12 then 2
    else if sha384 (field 20 24) ≠ bytesLE (s.fuseVal 11 0) 48 then 3
    else if !ecdsaOk (beNat (field 20 12)) (beNat (field 32 12)) (beNat (field 44 12)) (beNat (field 56 12))
        (field 0 44) then 4
    else if (w 4).fld 5 0 < s.fuseVal 12 0 then 5
    else 0

/-- The standby slot: the one that is not running (R487). -/
def State.standby (s : State) : Nat := 1 - s.boot.slot

/-- A slot's check result set. -/
def State.setRes (s : State) (k r : Nat) : State := { s with boot := { s.boot with res := tset 7 s.boot.res k r } }

/-- A slot's words erased. -/
def State.eraseSlot (s : State) (k : Nat) : State := { s with slot := s.slot.filter (fun e => e.1 / slotWords ≠ k) }

/-- The image of slot k is loaded: stage 2 (R479, R482). -/
def State.startSlot (s : State) (k : Nat) (trial : Bool) : State :=
  { s with boot := { s.boot with stage := 2, slot := k, trial := trial, version := s.slotWord k 3,
                                 svn := (s.slotWord k 4).fld 5 0 } }

/-- Writing 6 to SP_BOOT in stage 5: slot 0 is erased and recovery starts (R484). -/
def execSpBootRecoveryStart (s : State) : Out :=
  if s.boot.stage = 5 && s.spAlive then
    .next { (s.eraseSlot 0).setRes 0 6 with boot := { ((s.eraseSlot 0).setRes 0 6).boot with stage := 6, recover := 0 } }
  else .next s

/-- Writing 7 to SP_BOOT in recovery: slot 0 is checked and started, or stage 5 again (R484). -/
def execSpBootRecoveryEnd (s : State) : Out :=
  if s.boot.stage = 6 && s.spAlive then
    let r := s.imageCheck 0
    let s := s.setRes 0 r
    .next (if r = 0 then s.startSlot 0 false else { s with boot := { s.boot with stage := 5 } })
  else .next s

/-- A register of the service port written with one word (R481): its own behaviour (R482 to R484); SP_SCRATCH stores the value,
read-only registers keep theirs, reserved registers are a host error. -/
def State.spPut (s : State) (reg : Nat) (v : Word) : Out :=
  match reg with
  | 3 => if v = 6 then execSpBootRecoveryStart s else if v = 7 then execSpBootRecoveryEnd s else .next s
  | 7 => execSpDoorbellWrite false v s
  | 8 => execSpDoorbellWrite true v s
  | 9 => execSpMbxAddrWrite v s
  | 10 => execSpMbxDataAccess false v s
  | 11 => execSpRingWrite v s
  | 12 => .next { s with ske := { s.ske with scratch := v } }
  | r => if 12 < r then .fault (.hostError "reserved service-port register") else .next s

/-- The window as n groups of four bytes read it; its offset goes on with each (R481, R483). -/
def State.spWindow : Nat → State → List Byte × State
  | 0, s => ([], s)
  | n + 1, s =>
    let b := msbFirst (s.mw s.ske.spMbx s.ske.spOff)
    let (bs, t) := s.spAdvance.spWindow n
    (b ++ bs, t)

/-- The words of a write one after the other; the first one that stops stops the transaction. -/
def spWrites (reg : Nat) : List Word → State → Out
  | [], s => .next s
  | v :: vs, s =>
    match s.spPut reg v with
    | .next t => spWrites reg vs t
    | o => o

/-- A transaction of the service port (R481): its first byte, [7] the read flag and [6:0] the register, and the bytes that the
host sends after it. A read returns, after one byte that the device ignores, the register's bytes on SP_SDO, most significant
first; a write takes four data bytes. Only SP_MBX_DATA goes on with further groups of four. In SLEEP and OFF the port does not
answer, and SP_SDO is high-impedance (R482). -/
def execSpRegisterWrite (first : BitVec 8) (bytes : List (BitVec 8)) (s : State) : Out :=
  let reg := (first.extractLsb' 0 7).toNat
  if !s.spAlive then .next { s with ske := { s.ske with sdo := none } }
  else if first.getLsbD 7 then
    if reg = 10 then
      let (bs, t) := s.spWindow ((bytes.length - 1) / 4)
      .next { t with ske := { t.ske with sdo := some bs } }
    else .next { s with ske := { s.ske with sdo := some ((msbFirst (s.spRead reg)).take (bytes.length - 1)) } }
  else spWrites reg (if reg = 10 then beWords bytes else (beWords bytes).take 1) s

/-! ### 01xxh commands -/

/-- ID_GET: identity, serial, firmware version, chain role. -/
def execIdGet (m : Fin 64) (s : State) : Out :=
  s.skeic 0x0101 m fun s => .done s [s.spRead 0, s.spRead 1, s.spRead 2, s.boot.version,
    pack [(s.boot.slot, 1), (s.boot.svn, 6), (b2n s.boot.trial, 1), (s.addr, 3), (b2n s.enum.cond, 1)]]

/-- The lowest free session number, 0 when none is free (R467). -/
def State.freeSession (s : State) : Nat := ((span 1 8).find? (fun n => (s.sess n).st == 0)).getD 0

/-- SES_OPEN: the lowest free session becomes pending; device nonce and proof (R467, R465). -/
def execSesOpen (m : Fin 64) (s : State) : Out :=
  s.skeic 0x0102 m fun s =>
    if s.sessOf m ≠ 0 then .status 3
    else need ((s.pw m 0).fld 31 1 = 0) "reserved bits" <|
    let n := s.freeSession
    if n = 0 then .done s (pack [(1, 2)] :: List.replicate 8 0)
    else
      let service := (s.pw m 0).bit 0
      let nh := wordsBytes ((span 1 4).map (s.pw m))
      let nd := bytesLE (Config.deviceNonce s.free).toNat 16
      let key := s.sessionKey service nh nd n
      let s := s.setSess n (fun _ => { st := 1, service := service, key := key, since := s.tb.tick })
      let s := { s with free := s.free + 1 }
      .done s (pack [(0, 2), (n, 4)] :: bytesWords nd ++ bytesWords ((hmac key (ascii "SKEIC-DEV" ++ nh)).take 16))

/-- SES_CLOSE: closes the sender's session, or a named one for a service session (R485). Its response goes out under the
sender's key; a sender without a session that names none closes none (DESIGN CHOICE, log 75). A forwarded command's sender
has its session at the device that received it, which closes it when the answer comes. -/
def execSesClose (m : Fin 64) (s : State) : Out :=
  s.skeic 0x0103 m fun s =>
    let w := s.pw m 0
    let own := s.sessOf m
    let n := if w.fld 3 0 = 0 then own else w.fld 3 0
    need (w.fld 31 4 = 0 && n ≤ 8) "reserved bits or code" <|
    if n ≠ own && !(s.mbx m).service then .status 3
    else if n = 0 || (n = own && (s.mbx m).fromChain.isSome) then .done s []
    else .done (s.setSess n (fun _ => {})) []

/-- The two words of session n in SES_STATUS. -/
def State.sesWords (s : State) (m n : Nat) : List Word :=
  let x := s.sess n
  [pack [(b2n (x.st = 2), 1), (b2n (x.st = 1), 1), (b2n x.service, 1), (b2n (s.sessOf m = n), 1), (0, 12),
    (if x.st = 2 then sat 16 ((s.tb.tick - x.since) / 1600000000) else 0, 16)], x.smax]

/-- SES_STATUS: the state of all eight sessions. -/
def execSesStatus (m : Fin 64) (s : State) : Out :=
  s.skeic 0x0104 m fun s => .done s ((span 1 8).flatMap (s.sesWords m))

/-- The state code of mailbox k in MBX_STATUS: a query that is placed is executing (R470). -/
def State.mbxCode (s : State) (k : Nat) : Nat :=
  if (s.mbx k).st = 2 && isQuery (s.opcode k) then 3 else (s.mbx k).st

/-- MBX_STATUS: mailbox states, discards by cause, lost responses. -/
def execMbxStatus (m : Fin 64) (s : State) : Out :=
  s.skeic 0x0105 m fun s => .done s
    ((List.range 8).map (fun i => pack ((List.range 8).map (fun j => (s.mbxCode (8 * i + j), 4)))) ++
      (List.range 6).map (fun c => w32 (tget 0 s.ske.disc c)) ++ [w32 s.ske.lost])

/-- ECHO: its payload unchanged (R486). -/
def execEcho (m : Fin 64) (s : State) : Out := s.skeic 0x0106 m fun s => .done s (s.payload m)

/-- DEV_RESET: answered; the Skeic device reset begins 1 ms after the response is ready (R486). -/
def execDevReset (m : Fin 64) (s : State) : Out :=
  s.skeic 0x0107 m fun s => .done { s with ske := { s.ske with resetDue := true } } []

/-- SKE_PARAM_WRITE (R468, R486). -/
def execSkeParamWrite (m : Fin 64) (s : State) : Out :=
  s.skeic 0x0108 m fun s => s.parWrite 1 m (fun t _ => t)

/-- SKE_PARAM_READ. -/
def execSkeParamRead (m : Fin 64) (s : State) : Out := s.skeic 0x0109 m fun s => s.parRead 1 m

/-- FW_STATUS_GET: slots, trial, image check results. -/
def execFwStatusGet (m : Fin 64) (s : State) : Out :=
  s.skeic 0x010A m fun s =>
    let r (k : Nat) : Nat := tget 7 s.boot.res k
    let v (k : Nat) : Word := if r k = 0 then s.slotWord k 3 else 0
    .done s [pack [(s.boot.slot, 1), (s.p.boot.pref.getD 0, 1), (b2n s.p.boot.trial, 1), (b2n s.boot.fellBack, 1),
      (r 0, 3), (r 1, 3), (s.fuseVal 12 0, 6)], v 0, v 1]

/-- FW_ERASE: the erase of the standby slot starts; the response follows its completion (R487). -/
def execFwErase (m : Fin 64) (s : State) : Out :=
  s.skeic 0x010B m fun s =>
    if s.ske.erasing.isSome then .wait else .run { s with ske := { s.ske with erasing := some m.val } }

/-- The flash erase of the standby slot completes: its result becomes 6 and FW_ERASE is answered (R487). -/
def execFwEraseComplete (s : State) : Out :=
  match s.ske.erasing with
  | none => .next s
  | some m =>
    let t := (s.eraseSlot s.standby).setRes s.standby 6
    .next ({ t with ske := { t.ske with erasing := none } }.respond m 0 [])

/-- FW_IMAGE_WRITE: words into the standby slot, whose pages of 256 bytes count as programmed (R577, R596), result 7; words not
erased since their last write, or beyond the slot, are a host error (R487). -/
def execFwImageWrite (m : Fin 64) (s : State) : Out :=
  s.skeic 0x010C m fun s =>
    let off := (s.pw m 0).fld 22 0
    let n := (s.pw m 1).fld 9 0
    let base := s.standby * slotWords + off
    need ((s.pw m 0).fld 31 23 = 0 && (s.pw m 1).fld 31 10 = 0 && n ≤ 1000) "reserved bits or count" <|
    need (off + n ≤ slotWords) "beyond the slot" <|
    need ((span base n).all (fun k => (tfind s.slot k).isNone)) "words not erased" <|
    let s := { s with slot := (List.range n).foldl (fun t i => tput t (base + i) (s.pw m (2 + i))) s.slot }
    .done ((s.setRes s.standby 7).countC 0x29 0 (if n = 0 then 0 else (off + n - 1) / 64 - off / 64 + 1)) []

/-- FW_IMAGE_CHECK: the tests of R478 on the standby slot (R488). -/
def execFwImageCheck (m : Fin 64) (s : State) : Out :=
  s.skeic 0x010D m fun s =>
    let k := s.standby
    let r := s.imageCheck k
    .done (s.setRes k r) ([pack [(r, 3)]] ++ (if r = 0 then [s.slotWord k 3] else []))

/-- FW_BOOT_SELECT: the journal's boot record for the next boot (R489). -/
def execFwBootSelect (m : Fin 64) (s : State) : Out :=
  s.skeic 0x010E m fun s =>
    let w := s.pw m 0
    need (w.fld 31 2 = 0 && w.fld 1 0 ≠ 3) "reserved bits or code" <|
    let b := s.p.boot
    let b := match w.fld 1 0 with
      | 0 => { b with pref := some s.standby }
      | 1 => { b with trial := true, slot := s.standby }
      | _ => { b with pref := some s.boot.slot, trial := false }
    .commit { s with p := { s.p with boot := b } } (recordBytes 1) []

end Sys2Proof.Machine
end

