-- ==== Sys2Proof/Machine/PowerOps.lean ====
section
/-! DEFINITION. Power domains, device-state transitions, the safe state, and what resets keep (chapters 02 and 17). -/
namespace Sys2Proof.Machine

/-! ### Domains (R40 to R43) -/

/-- A mask with domain d on or off. -/
def setDom (m : BitVec 96) (d : Nat) (b : Bool) : BitVec 96 :=
  if b then m ||| BitVec.ofNat 96 (2 ^ d) else m &&& ~~~BitVec.ofNat 96 (2 ^ d)

/-- A mask of domains. -/
def domMask (l : List Nat) : BitVec 96 := l.foldl (fun m d => setDom m d true) 0

/-- The parents of domain d, from the top down (R41, R42). -/
def parentsOf (m : BitVec 96) (d : Nat) : List Nat :=
  if d < 32 then [95, 64 + d / 4, 32 + d]
  else if d < 64 then [95, 64 + (d - 32) / 4]
  else if d < 72 then [95]
  else if d = 94 && (span 72 8).all (fun k => !m.getLsbD k) then [72]
  else []

/-- The dependants of domain d, from the bottom up (R41, R42). -/
def dependantsOf (m : BitVec 96) (d : Nat) : List Nat :=
  if d = 95 then span 0 72
  else if 64 ≤ d && d < 72 then span (4 * (d - 64)) 4 ++ span (32 + 4 * (d - 64)) 4
  else if 32 ≤ d && d < 64 then [d - 32]
  else if 72 ≤ d && d < 80 && (span 72 8).all (fun k => k == d || !m.getLsbD k) then [94]
  else []

/-- The domains that a switch of domain d switches, in order (R42). -/
def switchList (m : BitVec 96) (d : Nat) (b : Bool) : List Nat :=
  if b then (parentsOf m d ++ [d]).filter (fun k => !m.getLsbD k)
  else (dependantsOf m d ++ [d]).filter (fun k => m.getLsbD k)

/-- The configuration after a switch of domain d (R74). -/
def switchMask (m : BitVec 96) (d : Nat) (b : Bool) : BitVec 96 := (switchList m d b).foldl (fun m k => setDom m k b) m

/-- A chain link's equalisation word: W9 upstream, W10 downstream (R513, R603). -/
def State.linkEq (s : State) (down : Bool) : Nat := (s.btWord (if down then 10 else 9)).fld 22 0

/-- What a domain holds returns to its default when it switches on (R615). -/
def State.domainInit (s : State) (d : Nat) : State :=
  if d < 32 then s.freshCells d false
  else if d < 64 then
    ((s.freshCells (d - 32) false).setBlk (d - 32) (fun b => { held := b.held, starts := b.starts })).clearPerf
      (8 * (d - 32)) (8 * (d - 32) + 7)
  else if d < 72 then
    (s.setReg (d - 64) (fun g => { ring := g.ring, wr := g.wr, gen := g.gen, fails := g.fails, disabled := g.disabled, noSeg := g.noSeg })).clearPerf
      (256 + 8 * (d - 64)) (263 + 8 * (d - 64))
  else if d < 80 then { s with mem := tmod {} s.mem (d - 72) (fun x => { st := 1, retrains := x.retrains }) }
  else if d < 82 then
    let p := d - 80
    let s := s.setPort p (fun _ => {})
    let now := [s.btPort p 0, s.btPort p 1, s.btEq p, s.skeicPort]
    { s with eth := { s.eth with bt := (List.range 4).foldl (fun t i => tput t (4 * p + i) (now.getD i 0)) s.eth.bt } }
  else if d = 82 then { s with ch := { s.ch with up := { eq := s.linkEq false } } }
  else if d = 83 then { s with ch := { s.ch with down := { eq := s.linkEq true } } }
  else if d = 88 then s.engineUp
  else if d = 89 then { s with hk := {}, therm := { st := s.therm.st, sT := s.therm.sT, max_ := s.therm.max_, parkAt := s.therm.parkAt } }
  else if d = 90 then
    { s with seq := { inhibit := s.isl.inhibit, shots := s.seq.shots.filter (·.fired), frames := s.seq.frames.filter (·.ovr)
                      check := s.seq.check, proofRun := s.seq.proofRun } }
  else if d = 91 then { s with cal := {} }
  else if d = 94 then { s with look := {} }.unprotect
  else if d = 95 then { s with est := {}, rej := {} }
  else s

/-- What ends when domain d switches off. Without domain 89 every sensor has failed, each with its event (R549, R553); the reason
that an event gives then is open (log 38). -/
def State.domainEnd (s : State) (d : Nat) : State :=
  if d < 32 then s.stopBlock d
  else if d < 64 then (s.stopBlock (d - 32)).setBlk (d - 32) (fun b => { b with out := [], restart := false })
  else if d < 72 then (s.stopRegion (d - 64)).setReg (d - 64) (fun g => { g with restart := false })
  else if d < 80 then { s with mem := tmod {} s.mem (d - 72) (fun x => { x with st := 3 }) }
  else if d < 82 then s.portDown (d - 80)
  else if d = 82 then { s.dropWaiting with ch := { s.dropWaiting.ch with up := {} } }
  else if d = 83 then { s with ch := { s.ch with down := {} } }
  else if d = 88 then
    let s := s.guardOff
    { s with mc := {} }
  else if d = 89 then
    let new := (List.range 12).filter (fun i => !s.therm.failed.getLsbD i)
    let s := { s with
      hk := { s.hk with st := 0, conv := false, burn := 0, exc := 0 }
      therm := { s.therm with failed := BitVec.allOnes 12, fast := false } }
    new.foldl (fun (s : State) i => s.chipEvent 0x0D02 [i, unsgn 32 (Config.openInt 0x0D02 i)]) s
  else if d = 90 then s.guardOff.truncate
  else if d = 91 then s.calStop
  else if d = 93 then s.setWarm false
  else if d = 94 then { s with look := {} }.unprotect
  else if d = 95 then s.flushFrames
  else s

/-- The masks of domains on, settling and leaving with domain d changed. -/
def State.setPwr (s : State) (d : Nat) (on settling leaving : Bool) : State :=
  { s with pwr := { s.pwr with
      on := setDom s.pwr.on d on, settling := setDom s.pwr.settling d settling, leaving := setDom s.pwr.leaving d leaving } }

/-- Every domain, dependants before parents. -/
def downOrder : List Nat := span 0 72 ++ [94] ++ span 72 22 ++ [95]

/-- Domain d switches off, and all that it holds ends. -/
def State.domainDown (s : State) (d : Nat) : State :=
  if !s.dom d && !s.pwr.leaving.getLsbD d then s else ((s.domainEnd d).setPwr d false false false).noteAbsent

/-- Domain d switches on: it has to settle before it takes part (R75). A follower keeps domain 88 off (R490). -/
def State.domainUp (s : State) (d : Nat) : State :=
  if s.dom d || (d = 88 && s.follower) then s else ((s.domainDown d).setPwr d true true false).domainInit d

/-- Domain d takes part in shots: a block, a region, a memory channel, the control engine, the sequencer, the recorder or the
collector (R40). -/
def shotDomain (d : Nat) : Bool := d < 80 || d = 88 || d = 90 || 94 ≤ d

/-- Domain d is switched off in RUN or QUIET. One that takes part in shots keeps those that fire until it has settled, and those
go to their end in it (R75); the command that switches it off is a device event of the island (R408). -/
def State.domainLeave (s : State) (d : Nat) : State :=
  if !shotDomain d then s.domainDown d
  else if !s.dom d then s
  else
    let s := if d = 88 || d = 90 then s.guardOff else s
    let s := (s.setPwr d false (!s.pwr.settling.getLsbD d) true).noteAbsent
    if 64 ≤ d && d < 72 then s.calInterrupt (d - 64) else s

/-- The memory channels that are off keep nothing of the rings that lie in them (R42, R271). -/
def State.dropRings (s : State) : State :=
  let off (k : Nat) : Bool := !s.dom (72 + k) && !s.pwr.leaving.getLsbD (72 + k)
  (List.range 8).foldl (fun s r =>
    s.setReg r (fun g => { g with ring := g.ring.filter (fun x => !off (if x.spill then (r + 1) % 8 else r)) })) s

/-- Domains that were switched off and have settled end, once no shot fired before is still to be placed; the sequencer's ends as
soon as it has settled (R75). -/
def State.endLeft (s : State) : State :=
  let busy := s.seq.shots.any (fun x => x.fired && !x.placed)
  let gone (d : Nat) : Bool :=
    s.pwr.leaving.getLsbD d && !s.dom d && !s.pwr.settling.getLsbD d && (d == 90 || !busy)
  let l := downOrder.filter gone
  if l.isEmpty then s else (l.foldl (fun s d => s.domainDown d) s).dropRings

/-- Domain d switched with its parents or dependants (R42); shots = they may be in use for shots in flight (R75). -/
def State.switch (s : State) (d : Nat) (b shots : Bool) : State :=
  (switchList s.pwr.on d b).foldl (fun s k =>
    if b then s.domainUp k else if shots then s.domainLeave k else s.domainDown k) s

/-- Every domain, parents before dependants. -/
def upOrder : List Nat := [95] ++ span 64 8 ++ span 32 32 ++ span 0 32 ++ span 72 23

/-- The domains brought to a mask. -/
def State.domainsTo (s : State) (m : BitVec 96) : State :=
  let s := downOrder.foldl (fun s d => if m.getLsbD d then s else s.domainDown d) s
  upOrder.foldl (fun s d => if m.getLsbD d then s.domainUp d else s) s

/-- The domains of PARK (R642). -/
def State.parkMask (s : State) : BitVec 96 := domMask [84] ||| (s.p.dom &&& domMask [80, 81, 89, 93])

/-! ### The state word -/

/-- W0 of PWR_STATE_GET; the safe state reports PARK (R624). -/
def State.stateWord (s : State) : Word :=
  let now : Dev := if s.pwr.safe then .park else s.pwr.dev
  let target : Dev := match s.pwr.trans with
    | some t => t.target
    | none => now
  pack [(now.code, 3), (target.code, 3), (b2n s.pwr.trans.isSome, 1), (b2n s.warm, 1), (b2n s.pwr.failSeen, 1)]

/-! ### Transitions (R64 to R71) -/

/-- The next state on the way to a target (R64). -/
def Dev.step : Dev → Dev → Dev
  | .run, .run => .run
  | .run, _ => .quiet
  | .quiet, .run => .run
  | .quiet, .quiet => .quiet
  | .quiet, _ => .park
  | .park, .run => .quiet
  | .park, .quiet => .quiet
  | .park, .park => .park
  | .park, .sleep => .sleep
  | .park, .off => .off
  | .sleep, .sleep => .sleep
  | .sleep, _ => .park
  | .off, _ => .off

/-- Announced windows are withdrawn, and no frame in progress or latched runs in RUN any more (R217, RUN → QUIET). -/
def State.withdraw (s : State) : State :=
  { s with seq := { s.seq with
      rdRun := false
      latch := s.seq.latch.map (fun (l : Latch) => { l with run := false })
      shots := s.seq.shots.map (fun x => if x.fired then x else { x with gone := true }) } }

/-- Bytes of the wear transaction's records: 11 pages (R588, R591). -/
def wearBytes : Nat := recordBytes (3 * 128 + 256 + 8)

/-- The wear transaction is started (R591). -/
def State.startWear (s : State) : State := s.startTxn 15 wearBytes .none (some s.wear)

/-- The journal commit before SLEEP or OFF is done: towards OFF the response goes out and VMEMQ starts to fall (R62,
R67). -/
def State.exitReady (s : State) : State :=
  let s := { s with pwr := { s.pwr with offCommitted := true } }
  match s.pwr.trans with
  | some t =>
    if t.next = .off then
      let s := match t.mbx with
        | some m => (s.respond m 0 [s.stateWord]).handoff m
        | none => s
      { s with pwr := { s.pwr with falling := max 1 s.pwr.falling, trans := some { t with mbx := none } } }
    else s
  | none => s

/-- The journal commit before SLEEP or OFF (R67, R591): a transaction in progress goes first. -/
def State.exitCommit (s : State) : State :=
  if s.jnl.readOnly then s.exitReady
  else if s.jnl.txn.isSome then s
  else s.startWear

/-- A transition toward a target starts with its next adjacent state (R64, R67). In PARK → QUIET the class V items of the chip
that no domain of PARK holds start from their defaults: ladder, converter queue and chip counters; queue contents, deficits,
sequences and the event sequence count as held there (R614; DESIGN CHOICE, log 91). -/
def State.startStep (s : State) (target : Dev) (mbx : Option Nat) : State :=
  let nx := s.pwr.dev.step target
  let s := { s with pwr := { s.pwr with
    trans := some { next := nx, target := target, mbx := mbx }, offCommitted := false } }
  match s.pwr.dev, nx with
  | .run, .quiet => s.withdraw
  | .quiet, .park =>
    let s := s.calStop
    { s with mc := { s.mc with parking := true, rest := !s.works 88 } }
  | .park, .quiet => ({ s with lad := {}, cq := {}, mc := { s.mc with rest := false } }.clearPerf 320 351 |>.domainsTo s.p.dom).dropRings
  | .park, .sleep => s.exitCommit
  | .park, .off => s.exitCommit
  | .sleep, .park => s.domainsTo s.parkMask
  | _, _ => s

/-- The state logic requests the brake's release in PARK → QUIET: every domain has settled and the memory is trained (R64
table). -/
def State.requestsRelease (s : State) : Bool :=
  match s.pwr.trans with
  | some t => s.pwr.dev == .park && t.next == .quiet && s.pwr.settling == 0 && !s.pwr.safe &&
      (span 72 8).all (fun d => !s.dom d || (tget {} s.mem (d - 72)).st ≠ 1)
  | none => false

/-- Hand-over cannot proceed (R644). -/
def State.noHandoverAtAll (s : State) : Bool := s.seq.run == 0 || s.mc.halt

/-- PARK → QUIET completes by the spin (R644). The release of the brake completes it also where the control engine's domain 88
is off, as configured or in a follower: there is no spin axis then (DESIGN CHOICE, log 62). -/
def State.spinReady (s : State) : Bool :=
  s.isl.released && (!s.dom 88 || s.mc.axes % 2 == 0 || s.mc.offSpin ≠ 0 || (s.mc.spin == 3 && s.mc.trial.isNone))

/-- The condition on which a transition's present step completes (transitions table; R66, R644): PARK with every brake and
torque-off output low, no stop in progress and the mirror's output at 0 (R358); a wake goes on from PARK only with its authentication (R70). -/
def State.stepDone (s : State) (t : Trans) : Bool :=
  match t.next with
  | .quiet => if s.pwr.dev = .run then s.isl.out &&& emitBits == 0 else s.spinReady
  | .run => s.warm && (s.seq.run == 0 || (s.inFrame && s.seq.frames.any (fun f => f.seq == s.kept.frame && !f.ovr && f.run)))
  | .park => s.pwr.dev != .run && (s.pwr.dev != .quiet || s.mirrorDone) && s.isl.out &&& (brkBits ||| tqBits) == 0 && (s.isl.stop == 0 || decide (3 ≤ s.isl.stop)) &&
      !(s.pwr.dev == .park && s.pwr.wake.isSome)
  | .sleep => s.pwr.offCommitted
  | .off => s.pwr.falling == 4

/-! ### What resets and states keep (R614) -/

/-- Programming of a fuse generation stops with the loss of VSUP: what the generation holds then, its marker too, is open (R571;
log 5). -/
def State.stopFuse (s : State) : State :=
  match s.fuse.work with
  | none => s
  | some w =>
    let (v, s) := s.draw (2 ^ 393)
    let g : FuseGen := { value := v % 2 ^ 384 &&& w.value, check := BitVec.ofNat 8 (v / 2 ^ 384) &&& fuseCheck w.field w.value
                         marker := v / 2 ^ 392 == 1 }
    { s with fuse := { s.fuse with work := none, gens := tset {} s.fuse.gens (fuseKey w.field w.inst * 8 + w.gen) g } }

/-- The journal at a reset: its transaction completed or abandoned with its change, a snapshot without a commit record
ignored (R586, R617). A snapshot's page is in progress only while there is no transaction (R584). -/
def State.stopJournal (s : State) : State :=
  let s := match s.jnl.txn with
    | some t =>
      let s := s.abandonTxn
      if t.left ≤ 1 then s else { s with p := s.jnl.held }
    | none => s.stopSnapshot
  { s with jnl := { s.jnl with comp := none, erasing := none } }

/-- The regions with nothing but their segment rings. -/
def ringsOnly (t : Tab Region) : Tab Region :=
  tmap {} t (fun _ g => { ring := g.ring.map (fun x => { x with prot := false }), wr := g.wr, gen := g.gen })

/-- The in-force values that only a power-up sequence replaces (R73). -/
def State.railLag (s : State) : Tab Nat := s.lag.filter (fun e => effOf e.1 == .powerUp)

/-- A number that names no mailbox. -/
def noMbx : Nat := 64

/-- The fuse controller, always-on logic, goes on programming over a warm reset; no response waits for it any more (R571,
R614). -/
def Fuses.orphan (x : Fuses) : Fuses := { x with work := x.work.map (fun (w : FuseWork) => { w with mbx := noMbx }) }

/-- Everything but class F and P, class S, the always-on logic and the memory's contents at its default (R614: pin, Skeic
device and safety reset; SLEEP). The memory rails keep their set-points (R73); the seconds that TB_TIME_SET named for PPS_IN
are of the time since power-on (R91); the frame sequence goes on after a frame that a reset has ended (R209). -/
def State.volatileReset (s : State) : State :=
  let s := s.calReset.stopJournal
  let kept := if s.inFrame then { s.kept with frame := wrap 32 (s.kept.frame + 1) } else s.kept
  { pending := s.pending, free := s.free, fuse := s.fuse.orphan, p := s.p, wear := s.wear, cal := { res := s.cal.res }, jnl := s.jnl, slot := s.slot
    boot := s.boot, pwr := s.pwr, enum := s.enum, kept := kept, isl := s.isl.endTest, memCfg := s.memCfg, lag := s.railLag
    regions := ringsOnly s.regions, therm := { max_ := s.therm.max_ }, seq := { inhibit := s.isl.inhibit }, tb := { ppsIn := s.tb.ppsIn } }

/-- A cold reset (R606, R614): only fuses, journal and firmware slots are kept. The device waits for power-on release. -/
def State.coldReset (s : State) (kind : Nat) : State :=
  let before := if s.pwr.safe then Dev.park else s.pwr.dev
  let safe := s.pwr.safe
  let s := s.calReset.stopFuse.stopJournal
  { pending := s.pending, free := s.free, fuse := s.fuse, p := s.jnl.held, wear := s.jnl.wear, jnl := s.jnl, slot := s.slot
    boot := { kind := kind, before := before.code, safeBefore := safe }
    pwr := { alive := false, powerUp := false } }

/-- The chain links stay on where the safe state goes on passing on what other devices send (R515; DEDUCED, log 82). -/
def State.linksKept (s : State) : BitVec 96 :=
  if s.pwr.safe && s.enum.addr.isSome && s.pwr.safeCause ≠ 1 && s.pwr.safeCause ≠ 4 then s.pwr.on &&& domMask [82, 83] else 0

/-- Entry into PARK: the domains of PARK, memory into self-refresh (R64 table, R273). -/
def State.enterPark (s : State) : State :=
  let s := s.domainsTo (s.parkMask ||| s.linksKept)
  { s with pwr := { s.pwr with dev := .park }, therm := { s.therm with parkAt := some s.tb.tick } }

/-- What the Skeic interface keeps in SLEEP: the commands that wait for the transition (R67), no session and nothing else
(R614; DEDUCED, log 63). -/
def State.sleepers (s : State) : Skeic :=
  let ms := s.pwr.queue.map (·.2)
  { mbx := s.ske.mbx.filter (fun e => ms.contains e.1), mem := s.ske.mem.filter (fun e => ms.contains (e.1 / 1024)) }

/-- Every safety output low, as in SLEEP and OFF (R373 table). -/
def Island.lower (x : Island) : Island := { x.brake false with out := 0, rising := none }

/-- Entry into SLEEP: everything off but the wake port's logic (R64 table, R614). Domain 93 is off: the warm flag clears
(R80). -/
def State.enterSleep (s : State) : State :=
  let p := s.val PWR_WAKE_PORT
  let s := s.setWarm false
  let wake := s.port p
  let bt := s.eth.bt
  let t := s.volatileReset
  { t with
    pwr := { t.pwr with dev := .sleep, on := 0, settling := 0, leaving := 0, trans := none, ended := [], wake := none }
    eth := { t.eth with port := tset {} [] p wake, bt := bt }
    ske := s.sleepers
    isl := t.isl.lower }

/-- Entry into OFF: the regulators are off (R64 table, R614). -/
def State.enterOff (s : State) : State :=
  let t := s.volatileReset
  { t with
    pwr := { dev := .off, powerUp := false, failSeen := t.pwr.failSeen }
    kept := {}, regions := [], isl := t.isl.lower }

/-- The target of a PWR_STATE_SET: in thermal state 3 QUIET and RUN are carried out only as far as PARK (R552). -/
def State.allowed (s : State) (d : Dev) : Dev := if s.therm.st = 3 && (d = .run || d = .quiet) then .park else d

/-- PWR_STATE_SET commands that wait are taken up when a transition has completed (R67), in SLEEP too. -/
def State.nextQueued : List (Dev × Nat) → State → State
  | [], s => { s with pwr := { s.pwr with queue := [] } }
  | (d, m) :: r, s =>
    let d := s.allowed d
    if s.pwr.dev = d then State.nextQueued r ((s.respond m 0 [s.stateWord]).handoff m)
    else ({ s with pwr := { s.pwr with queue := r } }).startStep d (some m)

/-- The superseded commands are answered when the superseding transition has completed (R67). -/
def State.answerEnded (s : State) : State :=
  let ms := s.pwr.ended
  let s := { s with pwr := { s.pwr with ended := [] } }
  ms.foldl (fun s m => s.respond m 0 [s.stateWord]) s

/-- A transition's present step completes: the next one starts, or the command is answered (R64, R67). -/
def State.completeStep (s : State) (t : Trans) : State :=
  match t.next with
  | .sleep =>
    let s := match t.mbx with
      | some m => ({ s with pwr := { s.pwr with dev := .sleep, trans := none } }.respond m 0
          [{ s with pwr := { s.pwr with dev := .sleep, trans := none } }.stateWord]).handoff m
      | none => s
    let s := s.enterSleep
    State.nextQueued s.pwr.queue s
  | .off => s.enterOff
  | _ =>
    let s := match s.pwr.dev, t.next with
      | .sleep, .park =>
        let s := s.enterPark
        { s with ske := { s.ske with serving := s.pwr.wake.isNone } }
      | _, .park => s.enterPark
      | .park, .quiet =>
        let s := (s.domainsTo s.p.dom).dropRings
        { s with pwr := { s.pwr with dev := .quiet }, isl := { s.isl with msgAt := s.isl.us } }
      | _, .quiet => { s with pwr := { s.pwr with dev := .quiet }, isl := { s.isl with msgAt := s.isl.us } }
      | _, d => { s with pwr := { s.pwr with dev := d } }
    if s.pwr.wake.isSome then s
    else if s.pwr.dev = t.target then
      let s := { s with pwr := { s.pwr with trans := none } }
      let s := match t.mbx with
        | some m => s.respond m 0 [s.stateWord]
        | none => s
      let s := s.answerEnded
      State.nextQueued s.pwr.queue s
    else s.startStep t.target t.mbx

/-! ### The safe state (R623) -/

/-- A chip-level fault supersedes the transition in progress: the device goes to PARK, or is there and answers (R67, R68). -/
def State.toPark (s : State) : State :=
  let moving := s.pwr.dev ≠ .park || s.pwr.trans.isSome
  let sleeping := s.pwr.dev = .sleep
  let s := s.supersede
  if moving then
    let s := { s with pwr := { s.pwr with trans := some { next := .park, target := .park } } }
    if sleeping then s.domainsTo s.parkMask else s
  else s.answerEnded

/-- The safe state with its cause. -/
def State.markSafe (s : State) (cause : Nat) : State := { s with pwr := { s.pwr with safe := true, safeCause := cause } }

/-- The chip runs: its rails are up and no reset is asserted. -/
def State.chipRuns (s : State) : Bool := s.pwr.good && s.boot.phase ≠ 2 && s.pwr.dev ≠ .off

/-- A chip-level fault: 1 fabric fatal error, 2 reference loss, 3 timing PLL, 4 supply fault (R35, R619, R623). The device
goes to PARK with the island's stop report. The supply monitor is always on (R55): its fault leads to the safe state also in
the power-up sequence, in a reset and in OFF, where there is no more to end (event 0006h comes after 0210h, R613). -/
def State.enterSafe (s : State) (cause : Nat) : State :=
  if s.pwr.safe || !s.pwr.alive then s
  else if !s.chipRuns then
    if cause ≠ 4 then s
    else if s.pwr.powerUp || s.pwr.good then ((s.markSafe 4).deviceEvent).chipEvent 0x0006 [4]
    else (s.markSafe 4).deviceEvent
  else
    let s := (s.markSafe cause).toPark
    let s := { s with
      blocks := tmap {} s.blocks (fun _ b => { b with restart := false })
      regions := tmap {} s.regions (fun _ g => { g with restart := false }) }
    let s := s.withdraw.deviceEvent.chipEvent 0x0006 [cause]
    let s := (List.range 8).foldl (fun s r => s.retractRegion r 6) s
    s.calStop

/-! ### The thermal states (R550, R552 to R554) -/

/-- The thermal state after a set of readings: the highest whose entry condition holds or whose leaving condition does
not (R550, R552). -/
def Therm.state (t : Therm) : Nat :=
  let hold3 := t.st = 3 && !(t.th < 2016 && 64 ≤ t.sT && t.failed == 0)
  if 2080 ≤ t.th || t.sT < 64 || t.failed ≠ 0 || hold3 then 3
  else if 1936 ≤ t.th || (2 ≤ t.st && 1872 ≤ t.th) then 2
  else if 1840 ≤ t.th || (1 ≤ t.st && 1776 ≤ t.th) then 1
  else 0

/-- A signed reading as a field of 16 bits. -/
def half (i : Int) : Nat × Nat := (unsgn 16 i, 16)

/-- The thermal record (R554). A scale below 0 does not fit W1: the field is open then (log 5). -/
def State.thermalRecord (s : State) : List Word × State :=
  let t := s.therm
  let r := if t.sT < 0 then s.draw 512 else (t.sT.toNat, s)
  let rd (i : Nat) : Word := pack [half (tget 0 t.t (2 * i)), half (tget 0 t.t (2 * i + 1))]
  ([pack [(s.addr, 3), (0, 5), (2, 8), (t.st, 2), (b2n t.fast, 1), (t.failed.toNat, 12)], pack [(r.1, 9)], 11,
    recW3 s.kept.frame 0x61 0] ++ (List.range 6).map rd ++ [pack [half t.th, (t.hot, 4)]], r.2)

/-- A thermal record made: kept as the latest, and enqueued (R554); HK_THERMAL_REPORT_MS takes effect (R555). -/
def State.thermalOut (s : State) : State :=
  let (w, s) := s.thermalRecord
  let s := ({ s with therm := { s.therm with last := w.take 2 ++ w.drop 4 } }).force .thermal
  s.enqueueAll 8 (fun _ => true) (fun _ => w)

/-- On entry into thermal state 3 the device leaves RUN or QUIET, or turns back on its way there, and goes to PARK; a
transition in progress is superseded, that toward SLEEP or OFF and a wake too (R552). The safe state goes its own way. -/
def State.shutdown (s : State) : State :=
  if s.pwr.safe then s
  else match s.pwr.dev with
    | .run => s.supersede.startStep .park none
    | .quiet => s.supersede.startStep .park none
    | .park =>
      if s.pwr.trans.any (fun t => t.next == .quiet) then
        { s.overrule with mc := { s.overrule.mc with parking := true, rest := !s.works 88 } }
      else { s.overrule with therm := { s.overrule.therm with parkAt := some s.tb.tick } }
    | .sleep => s.overrule
    | .off => s

/-- The thermal state evaluated: a change enqueues its event and a thermal record (R550). -/
def State.thermalState (s : State) : State :=
  let old := s.therm.st
  let new := s.therm.state
  if old = new then s
  else
    let s := { s with therm := { s.therm with st := new } }
    let s := (s.chipEvent 0x0D01 [new, old, s.therm.hot, unsgn 32 s.therm.th]).thermalOut
    if new = 3 then s.shutdown else s

/-! ### PWR_DOMAIN_SET (R74) -/

/-- The three words of a mask of domains. -/
def domWords (m : BitVec 96) : List Word := (List.range 3).map (fun i => w32 (m.toNat >>> (32 * i)))

/-- The response of PWR_DOMAIN_SET and PWR_DOMAIN_GET (R74). -/
def State.domResponse (s : State) : List Word := domWords s.pwr.on ++ domWords s.p.dom

/-- The domains of a PWR_DOMAIN_SET are switched (R74), in ascending number: in RUN and QUIET each with its parents or
dependants, in PARK those of 80, 81, 89 and 93 whose configuration has changed. -/
def State.switchDomains (s : State) (ds : BitVec 96) (on : Bool) (old : BitVec 96) : State :=
  let t := match s.pwr.dev with
    | .run => (((List.range 96).filter (fun d => ds.getLsbD d)).foldl (fun s d => s.switch d on true) s).dropRings.endLeft
    | .quiet => (((List.range 96).filter (fun d => ds.getLsbD d)).foldl (fun s d => s.switch d on true) s).dropRings.endLeft
    | .park => [80, 81, 89, 93].foldl (fun s d =>
        if old.getLsbD d = s.p.dom.getLsbD d then s else s.switch d (s.p.dom.getLsbD d) false) s
    | _ => s
  if s.dom 89 && !t.dom 89 then t.thermalState else t

end Sys2Proof.Machine
end

