-- ==== Sys2Proof/Machine/JournalRows.lean ====
section
/-! DEFINITION. The journal's events: pages, snapshots, erases, wear transactions (chapter 16). -/
namespace Sys2Proof.Machine

/-- What waits for a transaction goes on (R74, R410, R466, R561, R580). -/
def State.waiterDone (s : State) (w : Waiter) : State :=
  match w with
  | .none => s
  | .answer m p => s.respond m 0 p
  | .wake m => s.setMbx m (fun b => { b with wakeWait := false })
  | .forward down ws => s.toLink down 2 ws
  | .calPart part result failed =>
    let s := s.chipEvent 0x0E01 [part, result, failed]
    if s.cal.run.any (fun r => r.part.isNone && r.left.isEmpty) then s.calEnd else s
  | .safSet m p => (s.activate (s.p.saf.getD [])).respond m 0 p
  | .domains m ds on old =>
    let s := s.switchDomains ds on old
    s.respond m 0 s.domResponse

/-- A transition to SLEEP or OFF goes on after a commit (R67). -/
def State.exitAfter (s : State) (wear : Bool) : State :=
  match s.pwr.trans with
  | some t =>
    if (t.next = .sleep || t.next = .off) && !s.pwr.offCommitted then (if wear then s.exitReady else s.exitCommit) else s
  | none => s

/-- The next wake message for another device gets the transaction of its SKE_WAKE_SEQ, once none is being written; with a
read-only journal all go on (R466). -/
def State.nextWake (s : State) : State :=
  if s.jnl.readOnly then
    s.ske.fwdWakes.foldl (fun (s : State) (e : Bool × List Word) => s.toLink e.1 2 e.2)
      { s with ske := { s.ske with fwdWakes := [] } }
  else if s.jnl.txn.isSome then s
  else match s.ske.fwdWakes with
    | [] => s
    | (down, ws) :: r => { s with ske := { s.ske with fwdWakes := r } }.startTxn 1 (recordBytes 1) (.forward down ws)

/-- A transaction has its valid commit record (R580). -/
def State.commitTxn (s : State) (t : Txn) : State :=
  ((({ s with jnl := s.jnl.commit t } : State).waiterDone t.waiter).exitAfter t.wear.isSome).nextWake

/-- The journal becomes read-only with event 0F01h; the change is applied and answered (R587). -/
def State.goReadOnly (s : State) (failed : Nat) : State :=
  let w := match s.jnl.txn with
    | some t => t.waiter
    | none => .none
  let s := { s with jnl := { s.jnl with readOnly := true, txn := none, comp := none } }
  (((s.chipEvent 0x0F01 [failed]).waiterDone w).exitAfter false).nextWake

/-- A page is programmed and read back (R577, R582); a page that fails is written again at the next one, and the fourth
failure makes the journal read-only (R587). -/
def execJournalPageProgrammed (ok : Bool) (s : State) : Out :=
  match s.jnl.txn with
  | none => .next s
  | some t =>
    let s := s.takePage
    let t := { t with blk := t.blk.or (some s.jnl.blockNow) }
    if !ok then
      if 4 ≤ t.failed + 1 then .next (s.goReadOnly (t.failed + 1))
      else .next { s with jnl := { s.jnl with txn := some { t with failed := t.failed + 1 } } }
    else if t.left ≤ 1 then .next (s.commitTxn t)
    else .next { s with jnl := { s.jnl with txn := some { t with left := t.left - 1 } } }

/-- A snapshot page is written while no other transaction waits (R584); the page of the begin record says which block and which
count of opened blocks the snapshot starts from (R583, R585). -/
def execSnapshotPage (ok : Bool) (s : State) : Out :=
  match s.jnl.comp with
  | none => .next s
  | some c =>
    if s.jnl.txn.isSome then .next s
    else
      let (s, c) := s.snapPage c
      if !ok then
        if 4 ≤ c.failed + 1 then .next (s.goReadOnly (c.failed + 1))
        else .next { s with jnl := { s.jnl with comp := some { c with failed := c.failed + 1 } } }
      else
        let (d, last) := s.nextSnapPage c
        if last then .next (s.commitSnapshot d)
        else .next { s with jnl := { s.jnl with comp := some d } }

/-- The erase in progress is suspended while a transaction's pages are written, and from the power-fail warning on; it is resumed
afterwards (R585, R588). -/
def State.eraseSuspended (s : State) : Bool := s.jnl.txn.isSome || s.pwr.failing

/-- Event 0F03h when the highest erase count passes 80 % or 100 % of JNL_ENDURANCE × 1,000 (R593). -/
def State.wearWarning (s : State) : State :=
  let hi := s.jnl.eraseSpan.2
  let full := s.val JNL_ENDURANCE * 1000
  let n := if full < hi then 2 else if full * 8 < hi * 10 then 1 else 0
  if n ≤ s.jnl.wearWarn then s
  else ({ s with jnl := { s.jnl with wearWarn := n } }).chipEvent 0x0F03 [hi, n]

/-- A block erase completes, or fails and the block is retired with event 0F05h; the next one starts (R585, R587). What the block
held of the journal is gone. -/
def execBlockEraseComplete (ok : Bool) (s : State) : Out :=
  match s.jnl.erasing with
  | none => .next s
  | some a =>
    if s.eraseSuspended then .next s
    else
      let old := (tget {} s.jnl.blocks a).seq
      let set (f : JBlock → JBlock) : State :=
        { s with jnl := ({ s.jnl with erasing := none, blocks := tmod {} s.jnl.blocks a f } : Journal).eraseOn }
      if ok then
        let t := set (fun b => { st := 0, erases := b.erases + 1, seq := 0 })
        .next { t with jnl := { t.jnl with log := t.jnl.log.filter (fun x => x.blk != old) } }.wearWarning
      else .next ((set (fun b => { b with st := 3 })).chipEvent 0x0F05 [a])

/-- The wear transaction is written every JNL_WEAR_S, once no other is being written (R581, R591). -/
def execWearTransaction (s : State) : Out :=
  .next (if s.jnl.readOnly || s.jnl.txn.isSome then s else s.startWear)

end Sys2Proof.Machine
end

