-- ==== Sys2Proof/Machine/Power.lean ====
section
/-! DEFINITION. Supply, wake, device-state transitions, domain switching and the 02xxh commands (chapter 02). -/
namespace Sys2Proof.Machine

/-! ### Wake (R69, R70) -/

/-- A wake frame on the wake port in SLEEP (R69): unicast MAC address, Skeic UDP port, opcode 0202h, target 0 to 2. -/
def execWakeFrame (mac dport : Nat) (d : Arrival) (s : State) : Out :=
  let ws := bytesWords d.bytes
  let target : Dev := match (hdr ws 4).fld 2 0 with
    | 0 => .run
    | 1 => .quiet
    | _ => .park
  if s.pwr.dev ≠ .sleep || s.pwr.trans.isSome || s.pwr.safe || d.port.n ≠ s.val PWR_WAKE_PORT || mac ≠ s.macOf d.port.n ||
    dport ≠ s.skeicAt d.port.n || (hdr ws 0).fld 15 0 ≠ 0x0202 || 2 < (hdr ws 4).fld 2 0 then .next s
  else
    let s := s.startStep target none
    .next { s with pwr := { s.pwr with wake := some d } }

/-- The wake message passes the checks of a session-0 message with the wake key (R453, R466). -/
def State.wakeOk (s : State) (d : Arrival) : Bool :=
  let ws := bytesWords d.bytes
  d.bytes.length == wantedBytes ws false && (hdr ws 2).fld 3 0 == 0 && macOk (s.keyOf ws false) ws && s.seqOk ws false &&
    (hdr ws 0).fld 24 22 == s.addr

/-- The firmware authenticates the wake message (R70): the device is in PARK and the message placed, or event 0202h and
SLEEP again. -/
def execWakeAuthentication (s : State) : Out :=
  match s.pwr.wake with
  | none => .next s
  | some d =>
    if s.wakeOk d then
      let s := if s.pwr.dev = .park then s else s.enterPark
      let s := { s with pwr := { s.pwr with wake := none, trans := none }, ske := { s.ske with serving := true } }
      s.placeMessage (bytesWords d.bytes) none d
    else .next (s.chipEvent 0x0202 []).enterSleep

/-! ### 02xxh commands -/

/-- PWR_STATE_GET; mv and ma as measured at VSUP_SNS. -/
def execPwrStateGet (m : Fin 64) (mv ma : Nat) (s : State) : Out :=
  s.skeic 0x0201 m fun s => .done s [s.stateWord, pack [(mv, 16), (ma, 16)]]

/-- The state that a code names. -/
def devOf (n : Nat) : Dev :=
  match n with
  | 0 => .run
  | 1 => .quiet
  | 2 => .park
  | 3 => .sleep
  | _ => .off

/-- SKE_WAKE_SEQ, taken with the message, is journaled; the message goes on once that has committed (R466). -/
def State.wakeCommit (s : State) (m : Nat) : State :=
  if s.jnl.readOnly then s.setMbx m (fun b => { b with wakeWait := false }) else s.startTxn 1 (recordBytes 1) (.wake m)

/-- PWR_STATE_SET (R67): a transition starts, waits for the one in progress, or is complete already. A wake message waits
for the commit of its sequence first (R466), unless the safe state turns it away (R624). -/
def execPwrStateSet (m : Fin 64) (s : State) : Out :=
  if s.holds m 0x0202 && (s.mbx m).wakeWait && !s.pwr.safe then .next (if s.jnl.txn.isSome then s else s.wakeCommit m)
  else
    s.skeic 0x0202 m fun s =>
      need ((s.pw m 0).fld 31 3 = 0 && (s.pw m 0).fld 2 0 ≤ 4) "target" <|
      need ((s.pw m 0).fld 2 0 ≠ 3 || !(s.follower || s.ch.mems.any (fun e => e.2.reach))) "SLEEP in a chain" <|
      let d := s.allowed (devOf ((s.pw m 0).fld 2 0))
      if s.pwr.trans.isSome then .later { s with pwr := { s.pwr with queue := s.pwr.queue ++ [(d, m.val)] } }
      else if s.pwr.dev = d then .done s [s.stateWord]
      else .later (s.startStep d (some m.val))

/-- PWR_DOMAIN_SET (R74, R642): the configuration is committed first; then the domains are switched, and the response
follows. -/
def execPwrDomainSet (m : Fin 64) (s : State) : Out :=
  s.skeic 0x0203 m fun s =>
    let ds := (List.range 96).filter (fun d => (s.pw m (d / 32)).bit (d % 32))
    let on := (s.pw m 3).bit 0
    let after := (ds.filter (· < 72)).foldl (fun k d => switchMask k d on) s.pwr.on
    need ((s.pw m 3).fld 31 1 = 0) "reserved bits" <|
    need (on || !ds.contains 84) "domain 84 off" <|
    need (on || !(List.range 8).any (fun r => ds.contains (72 + r) && s.dom (72 + r) && after.getLsbD (64 + r)))
      "memory channel of a region that is on" <|
    if s.jnl.txn.isSome then .wait
    else
      let old := s.p.dom
      let s := { s with p := { s.p with dom := ds.foldl (fun k d => switchMask k d on) old } }
      if s.jnl.readOnly then
        let t := s.switchDomains (domMask ds) on old
        .done t t.domResponse
      else .later (s.startTxn 2 (recordBytes 3) (.domains m (domMask ds) on old))

/-- PWR_DOMAIN_GET (R74). -/
def execPwrDomainGet (m : Fin 64) (s : State) : Out := s.skeic 0x0204 m fun s => .done s s.domResponse

/-- PWR_RAIL_READ: voltage in mV and current in 10 mA of the five rails, package power in 10 mW, as measured. -/
def execPwrRailRead (m : Fin 64) (rails : List (Nat × Nat)) (power : Nat) (s : State) : Out :=
  s.skeic 0x0205 m fun s =>
    .done s ((List.range 5).map (fun i => let r := rails.getD i (0, 0); pack [(r.1, 16), (r.2, 16)]) ++ [pack [(power, 16)]])

/-- PWR_PARAM_WRITE (R72, R73). -/
def execPwrParamWrite (m : Fin 64) (s : State) : Out := s.skeic 0x0206 m fun s => s.parWrite 2 m (fun t _ => t)

/-- PWR_PARAM_READ. -/
def execPwrParamRead (m : Fin 64) (s : State) : Out := s.skeic 0x0207 m fun s => s.parRead 2 m

/-! ### Supply (R55 to R63) -/

/-- Power-on release: the power-up sequence starts (R55, R60, R73). -/
def execPowerOnRelease (s : State) : Out :=
  if s.pwr.alive then .next s
  else .next (({ s with pwr := { s.pwr with alive := true, powerUp := true } }).force .powerUp)

/-- The boot ROM's choice of fuse generations, and after a cold reset the island's copy of its bounds (R570). -/
def State.readFuses (s : State) : State :=
  let s := s.chooseFuses
  if s.boot.kind = 1 || s.boot.kind = 2 then { s with fuse := { s.fuse with island := s.fuse.shadow } } else s

/-- A rail completes its soft-start; with the last one PWR_GOOD rises, the heater is on and the boot begins (R60, R61). -/
def execRailSoftStartComplete (s : State) : Out :=
  if !s.pwr.alive || !s.pwr.powerUp then .next s
  else
    let s := { s with pwr := { s.pwr with rails := s.pwr.rails + 1 } }
    if s.pwr.rails < 5 then .next s
    else
      .next { s with pwr := { s.pwr with rails := 5, powerUp := false, good := true, dev := .park, on := domMask [93] } }.readFuses

/-- The power-fail warning (R57, R588): no shot fires, torque off, event 0201h; blocks, regions, control engine and
look-back switch off, the memory rails fall, and the wear counters are journaled. A transition in progress is superseded
(R67, R68). -/
def execPowerFailWarning (s : State) : Out :=
  if !s.pwr.alive || s.pwr.failing then .next s
  else
    let falling := max 1 s.pwr.falling
    let s := if s.pwr.dev = .sleep || s.pwr.dev = .off then s.supersede else s.toPark
    let s := { s with
      pwr := { s.pwr with failing := true, failSeen := true, safe := true, safeCause := 4, falling := falling }
      boot := { s.boot with phase := 0 } }
    let s := s.withdraw.deviceEvent.chipEvent 0x0201 []
    let s := (List.range 8).foldl (fun s r => s.retractRegion r 6) s
    let s := (span 0 72 ++ [88, 94]).foldl (fun (s : State) d => s.domainDown d) s.calStop
    let s := { s with mem := (List.range 8).foldl (fun t k => tmod {} t k (fun x => { x with st := 3 })) s.mem }
    let s := s.stopJournal
    if s.jnl.readOnly then .next s
    else
      let s := s.startWear
      let t : Option Txn := s.jnl.txn.map (fun (t : Txn) => { t with powerFail := true })
      .next { s with jnl := { s.jnl with txn := t } }

/-- The commit of the power-fail sequence completes; where VSUP has recovered the device resets itself (R57). -/
def execPowerFailCommitDone (recovered : Bool) (s : State) : Out :=
  if !s.pwr.failing then .next s
  else
    let s := match s.jnl.txn with
      | some t => if t.powerFail then s.commitTxn t else s
      | none => s
    .next (if recovered then s.coldReset 2 else s)

/-- The brownout reset (R55, R606). -/
def execBrownoutReset (s : State) : Out := .next (if s.pwr.alive then s.coldReset 2 else s)

/-- VSUP_SNS above 5.75 V (R55). -/
def execOvervoltage (s : State) : Out := .next (s.enterSafe 4)

/-- VSUP and VSUP_SNS differ (R55). -/
def execSenseMismatch (s : State) : Out := .next (s.enterSafe 4)

/-- A regulated rail has left ±5 % for 5 µs: PWR_GOOD is low, a supply fault (R63). -/
def execRailOutOfBand (rail : Fin 5) (s : State) : Out :=
  if !s.pwr.good then .next s
  else .next (({ s with pwr := { s.pwr with band := s.pwr.band ||| BitVec.ofNat 5 (2 ^ rail.val) } }).enterSafe 4)

/-- A memory rail of the ordered power-down is below 10 % of its set-point (R62). -/
def execRailRampDownComplete (s : State) : Out :=
  .next (if s.pwr.falling = 0 || 4 ≤ s.pwr.falling then s
    else { s with pwr := { s.pwr with falling := s.pwr.falling + 1 } })

/-! ### Transitions -/

/-- A transition's present step completes (R64 to R67). -/
def execStateTransitionComplete (s : State) : Out :=
  match s.pwr.trans with
  | some t => .next (if s.stepDone t then s.completeStep t else s)
  | none => .next s

/-- PARK → QUIET completes after 100 ms of steady speed or rest where hand-over cannot proceed (R644). -/
def execParkQuietSettle (s : State) : Out :=
  match s.pwr.trans with
  | some t =>
    .next (if s.pwr.dev = .park && t.next = .quiet && s.isl.released && s.noHandoverAtAll && 2500 ≤ s.mc.okRun then
      s.completeStep t else s)
  | none => .next s

/-- A switched domain has settled: the change holds for the shots that fire from now on (R75). One that was switched off ends
once no shot fired before is still to be placed. -/
def execDomainSettled (d : Fin 96) (s : State) : Out :=
  .next ({ s with pwr := { s.pwr with settling := setDom s.pwr.settling d false } }).noteAbsent.endLeft

/-! ### Clock faults (R82, R84, R86) -/

/-- The timing PLL declares loss of lock (R82). -/
def execTimingPllLoss (s : State) : Out :=
  if !s.tb.locked then .next s else .next (({ s with tb := { s.tb with locked := false } }).enterSafe 3)

/-- A region tree is lost (R84): a region restart. -/
def execRegionTreeLost (r : Fin 8) (s : State) : Out := .next (s.regionError r 3)

/-- The reference cross-check at the end of a window (R86, R87): counts of the island's 50 MHz clock over 100 µs, nominal
5,000, by the island and by the reference domain, first against the own Clove and then, in a follower alone, against
CHAIN_REF_IN (R498). -/
def execReferenceCheckWindow (island reference : Nat × Nat) (s : State) : Out :=
  let ok (n : Nat) : Bool := decide (4900 ≤ n) && decide (n ≤ 5100)
  let own := ok island.1 && ok reference.1
  let chain := !s.follower || (ok island.2 && ok reference.2)
  .next (if own && chain then s else s.enterSafe 2)

end Sys2Proof.Machine
end

