-- ==== Sys2Proof/Machine/Housekeeping.lean ====
section
/-! DEFINITION. The housekeeping scan, the mirror sensor channel, temperature sensors and thermal states, and the 0Dxxh
commands (chapter 14). -/
namespace Sys2Proof.Machine

/-! ### Slots -/

/-- The entry of scan slot n (R532 table). -/
def State.slotEntry (s : State) (n : Nat) : List Word := tget [0x100, 100] s.p.slots n

/-- Input, differential, range, preset, burn-out, excitation source, excitation, DC block, curve and settling delay of a
slot entry. -/
def slotInput (e : List Word) : Nat := (wd e 0).fld 4 0
def slotDiff (e : List Word) : Bool := (wd e 0).bit 5
def slotRange (e : List Word) : Nat := (wd e 0).fld 7 6
def slotBurn (e : List Word) : Nat := (wd e 0).fld 11 10
def slotSource (e : List Word) : Nat := (wd e 0).fld 13 12
def slotExc (e : List Word) : Nat := (wd e 0).fld 16 14
def slotDc (e : List Word) : Bool := (wd e 0).bit 17
def slotCurve (e : List Word) : Nat := (wd e 0).fld 21 18

/-- The slot names HK31 or uses HKX3. -/
def slotOnCa (e : List Word) : Bool :=
  slotInput e == 31 || (slotDiff e && slotInput e == 30) || (slotSource e == 3 && slotExc e ≠ 0)

/-- A slot entry holds only values that the table allows. -/
def slotOk (e : List Word) : Bool :=
  slotRange e ≠ 3 && slotBurn e ≠ 3 && slotExc e ≠ 7 && (slotCurve e ≤ 4 || 8 ≤ slotCurve e) &&
    (!slotDiff e || slotInput e % 2 == 0) && (wd e 0).fld 31 22 == 0 && (wd e 1).fld 31 10 == 0 && (wd e 1).fld 9 0 ≤ 1000

/-- Full scale of a range in V (R532 table). -/
def hkFullScale (r : Nat) : Rat := if r = 0 then 5 / 2 else if r = 1 then 5 / 16 else 5 / 128

/-- A code clipped (R534), and whether it was. -/
def clipCode (c : Int) : Int × Bool :=
  if c < -8388607 then (-8388607, true) else if 8388607 < c then (8388607, true) else (c, false)

/-- Volatile state of slot n. -/
def State.hkSlot (s : State) (n : Nat) : HkSlot := tget {} s.hk.slots n

/-- Slot n's volatile state changed. -/
def State.setHkSlot (s : State) (n : Nat) (f : HkSlot → HkSlot) : State :=
  { s with hk := { s.hk with slots := tmod {} s.hk.slots n f } }

/-! ### Curves (R537, R538) -/

/-- Nominal excitation current in A of an excitation code. -/
def excAmps (c : Nat) : Rat :=
  match c with
  | 1 => 1 / 100000
  | 2 => 1 / 20000
  | 3 => 1 / 10000
  | 4 => 1 / 4000
  | 5 => 1 / 1000
  | _ => 0

/-- A nominal value corrected by the calibrated deviation in ppm of a key (R559). -/
def State.hkValue (s : State) (key : Nat) (x : Rat) : Rat := x * (1 + ((tget 0 s.p.hkCal key : Int) : Rat) / 1000000)

/-- Excitation current of a slot as calibrated. -/
def State.excCurrent (s : State) (e : List Word) : Rat := s.hkValue (8 + 8 * slotSource e + slotExc e) (excAmps (slotExc e))

/-- Resistance of a platinum sensor relative to 0 °C, at k/1,024 °C. The coefficients above 0 °C stand in chapter 14's
example; the third is that of IEC 60751 (PRESUMED, log 33). -/
def ptRatio (k : Int) : Rat :=
  let t : Rat := (k : Rat) / 1024
  1 + 39083 / 10000000 * t - 5775 / 10000000000 * (t * t) -
    (if k < 0 then 4183 / 1000000000000000 * ((t - 100) * (t * t * t)) else 0)

/-- The largest k up to 870,400 whose ratio is at most r, by bisection over n bits from k on. -/
def ptSearch : Nat → Rat → Int → Int
  | 0, _, k => k
  | n + 1, r, k => let t := k + (2 ^ n : Nat); ptSearch n r (if t ≤ 870400 && ptRatio t ≤ r then t else k)

/-- A curve's result: value and overrange. -/
abbrev CurveOut := Int × Bool

/-- Curves 1 and 2: temperature of a ratio in 1/1,024 °C; between two steps the rounding is open (log 10). -/
def ptValue (r : Rat) : CurveOut :=
  if r < ptRatio (-204800) then (-204800, true)
  else if ptRatio 870400 < r then (870400, true)
  else
    let k := ptSearch 21 r (-204800)
    (if ptRatio k = r then k else if Config.tieUp 0x0537 r then k + 1 else k, false)

/-- Curve 3: type K with the cold junction at on-die sensor 11 (R537). -/
def State.typeK (s : State) (v : Rat) : CurveOut :=
  let t := Config.typeKTemp (v + Config.typeKVolt (((tget 0 s.therm.t 11 : Int) : Rat) / 16))
  if t < -200 then (-204800, true) else if 1300 < t then (1331200, true) else (roundOpen 0x0538 (t * 1024), false)

/-- A user table between two points, beyond the ends the end value with the overrange flag (R538; DEDUCED, log 76). -/
def userValue (c : Int) : List (Int × Int) → Option CurveOut
  | [] => none
  | [p] => some (p.2, decide (p.1 < c))
  | p :: q :: r =>
    if c < p.1 then some (p.2, true)
    else if c ≤ q.1 then
      some (roundOpen 0x0539 ((p.2 : Rat) + ((q.2 - p.2 : Int) : Rat) * ((c - p.1 : Int) : Rat) / ((q.1 - p.1 : Int) : Rat)), false)
    else userValue c (q :: r)

/-- The curve of a slot applied to a delivered code (R537, R538, R542): none where the spec states no result — a
resistance without an excitation current, a user table that was never loaded. A ratio that is not positive takes the curve's
end there, a ratio of 0, with the overrange flag (DEDUCED, log 76). -/
def State.curve (s : State) (e : List Word) (c : Int) : Option Int × Bool :=
  let v : Rat := (c : Rat) * hkFullScale (slotRange e) / 8388608
  let i := s.excCurrent e
  let of_ (r : CurveOut) : Option Int × Bool := (some r.1, r.2)
  match slotCurve e with
  | 0 => (some (roundOpen 0x0536 (v * 10000000)), false)
  | 1 => if i = 0 then (none, false) else of_ (ptValue (v / i / 100))
  | 2 => if i = 0 then (none, false) else of_ (ptValue (v / i / 1000))
  | 3 => of_ (s.typeK v)
  | 4 => if v ≤ 0 then (some 0, true) else (some (roundOpen 0x053A (v / s.hkValue 3 (5 / 2) * 16777216)), false)
  | k =>
    match userValue c (tget [] s.p.curves (k - 8)) with
    | some r => of_ r
    | none => (none, false)

/-! ### The scan (R529 to R532) -/

/-- The slot in progress begins: multiplexer, burn-out and excitation are its own (R530). -/
def State.beginSlot (s : State) (n : Nat) : State :=
  let e := s.hk.table.getD n []
  { s with hk := { s.hk with
    slot := n, conv := false
    burn := if slotBurn e = 0 then 0 else slotInput e + 32 * slotBurn e
    exc := if slotExc e = 0 then 0 else slotSource e + 4 * slotExc e } }

/-- A cycle starts, t fine-time units from now (R531): written parameters and the scan table come into force (R532). With no
slots it converts nothing and is over. A slot that the cycle leaves out loses its estimate d (R542). -/
def State.startCycle (s : State) (bySync : Bool) (t : Nat) : State :=
  let s := s.force .hkCycle
  let n := s.val HK_SLOT_COUNT
  if n = 0 then { s with hk := { s.hk with
    cycles := wrap 32 (s.hk.cycles + 1), slots := tmap {} s.hk.slots (fun _ x => { x with d := none }) } }
  else
    ({ s with hk := { s.hk with
      st := 1, bySync := bySync, table := (List.range n).map s.slotEntry
      slots := tmap {} s.hk.slots (fun i x => if i < n then x else { x with d := none })
      start := (s.tb.map.at (s.fineNow + (t : Rat))).floor } }).beginSlot 0

/-- The housekeeping part of a calibration run is in progress: no new cycle starts (chapter 15). -/
def State.hkCalibrating (s : State) : Bool := s.cal.run.any (fun r => r.part == some 8)

/-- In continuous mode a cycle starts as soon as the last one has ended (R531). -/
def execHkCycleStart (s : State) : Out :=
  .next (if s.dom 89 && s.hk.st = 0 && s.work HK_SCAN_MODE 0 = 1 && !s.hkCalibrating then s.startCycle false 0 else s)

/-- A rising edge of HK_SYNC: in mode 2 a cycle starts 200 ns later; while a cycle runs the edge is an overrun (R531). -/
def execHkSyncEdge (s : State) : Out :=
  .next (
    if !s.dom 89 then s
    else if s.hk.st = 1 then
      if s.val HK_SCAN_MODE = 2 then { s with hk := { s.hk with ovr := wrap 32 (s.hk.ovr + 1) } } else s
    else if s.work HK_SCAN_MODE 0 = 2 && !s.hkCalibrating then s.startCycle true 81920
    else s)

/-- The settling delay of the slot in progress ends: its conversion starts (R530, R533). -/
def execHkSlotSettled (s : State) : Out :=
  .next (if s.hk.st = 1 && !s.hk.conv then
      ({ s with hk := { s.hk with conv := true } }).setHkSlot s.hk.slot (fun x => { x with trip := false })
    else s)

/-- The input has been above full scale for 20 µs within the conversion, with the burn-out current on (R539). -/
def execOpenInputTrip (s : State) : Out :=
  .next (if s.hk.st = 1 && s.hk.conv && s.hk.burn ≠ 0 then s.setHkSlot s.hk.slot (fun x => { x with trip := true }) else s)

/-- The flag word (R547); the DC-frozen flag only in a slot with DC block, whose estimate the freeze keeps (R543; DEDUCED, log
76). -/
def hkFlags (x : HkSlot) (ovr frozen held : Bool) (input : Nat) : Word :=
  pack [(b2n (x.suspect && !x.broken), 1), (b2n x.broken, 1), (b2n ovr, 1), (b2n frozen, 1), (b2n held, 1), (input, 5)]

/-- The wire of a slot judged at the end of its conversion (R540). -/
def HkSlot.judge (x : HkSlot) : HkSlot :=
  if x.trip then (if x.suspect || x.broken then { x with broken := true } else { x with suspect := true })
  else { x with suspect := false, broken := false }

/-- The DC estimate after a conversion (R542, R543): set by the first, then tracked where the conversion is not frozen. -/
def dcNext (d : Option Rat) (c : Int) (frozen : Bool) (shift : Nat) : Rat :=
  match d with
  | none => (c : Rat)
  | some d => if frozen then d else d + ((c : Rat) - d) / (2 ^ shift : Nat)

/-- The conversion of slot n with mean input v (R534 to R543): the slot's new state and its result words. -/
def State.convert (s : State) (n : Nat) (e : List Word) (v : Rat) (sync : Bool) : State :=
  let raw := clipCode (roundNear 0x0534 (v * 8388608 / hkFullScale (slotRange e)))
  let x := (s.hkSlot n).judge
  let frozen := (s.val HK_SYNC_FREEZE = 1 && sync) || x.trip
  let d := dcNext x.d raw.1 frozen (s.val HK_DCB_SHIFT)
  let c := if slotDc e then clipCode (roundNear 0x0542 ((raw.1 : Rat) - d)) else raw
  let r := s.curve e c.1
  let fw := s.freeWords 1
  let fresh := fw.1.getD 0 0
  let pick : Word := if x.trip then x.good.getD fresh else match r.1 with
    | some i => w32 (unsgn 32 i)
    | none => fresh
  let s := if (x.trip && x.good.isNone) || (!x.trip && r.1.isNone) then fw.2 else s
  s.setHkSlot n (fun _ => { x with
    d := if slotDc e then some d else none
    good := if x.trip then x.good else some pick
    code := if s.val HK_FORMAT = 0 then w32 (unsgn 32 c.1) else w32 (unsgn 32 (c.1 * 256))
    value := pick
    flags := hkFlags x (raw.2 || c.2 || (!x.trip && r.2)) (slotDc e && frozen) x.trip (slotInput e) })

/-- The scan record of the cycle that ends (R547). -/
def State.scanRecord (s : State) : List Word :=
  let n := s.hk.table.length
  [pack [(s.addr, 3), (0, 5), (1, 8), (n, 7), (b2n s.hk.bySync, 1)], w32 s.hk.cycles, w32 (6 + 3 * n),
    recW3 s.kept.frame 0x61 0] ++ lohi s.hk.start ++
  (List.range n).flatMap (fun i => let x := s.hkSlot i; [x.code, x.value, x.flags])

/-- A conversion ends: its wire is judged, its result computed, and the next slot begins; the cycle's last one ends the
cycle and enqueues its record (R529, R534, R540, R547). v is the mean input voltage, sync whether HK_SYNC was high in it. -/
def execHkConversionEnd (v : Rat) (sync : Bool) (s : State) : Out :=
  if s.hk.st ≠ 1 || !s.hk.conv then .next s
  else
    let n := s.hk.slot
    let e := s.hk.table.getD n []
    let was := (s.hkSlot n).broken
    let s := s.convert n e v sync
    let s := if (s.hkSlot n).broken && !was then s.chipEvent 0x0D03 [n, slotInput e] else s
    if n + 1 < s.hk.table.length then .next (s.beginSlot (n + 1))
    else
      let s := { s with hk := { s.hk with st := 0, conv := false, burn := 0, exc := 0, cycles := wrap 32 (s.hk.cycles + 1) } }
      .next (s.enqueueAll 8 (fun _ => true) (fun _ => s.scanRecord))

/-! ### The mirror sensor channel (R544 to R546) -/

/-- The amplifier is on. -/
def State.caOn (s : State) : Bool := s.dom 89 && s.val HK_CA_ENABLE == 1

/-- A reset of the amplifier starts no sooner than 30 µs after the last (R545). -/
def State.caMay (s : State) : Bool :=
  match s.hk.caAt with
  | none => true
  | some t => decide (t + 48000 ≤ s.tb.tick)

/-- A reset of the amplifier: its written parameters come into force (R545, R555). -/
def State.caReset (s : State) : State :=
  let s := s.force .caReset
  { s with hk := { s.hk with caResets := wrap 32 (s.hk.caResets + 1), caAt := some s.tb.tick } }

/-- The periodic reset (R545); also the reset with which a written HK_CA_ENABLE takes effect (R555). -/
def execCaReset (s : State) : Out :=
  .next (if s.dom 89 && (s.caOn || s.work HK_CA_ENABLE 0 = 1) && s.caMay then s.caReset else s)

/-- The output has passed 90 % of its range: an additional reset (R545). -/
def execCaOverrangeReset (s : State) : Out :=
  .next (if s.caOn && s.caMay then { s.caReset with hk := { s.caReset.hk with caMark := some s.tb.tick } } else s)

/-- A sample's window, which ends 1 µs before the instant and holds 10 carrier periods, contains an additional reset of one
carrier period (R544, R545). -/
def State.inReset (s : State) : Bool :=
  match s.hk.caMark with
  | none => false
  | some t => decide (s.tb.tick < t + 782 + 1600 + 7813) && decide (t + 1600 < s.tb.tick)

/-- The fast channel's sample for a mirror loop instant (R544, R546): its 24-bit sensor code. -/
def execCaSample (code : Int) (s : State) : Out :=
  if !s.caOn then .next s
  else
    let low : Bool := decide (100 * code < (s.val HK_CA_OPEN_PCT * 8388608 : Nat))
    let n := if low then s.hk.caLow + 1 else 0
    .next { s with hk := { s.hk with caLow := min 3 n, ca := (code, s.inReset, decide (3 ≤ n)) } }

/-! ### Temperature (R548 to R554) -/

/-- The sum of the twelve readings. -/
def sum12 (ts : List Int) : Int := (ts.take 12).foldl (· + ·) 0

/-- Why sensor i fails at this reading: 1 out of range; 2 unchanged over 4,096 readings while the mean of the others changed
by 1 °C (R549). -/
def Therm.fault (t : Therm) (i : Nat) : Nat :=
  let v := tget 0 t.t i
  let d := t.sums.getD 0 0 - t.sums.getD 4095 0
  if v < -880 || 2800 < v then 1
  else if 4096 ≤ tget 0 t.same i && 4096 ≤ t.sums.length && (176 ≤ d || d ≤ -176) then 2
  else 0

/-- The readings taken over: runs of equal readings, and the sums of the last 4,096. -/
def Therm.read (t : Therm) (ts : List Int) : Therm :=
  let at_ (i : Nat) : Int := ts.getD i 0
  let run (m : Tab Nat) (i : Nat) : Tab Nat :=
    tset 0 m i (if at_ i = tget 0 t.t i then min 4096 (tget 0 t.same i + 1) else 1)
  { t with
    same := (List.range 12).foldl run t.same
    sums := (sum12 ts :: t.sums).take 4096
    t := (List.range 12).foldl (fun m i => tset 0 m i (at_ i)) t.t }

/-- The hottest sensor among those that have not failed, the first one of equals. -/
def Therm.hottest (t : Therm) : Option Nat :=
  (List.range 12).foldl (fun (b : Option Nat) (i : Nat) =>
    if t.failed.getLsbD i then b
    else match b with
      | none => some i
      | some j => if tget 0 t.t j < tget 0 t.t i then some i else some j) none

/-- The thermal scale of T_h (R551). -/
def thermalScale (k : Nat) (th : Int) : Int :=
  if th < 1936 then 256 else 256 + -((((256 * (k : Int)) * (th - 1936)) + 1599) / 1600)

/-- A sensor that fails now is marked, with its event (R549). -/
def State.sensorCheck (s : State) (i : Nat) : State :=
  let k := s.therm.fault i
  if k = 0 || s.therm.failed.getLsbD i then s
  else
    ({ s with therm := { s.therm with failed := s.therm.failed ||| BitVec.ofNat 12 (2 ^ i) } }).chipEvent 0x0D02 [i, k]

/-- T_h, the scale, the reading rate and the state after a set of readings (R548 to R551). -/
def State.thermalEval (s : State) : State :=
  let t := s.therm
  let t := match t.hottest with
    | some i => { t with hot := i, th := tget 0 t.t i, max_ := some (max (t.max_.getD (tget 0 t.t i)) (tget 0 t.t i)) }
    | none => t
  let t := { t with
    sT := thermalScale (s.val HK_THROTTLE_K) t.th
    fast := (List.range 12).any (fun i => decide (1696 ≤ tget 0 t.t i)) }
  ({ s with therm := t }).thermalState

/-- All twelve sensors are read, in 1/16 °C (R548 to R552). -/
def execTemperatureReading (ts : List Int) (s : State) : Out :=
  if !s.dom 89 then .next s
  else
    let s := { s with therm := s.therm.read ts }
    .next ((List.range 12).foldl State.sensorCheck s).thermalEval

/-- 30 s after PARK was reached in the shutdown state: at 130 °C or more the device goes to OFF (R553). -/
def execThermalOffTimeout (s : State) : Out :=
  match s.therm.parkAt with
  | none => .next s
  | some t =>
    if s.therm.st ≠ 3 || s.pwr.dev ≠ .park || s.pwr.trans.isSome || s.pwr.safe || s.tb.tick < t + 30000 * msTicks then .next s
    else
      let s := { s with therm := { s.therm with parkAt := none } }
      .next (if 2080 ≤ s.therm.th then s.startStep .off none else s)

/-- The periodic thermal record (R554); a written HK_THERMAL_REPORT_MS takes effect with it, so that a written 0 ends the records
after this one (R555). -/
def execThermalReport (s : State) : Out :=
  if !s.dom 89 then .next s
  else .next (if s.val HK_THERMAL_REPORT_MS = 0 then s else s.thermalOut)

/-! ### 0Dxxh commands -/

/-- HK_STATUS_GET; sync is the level of HK_SYNC. -/
def execHkStatusGet (m : Fin 64) (sync : Bool) (s : State) : Out :=
  s.skeic 0x0D01 m fun s =>
    let st := if s.hk.st = 1 then 1 else if s.dom 89 && s.work HK_SCAN_MODE 0 = 2 then 2 else 0
    let broken (k : Nat) : Word :=
      pack ((List.range 32).map (fun i => (b2n (s.hkSlot (32 * k + i)).broken, 1)))
    .done s [pack [(st, 2), (b2n s.caOn, 1), (b2n s.hk.ca.2.2, 1), (b2n sync, 1)], w32 s.hk.cycles, broken 0, broken 1,
      w32 s.hk.ovr, w32 s.hk.caResets]

/-- No entry of the scan table uses what the charge amplifier takes (host errors of chapter 14). -/
def State.caClear (s : State) : Bool :=
  (List.range 64).all (fun n => !slotOnCa (s.slotEntry n))

/-- HK_PARAM_WRITE (R555). -/
def execHkParamWrite (m : Fin 64) (s : State) : Out :=
  s.skeic 0x0D02 m fun s =>
    need ((s.pw m 0).fld 7 0 ≠ 6 || s.pw m 1 ≠ 1 || s.caClear) "HK31 or HKX3 in use" <|
    s.parWrite 13 m (fun t _ => t)

/-- HK_PARAM_READ (R555). -/
def execHkParamRead (m : Fin 64) (s : State) : Out := s.skeic 0x0D03 m fun s => s.parRead 13 m

/-- The slots that W0 of HK_SLOT_SET, HK_SLOT_GET and HK_RESULT_GET names, where the range is allowed. -/
def slotRangeOk (w : Word) : Bool := w.fld 31 13 == 0 && w.fld 12 6 ≤ 64 && w.fld 5 0 + w.fld 12 6 ≤ 64

/-- HK_SLOT_SET (R532). -/
def execHkSlotSet (m : Fin 64) (s : State) : Out :=
  s.skeic 0x0D04 m fun s =>
    let w := s.pw m 0
    let es := (List.range (w.fld 12 6)).map (fun i => [s.pw m (1 + 2 * i), s.pw m (2 + 2 * i)])
    need (slotRangeOk w) "slot range" <|
    need (es.all slotOk) "slot entry" <|
    need (s.work HK_CA_ENABLE 0 = 0 || es.all (fun e => !slotOnCa e)) "HK31 or HKX3 in use" <|
    let slots := (List.range es.length).foldl
      (fun t i => tset [0x100, 100] t (w.fld 5 0 + i) (es.getD i [0x100, 100])) s.p.slots
    .commit { s with p := { s.p with slots := slots } } (recordBytes (2 * es.length)) []

/-- HK_SLOT_GET. -/
def execHkSlotGet (m : Fin 64) (s : State) : Out :=
  s.skeic 0x0D05 m fun s =>
    let w := s.pw m 0
    need (slotRangeOk w) "slot range" <|
    .done s (w :: (span (w.fld 5 0) (w.fld 12 6)).flatMap s.slotEntry)

/-- The codes of a user table ascend strictly. -/
def ascends : List (Int × Int) → Bool
  | [] => true
  | [_] => true
  | p :: q :: r => decide (p.1 < q.1) && ascends (q :: r)

/-- HK_CURVE_LOAD (R538): 32 points, each a 24-bit code, sign-extended, and a value. -/
def execHkCurveLoad (m : Fin 64) (s : State) : Out :=
  s.skeic 0x0D06 m fun s =>
    let ps : List (Int × Int) :=
      (List.range 32).map (fun i => (sgn 32 (s.pw m (1 + 2 * i)).toNat, sgn 32 (s.pw m (2 + 2 * i)).toNat))
    need ((s.pw m 0).fld 31 3 = 0) "reserved bits" <|
    need (ps.all (fun p => -8388608 ≤ p.1 && p.1 ≤ 8388607)) "code" <|
    need (ascends ps) "codes not ascending" <|
    .commit { s with p := { s.p with curves := tset [] s.p.curves ((s.pw m 0).fld 2 0) ps } } (recordBytes 64) []

/-- HK_RESULT_GET: code, value and flag words of the slots named. -/
def execHkResultGet (m : Fin 64) (s : State) : Out :=
  s.skeic 0x0D07 m fun s =>
    let w := s.pw m 0
    need (slotRangeOk w) "slot range" <|
    .done s ((span (w.fld 5 0) (w.fld 12 6)).flatMap (fun n => let x := s.hkSlot n; [x.code, x.value, x.flags]))

/-- THERM_STATUS_GET (R554): the latest thermal record and the highest T_h. -/
def execThermStatusGet (m : Fin 64) (s : State) : Out :=
  s.skeic 0x0D08 m fun s => .done s (s.therm.last ++ [w32 (unsgn 32 (s.therm.max_.getD 0))])

end Sys2Proof.Machine
end

