-- ==== Sys2Proof/Machine/Calibration.lean ====
section
/-! DEFINITION. The calibration engine and the 0Exxh commands other than those of the fuses (chapter 15). -/
namespace Sys2Proof.Machine

/-! ### Agreement of the passes (R564, R565) -/

/-- Two measurements differ by at most a limit. -/
def close (lim x y : Rat) : Bool := absR (x - y) ≤ lim

/-- Two measurements differ by at most a share of their mean. -/
def closeShare (share x y : Rat) : Bool := absR (x - y) ≤ share * absR ((x + y) / 2)

/-- Two lists of measurements agree entry by entry. -/
def closeAll (t : Rat → Rat → Bool) (x y : List Rat) : Bool :=
  x.length == y.length && (List.range x.length).all (fun i => t (x.getD i 0) (y.getD i 0))

/-- The limit CAL_AGREE_PS, in 0.1 ps, as 1/16 fine-time unit: one of them is 625/4,096 ps. -/
def State.agreeSixteenths (s : State) : Rat := (s.val CAL_AGREE_PS : Rat) / 10 * 4096 / 625

/-- The scale-check error of a channel's pass in 0.1 ps: its mean interval against CAL_REF_INTERVAL_PS (chapter 15, quantities
measured; R574). -/
def State.scaleErr (s : State) (x : CalMeas) : Rat := x.interval - (s.val CAL_REF_INTERVAL_PS : Rat)

/-- The scale-check error of a channel's pass is within ±CAL_REF_TOL_PS. -/
def State.scaleOk (s : State) (x : CalMeas) : Bool := absR (s.scaleErr x) ≤ (10 * s.val CAL_REF_TOL_PS : Nat)

/-- A channel passes: both passes meet every limit (R565). -/
def State.passes (s : State) (x y : CalMeas) : Bool :=
  let ps := close s.agreeSixteenths
  s.scaleOk x && s.scaleOk y && ps x.skew y.skew && close 16 x.q0 y.q0 && closeShare (1 / 200) x.slope y.slope &&
    closeAll ps x.walkHi y.walkHi && closeAll ps x.walkLo y.walkLo && closeAll ps x.satHi y.satHi &&
    closeAll ps x.satLo y.satLo && closeAll (closeShare (1 / 50)) x.intHi y.intHi &&
    closeAll (closeShare (1 / 50)) x.intLo y.intLo && closeShare ((s.val CAL_AGREE_PCT : Rat) / 10000) x.ratio y.ratio

/-- A list of rationals in ascending order. -/
def sortR (l : List Rat) : List Rat := l.mergeSort (fun x y => decide (x ≤ y))

/-- The median, the mean of the middle two of an even number; 0 of none. -/
def median (l : List Rat) : Rat :=
  let a := sortR l
  if a.length % 2 = 1 then a.getD (a.length / 2) 0 else (a.getD (a.length / 2 - 1) 0 + a.getD (a.length / 2) 0) / 2

/-- The reference check of a pass fails: the median error exceeds 4 × CAL_REF_TOL_PS (R564). -/
def State.refFails (s : State) (ms : List CalMeas) : Bool :=
  decide (((40 * s.val CAL_REF_TOL_PS : Nat) : Rat) < absR (median (ms.map s.scaleErr)))

/-- The mean of two passes in the unit of the table, halves up (R565). -/
def mean2 (x y : Rat) : Int := roundHalfUp ((x + y) / 2)

/-- A table of 16-bit entries from two passes. -/
def meanTable (x y : List Rat) (n : Nat) : List Word :=
  halves ((List.range n).map (fun i => unsgn 16 (mean2 (x.getD i 0) (y.getD i 0))))

/-! ### Parts of a run (R559 to R566) -/

/-- The next named part starts (R559, R560); a part that cannot run, its region or the housekeeping front end being off,
gets result 4. -/
def execCalPartStart (s : State) : Out :=
  match s.cal.run with
  | none => .next s
  | some r =>
    match r.part, r.left with
    | none, p :: left =>
      if !s.dom 91 || s.pwr.settling.getLsbD 91 then .next s
      else
        let can := if p < 8 then s.dom (64 + p) && s.regionUp p else s.dom 89
        let s := { s with cal := { s.cal with run := some { r with left := left, part := some p } } }
        .next (if !can then s.calPart 4 else if p < 8 then (s.force .nextRun).noteAbsent else s)
    | _, _ => .next s

/-- The part in progress is a region. -/
def State.calRegion (s : State) : Bool := s.cal.run.any (fun r => r.part.any (· < 8))

/-- VREF_EXT, measured in mV, lies outside ±2 % of CAL_VREF_MV (R563). -/
def State.vrefBad (s : State) (mv : Rat) : Bool := decide ((s.val CAL_VREF_MV : Rat) < 50 * absR (mv - (s.val CAL_VREF_MV : Rat)))

/-- A measurement of channel c in a pass. -/
def measOf (ms : List CalMeas) (c : Nat) : Option CalMeas := ms.find? (fun x => x.ch.val == c)

/-- A pass of a region completes (R563 to R565): its measurements, and VREF_EXT in mV. After pass B the reference check
and the interval errors are evaluated. -/
def execCalPassComplete (ms : List CalMeas) (mv : Rat) (s : State) : Out :=
  match s.cal.run with
  | none => .next s
  | some r =>
    match r.part with
    | none => .next s
    | some p =>
      if 8 ≤ p || r.passB.isSome then .next s
      else if s.vrefBad mv then .next (s.calBreak 2 3)
      else match r.passA with
        | none => .next { s with cal := { s.cal with run := some { r with passA := some ms } } }
        | some a =>
          let err := (span (64 * p) 64).foldl (fun (t : Tab Int) c =>
            match measOf a c, measOf ms c with
            | some x, some y => tset 0 t c (roundOpen 0x0E65 ((s.scaleErr x + s.scaleErr y) / 2))
            | _, _ => t) s.cal.err
          let s := { s with cal := { s.cal with err := err, run := some { r with passB := some ms } } }
          if s.refFails a || s.refFails ms then
            let s := { (s.calStatus p 3) with cal := { s.cal with failed := s.cal.failed + 64 } }
            .next ((s.chipEvent 0x0E01 [p, 5, 64]).calPart 5)
          else .next s

/-- The values of a channel that passed, put in use: tables 0 to 7, gain ratio, status and hours (R561, R565 to R567). -/
def State.calChannel (s : State) (c : Nat) (x y : CalMeas) : State :=
  let tc := (wd (s.tableW c 6) 0).fld 31 16
  let put (t : Tab (List Word)) (k : Nat) (ws : List Word) : Tab (List Word) := tset (defaultTable k) t (c * 8 + k) ws
  let tabs := [meanTable x.walkHi y.walkHi 64, meanTable x.walkLo y.walkLo 64, meanTable x.satHi y.satHi 16,
    meanTable x.satLo y.satLo 16, meanTable x.intHi y.intHi 16, meanTable x.intLo y.intLo 16,
    [pack [(unsgn 16 (mean2 x.skew y.skew), 16), (tc, 16)], pack [(unsgn 16 (mean2 x.theta y.theta), 16)]],
    [pack [(unsgn 16 (mean2 x.q0 y.q0), 16), (unsgn 16 (mean2 x.slope y.slope), 16)]]]
  let timing := (List.range 8).foldl (fun t k => put t k (tabs.getD k [])) s.p.timing
  let s := { s with
    p := { s.p with
      timing := timing, ratio := tset 4096 s.p.ratio c (unsgn 13 (mean2 x.ratio y.ratio)), calSt := tset 0 s.p.calSt c 1 }
    wear := { s.wear with calAt := tput s.wear.calAt c s.wear.runTicks } }
  s.setCell c (fun k => { k with tabs := [], q0S := none })

/-- A channel of the region after both passes: passed, or failed with its values kept (R565, R567). -/
def State.calDecide (a b : List CalMeas) (s : State) (c : Nat) : State :=
  let fail : State := { s with
    p := { s.p with calSt := tset 0 s.p.calSt c 3 }, cal := { s.cal with failed := s.cal.failed + 1 } }
  match measOf a c, measOf b c with
  | some x, some y => if s.passes x y then s.calChannel c x y else fail
  | _, _ => fail

/-- The part's values are in use and go to the journal; event 0E01h follows the commit (R561, R580). -/
def State.calInUse (s : State) (part res failed n : Nat) : State :=
  let s := if s.jnl.readOnly then s.chipEvent 0x0E01 [part, res, failed]
    else s.startTxn 14 n (.calPart part res failed)
  s.calPart res

/-- Bytes of a region's values in the journal: the chapter on the journal counts 100 pages (R582, example). -/
def calBytes : Nat := 100 * 256 - commitBytes

/-- The computed values of a region are put in use and the region resumes (R560, R561, R565). The journal takes one
transaction at a time: with one in progress the values wait for its end (R581). -/
def execCalValuesInUse (s : State) : Out :=
  match s.cal.run with
  | none => .next s
  | some r =>
    match r.part, r.passA, r.passB with
    | some p, some a, some b =>
      if s.jnl.txn.isSome then .next s
      else
        let before := s.cal.failed
        let s := (span (64 * p) 64).foldl (State.calDecide a b) s
        let failed := s.cal.failed - before
        .next (s.calInUse p (if failed = 0 then 0 else 1) failed calBytes)
    | _, _, _ => .next s

/-- No CALREF edge for 1 ms: result 2, the region keeps its values and the run ends (R563, R567); until the values are in use,
after pass B too. -/
def execCalNoReference (s : State) : Out :=
  .next (if s.calRegion then s.calBreak 2 3 else s)

/-- The housekeeping part completes, once a scan cycle in progress has ended: deviations in ppm of the ranges, the 2.500 V
source and the excitation currents, keys as in ClassP.hkCal (R559). -/
def execCalHkPartComplete (vs : List (Nat × Int)) (s : State) : Out :=
  if !s.cal.run.any (fun r => r.part == some 8) || s.hk.st ≠ 0 || s.jnl.txn.isSome then .next s
  else
    let s := { s with p := { s.p with hkCal := vs.foldl (fun (t : Tab Int) (e : Nat × Int) => tset 0 t e.1 e.2) s.p.hkCal } }
    .next (s.calInUse 8 0 0 (recordBytes 24))

/-- A channel's hours have passed CAL_STALE_H: stale cause 3 holds from here on (R566). The hours in RUN and QUIET stand at
least that high. -/
def execCalStaleHours (c : Fin 512) (s : State) : Out :=
  match tfind s.wear.calAt c with
  | none => .next s
  | some t =>
    if s.val CAL_STALE_H = 0 then .next s
    else .next { s with wear := { s.wear with runTicks := max s.wear.runTicks (t + s.val CAL_STALE_H * hourTicks + 1) } }

/-! ### 0Exxh commands -/

/-- CAL_STATUS_GET; reference presence, pair rate and VREF_EXT as measured. A VREF_EXT that it finds outside its limits while a
region is in progress ends the run, as at a pass (R563). -/
def execCalStatusGet (m : Fin 64) (refPresent : Bool) (khz mv : Nat) (s : State) : Out :=
  s.skeic 0x0E01 m fun s =>
    let s := if s.calRegion && s.vrefBad (mv : Nat) then s.calBreak 2 3 else s
    let part := (s.cal.run.bind (·.part)).getD 0
    .done s [pack [(b2n s.cal.run.isSome, 1), (part, 4), (b2n refPresent, 1)], s.calResults, pack [(khz, 16), (mv, 16)]]

/-- CAL_PARAM_WRITE (R574). -/
def execCalParamWrite (m : Fin 64) (s : State) : Out := s.skeic 0x0E02 m fun s => s.parWriteRange 14 m (fun t _ => t)

/-- CAL_PARAM_READ (R574). -/
def execCalParamRead (m : Fin 64) (s : State) : Out := s.skeic 0x0E03 m fun s => s.parReadRange 14 m

/-- The device may calibrate: RUN or QUIET, and no transition out of them (R559, R562). -/
def State.mayCalibrate (s : State) : Bool :=
  (s.pwr.dev == .run || s.pwr.dev == .quiet) && !s.pwr.trans.any (fun t => t.next != .run && t.next != .quiet)

/-- CAL_RUN (R559, R575). -/
def execCalRun (m : Fin 64) (s : State) : Out :=
  s.skeic 0x0E04 m fun s =>
    let w := s.pw m 0
    let parts := (List.range 9).filter (fun i => w.bit i)
    need (w.fld 31 9 = 0) "reserved bits" <|
    if s.cal.run.isSome then .done s [s.calResults ||| 0x80000000, w32 s.cal.failed]
    else if parts.isEmpty || !s.mayCalibrate then
      let s := { s with cal := { s.cal with failed := 0, res := parts.foldl (fun t i => tset 4 t i 4) s.cal.res } }
      .done s [s.calResults, 0]
    else
      let s := s.switch 91 true false
      .later { s with cal := { s.cal with run := some { mbx := m, left := parts }, failed := 0 } }

/-- CAL_ABORT (R562, R575): it responds when the run has ended. -/
def execCalAbort (m : Fin 64) (s : State) : Out :=
  s.skeic 0x0E05 m fun s =>
    let s := s.calStop
    match s.cal.run with
    | none => .done s []
    | some r => .later { s with cal := { s.cal with run := some { r with aborts := r.aborts ++ [m.val] } } }

/-- Hours in RUN and QUIET since channel c's status became passed or loaded (R566). -/
def State.calHours (s : State) (c : Nat) : Nat :=
  match tfind s.wear.calAt c with
  | none => 0
  | some t => sat 16 ((s.wear.runTicks - t) / hourTicks)

/-- CAL_CHANNEL_GET: two words per channel. -/
def execCalChannelGet (m : Fin 64) (s : State) : Out :=
  s.skeic 0x0E06 m fun s =>
    let w := s.pw m 0
    let n := w.fld 15 9
    need (w.fld 31 16 = 0 && n ≤ 64 && w.fld 8 0 + n ≤ 512) "channel range" <|
    .done s ((span (w.fld 8 0) n).flatMap (fun c =>
      [pack [(tget 0 s.p.calSt c, 3), (s.staleBits c, 5), (0, 8), (s.calHours c, 16)],
       pack [(unsgn 16 (s.thetaCal c), 16), (unsgn 16 (satI 16 (tget 0 s.cal.err c)), 16)]]))

end Sys2Proof.Machine
end

