-- ==== Sys2Proof/Machine/Rejection.lean ====
section
/-! DEFINITION. The confirmation engine, the point collector, the estimator's events and the 08xxh commands (chapters 01,
05, 08, 11). -/
namespace Sys2Proof.Machine

/-! ### Records of a return -/

/-- The words of a point or provisional record (R300, R438). -/
def State.pointWords (s : State) (r : Ret) (cls conf : Nat) (adj low : Bool) (type id : Nat) : List Word :=
  [pack [(s.addr, 3), (r.ch, 9), (r.echo, 2), (r.idx, 18)],
   pack [(0, 1), (b2n r.fault, 1), (b2n r.thr, 1), (b2n low, 1), (b2n r.stale, 1), (b2n adj, 1), (cls, 2), (b2n r.low, 1),
     (b2n r.sat, 1), (r.range, 22)],
   pack [(conf, 8), (r.width, 8), (r.inten, 16)], recW3 r.frame type id]

/-- DET_LOW_CONF in force for the shot of a return. -/
def State.lowConf (s : State) (r : Ret) : Nat :=
  match s.shot r.shot with
  | some sh => s.valFor sh DET_LOW_CONF 0
  | none => s.val DET_LOW_CONF

/-- The provisional record of a return (R300). -/
def State.provWords (s : State) (p : Prov) (id : Nat) : List Word :=
  s.pointWords p.r 3 p.r.conf p.r.adj (decide (p.r.conf < s.lowConf p.r)) 0x11 id

/-- The point record of a confirmed return. -/
def State.point (s : State) (p : Prov) : List Word :=
  s.pointWords p.r p.cls p.conf p.adj (decide (p.conf < s.lowConf p.r)) 0x09 0

/-- The verdict record of a return with a cause (R322, R440). -/
def State.verdictWords (s : State) (p : Prov) (cause : Nat) : List Word :=
  [pack [(s.addr, 3), (p.r.ch, 9), (p.r.echo, 2), (p.r.idx, 18)],
   if cause = 0 then pack [(0, 3), (1, 1), (p.cls, 2), (b2n p.adj, 1), (0, 1), (p.conf, 8)] else pack [(cause, 3)],
   0, recW3 p.r.frame 0x19 p.id]

/-! ### Decisions (R318 to R320) -/

/-- A return of region r changed in the engine. -/
def State.modProv (s : State) (p : Prov) (f : Prov → Prov) : State :=
  s.setReg (p.r.ch / 64) (fun g => { g with eng := g.eng.map (fun q =>
    if q.r.ch == p.r.ch && q.r.nd == p.r.nd && q.r.shot == p.r.shot then f q else q) })

/-- A confirmed return enters the collector: its segment is released (R255, R324). The collector holds 8,192 (R196); with all
of them taken the return waits before it, as a dual-clock queue holds back its source (R39; DESIGN CHOICE, log 51). In the
safe state none enters (R623). -/
def State.enterCollector (s : State) (p : Prov) : State :=
  if 8192 ≤ s.collected || s.pwr.safe then s
  else (s.modProv p (fun q => { q with col := true })).segFate p.r.ch p.r.nd (fun g => { g with fate := 2 })

/-- A confirmed return whose verdict is settled waits for room in the collector. -/
def Prov.atDoor (p : Prov) : Bool := p.sent && p.decided = some 0 && !p.col

/-- Confirmed returns that wait enter the collector while it has room, in region and engine order. -/
def State.fillCollector (s : State) : State :=
  (s.regions.flatMap (fun e => e.2.eng.filter Prov.atDoor)).foldl (fun s p => s.enterCollector p) s

/-- The engine decides a return (R297, R320): its attributes are fixed; a retracted return's segment is freed (R255); a
return without a record is settled at its decision (R324). -/
def State.decideRet (s : State) (p : Prov) (cause : Nat) : State :=
  let adj := match s.shot p.r.shot with
    | some sh => s.adjacent sh p.r
    | none => p.r.adj
  let s := s.modProv p (fun q => { q with decided := some cause, adj := adj, sent := q.rec_ = 2 })
  let s := if cause = 0 then s else s.freeSeg p.r.ch p.r.nd
  if p.rec_ = 2 then
    let s := s.countVerdict p cause
    if cause = 0 then s.enterCollector p else s
  else s

/-- The foreign check of a return is due: REJ_FOREIGN_HOLD_US after its entry (R319). -/
def State.foreignDue (s : State) (p : Prov) : Bool :=
  p.decided.isNone && !p.foreign &&
    (match s.shot p.r.shot with
     | some x => decide (p.entry + usTicks (s.valFor x REJ_FOREIGN_HOLD_US 0) ≤ s.tb.tick)
     | none => true)

/-- The foreign check of a return passes (R319). -/
def State.foreignPasses (s : State) (p : Prov) : Bool :=
  p.r.accum || s.val REJ_MASK_TK = 0 ||
    !p.r.uses.any (fun n => s.nearTrain (p.r.ch / 16) n (s.val REJ_MASK_TK) (s.fineNow - fineUs 64))

/-- A neighbour channel of the region is final in a shot, or lies outside the region, or did not listen (R305). -/
def neighbourReady (x : Shot) (c d : Nat) : Bool := c / 64 ≠ d / 64 || !x.listened d || x.final.getLsbD d

/-- The classifier may run for a channel-shot: it and its neighbours are final (R305). -/
def Shot.classifies (x : Shot) (c : Nat) : Bool :=
  x.took c && x.final.getLsbD c && !x.wx.getLsbD c && neighbourReady x c (c + 1) && (c = 0 || neighbourReady x c (c - 1))

/-- The weather class of an echo (R305); a neighbour whose window was abandoned did not listen. -/
def State.weatherClass (s : State) (x : Shot) (p : Prov) : Nat :=
  let v (q : Par) : Nat := s.valFor x q 0
  let r := p.r
  let beside := (s.reg (r.ch / 64)).eng.any (fun q => q.r.shot == r.shot && (q.r.ch + 1 == r.ch || q.r.ch == r.ch + 1) &&
    x.listened q.r.ch && decide (q.r.nd ≤ r.nd + v REJ_NEIGHBOUR_TK) && decide (r.nd ≤ q.r.nd + v REJ_NEIGHBOUR_TK))
  if v REJ_WX_ENABLE = 0 || r.accum then 3
  else if r.sat || 256 * v REJ_WX_RANGE_TK ≤ r.range || v REJ_SOLID_CONF ≤ r.conf then 0
  else if v REJ_WIDE_PCT * v REJ_NOMINAL_WIDTH ≤ 100 * r.width then 2
  else if !beside && r.inten ≤ v REJ_RAIN_INT then 1
  else 0

/-- The weather check of an echo fails (R306). -/
def State.weatherFails (s : State) (x : Shot) (p : Prov) : Bool := s.valFor x REJ_WX_RETRACT 0 >>> s.weatherClass x p % 2 = 1

/-- The engine retracts a return, of several checks that fail at this instant for the first in the order foreign, weather,
group (R320). -/
def State.retract (s : State) (p : Prov) (cause : Nat) : State :=
  let wx := match s.shot p.r.shot with
    | some x => !p.wx && x.classifies p.r.ch && s.weatherFails x p
    | none => false
  s.decideRet p (if s.foreignDue p && !s.foreignPasses p then 1 else if cause = 3 && wx then 2 else cause)

/-- The group members of a return: the first REJ_GROUP_SHOTS later shots that meet R318. -/
def State.members (s : State) (p : Prov) (n : Nat) : List Shot :=
  (s.seq.shots.filter (fun x => decide (p.r.shot < x.fire) && x.listened p.r.ch && x.dark == 0 && !x.hist)).take n

/-- A member corroborates a return (R318). -/
def State.corroborates (s : State) (p : Prov) (x : Shot) (tol : Nat) : Bool :=
  (s.reg (p.r.ch / 64)).eng.any (fun q => q.r.ch == p.r.ch && q.r.shot == x.fire &&
    decide ((q.r.range - p.r.range) + (p.r.range - q.r.range) ≤ 256 * tol))

/-- The group check of a return: some true passed, some false failed, none open (R318). -/
def State.groupCheck (s : State) (p : Prov) : Option Bool :=
  match s.shot p.r.shot with
  | none => some true
  | some sh =>
    let n := s.valFor sh REJ_GROUP_SHOTS 0
    if p.r.accum || n = 0 || s.valFor sh REJ_GROUP_BYPASS_CONF 0 ≤ p.r.conf then some true
    else
      let ms := s.members p n
      let ok := (ms.filter (fun x => s.corroborates p x (s.valFor sh REJ_GROUP_TOL_TK 0))).length
      if s.valFor sh REJ_GROUP_MIN 0 ≤ ok then some true
      else if ms.length = n && ms.all (fun x => x.final.getLsbD p.r.ch) then some false
      else none

/-- The return as the engine holds it now. -/
def State.prov (s : State) (p : Prov) : Prov :=
  ((s.reg (p.r.ch / 64)).eng.find? (fun q => q.r.ch == p.r.ch && q.r.nd == p.r.nd && q.r.shot == p.r.shot)).getD p

/-- The group check of a return is evaluated, and the return decided where that decides it (R318, R320). -/
def State.evalGroup (s : State) (p : Prov) : State :=
  let p := s.prov p
  if p.decided.isSome then s
  else match (if p.group then some true else s.groupCheck p) with
    | some false => s.retract p 3
    | some true =>
      let s := s.modProv p (fun q => { q with group := true })
      if p.wx && p.foreign then s.decideRet { p with group := true } 0 else s
    | none => s

/-- The group checks of the undecided returns of channel c are evaluated. -/
def State.evalChannel (s : State) (c : Nat) : State :=
  ((s.reg (c / 64)).eng.filter (fun p => p.r.ch == c)).foldl (fun s p => s.evalGroup p) s

/-- A return at the head of region r's point FIFO enters the confirmation engine (R297). An accumulated detection passes
the foreign check at entry. In the safe state no return enters the collector any more: this one is decided RETRACT with cause 6
(R325, R623). -/
def execProvisionalEntry (r : Fin 8) (s : State) : Out :=
  let g := s.reg r
  if !s.regionWorks r then .next s else
  match g.fifo with
  | [] => .next s
  | x :: rest =>
    let p : Prov := { r := x, entry := s.tb.tick, conf := x.conf, foreign := x.accum, decided := if s.pwr.safe then some 6 else none }
    let s := s.setReg r (fun g => { g with fifo := rest, eng := g.eng ++ [p] })
    .next ((s.countR r 0x10 0 (some (x.ch / 16 % 4)) 1).evalChannel x.ch)

/-- 6 µs in ticks (R298), and 56 µs (R320). -/
def recordTicks : Nat := 9600
def decisionTicks : Nat := 89600

/-- The first return of region r whose record is not settled gets its provisional record on every bound queue, with one
identifier and reservations for the verdict (R298, R299, R426); or it is late; or it has none. -/
def execProvisionalRecordEnqueue (r : Fin 8) (s : State) : Out :=
  match (s.reg r).eng.find? (fun p => p.rec_ = 0) with
  | none => .next s
  | some p =>
    let qs := s.queueList.filter (fun q => (s.bindOf q).port ≠ 0 && (s.bindOf q).cls == 1 && (s.bindOf q).has p.r.ch)
    let base := if p.r.accum then p.r.born else p.r.fin
    let fits (q : Nat) : Bool := decide (16 ≤ s.room (s.bindOf q)) &&
      decide ((s.queue q).held + (s.queue q).resv + 32 ≤ 1024 * (s.bindOf q).depth)
    let room := qs.all fits && decide (s.poolUsed + 32 * qs.length ≤ 16 * 2 ^ 20)
    let late := decide (base + recordTicks < s.tb.tick) || (!qs.isEmpty && !room)
    let without (s : State) : State :=
      let s := s.modProv p (fun q => { q with rec_ := 2 })
      match p.decided with
      | some cause =>
        let s := (s.modProv p (fun q => { q with sent := true })).countVerdict p cause
        if cause = 0 then s.enterCollector p else s
      | none => s
    if late then
      .next (without (({ s with rej := { s.rej with n := tmod 0 s.rej.n 18 (fun v => wrap 32 (v + 1)) } }).countFrame
        p.r.frame 24 1))
    else if qs.isEmpty then .next (without s)
    else
      let id := s.rej.nextId
      let ws := s.provWords p id
      let s := qs.foldl (fun s q => (s.enqueue q ws).2.setQueue q (fun e => { e with resv := e.resv + 16 })) s
      let s := s.modProv p (fun q => { q with rec_ := 1, id := id, qs := qs })
      let s := { s with rej := { s.rej with
        nextId := if id = 65535 then 1 else id + 1, out := s.rej.out ++ [(id, r.val)]
        n := tmod 0 s.rej.n 17 (fun v => wrap 32 (v + 1)) } }
      .next (s.countFrame p.r.frame 23 1)

/-- The echo set of a channel-shot is final: window closed, search ended, slots decided, every echo in the engine, and for
a histogram entry its group closed (R305, R318). Of an abandoned window there are only the returns delivered before (R24). -/
def State.echoesFinal (s : State) (c : Nat) (x : Shot) : Bool :=
  let b := s.blk (c / 16)
  let mine (r : Ret) : Bool := r.ch == c && r.shot == x.fire
  !b.out.any mine && !(s.reg (c / 64)).fifo.any mine &&
    (!x.listened c || (decide (x.searchEnd ≤ s.tb.tick) && s.slotsReady c x && !b.rets.any mine &&
      !(b.acc.any (fun g => g.ch == c && g.last == x.fire && !g.closed))))

/-- A channel-shot becomes final; the group checks of earlier returns of its channel are evaluated (R318). -/
def execChannelShotFinal (c : Fin 512) (fire : Nat) (s : State) : Out :=
  match s.shot fire with
  | none => .next s
  | some x =>
    if !x.took c || x.final.getLsbD c || !s.echoesFinal c x then .next s
    else
      .next ((s.setShot fire (fun y => { y with final := y.final ||| chBit c })).evalChannel c)

/-- The weather check of one echo (R306). -/
def State.weather (s : State) (x : Shot) (p : Prov) : State :=
  let p := s.prov p
  let cls := s.weatherClass x p
  let low := s.valFor x DET_LOW_CONF 0
  let conf := if cls = 1 || cls = 2 then min p.r.conf (low - 1) else p.r.conf
  let fails := s.weatherFails x p
  let s := s.modProv p (fun q => if q.decided.isSome then q else { q with cls := cls, conf := conf, wx := true })
  if p.decided.isSome then s
  else if fails then s.retract (s.prov p) 2
  else s.evalGroup p

/-- The classifier runs once for a channel-shot, when it and its neighbours are final (R305). -/
def execWeatherClassify (c : Fin 512) (fire : Nat) (s : State) : Out :=
  match s.shot fire with
  | none => .next s
  | some x =>
    if !x.classifies c then .next s
    else
      let s := s.setShot fire (fun y => { y with wx := y.wx ||| chBit c })
      .next (((s.reg (c / 64)).eng.filter (fun p => p.r.ch == c.val && p.r.shot == fire)).foldl (fun s p => s.weather x p) s)

/-- The foreign checks of region r that are due run (R319, R320). -/
def execForeignCheck (r : Fin 8) (s : State) : Out :=
  .next (((s.reg r).eng.filter s.foreignDue).foldl (fun s p =>
    let p := s.prov p
    if s.foreignPasses p then
      (s.modProv p (fun q => { q with foreign := true })).evalGroup p
    else s.decideRet p 1) s)

/-- Returns of region r without a decision 56 µs after their entry are retracted with cause timeout (R320). -/
def execDecisionTimeout (r : Fin 8) (s : State) : Out :=
  .next (((s.reg r).eng.filter (fun p => p.decided.isNone && decide (p.entry + decisionTicks ≤ s.tb.tick))).foldl
    (fun s p => s.decideRet (s.prov p) 4) s)

/-- A verdict put on the queues that carried the record, under their present binding: its room is reserved, and only an
unbound queue discards it (R323, R426). -/
def State.putVerdict (s : State) (p : Prov) (ws : List Word) : State :=
  p.qs.foldl (fun s q =>
    let s := s.setQueue q (fun e => { e with resv := e.resv - 16 })
    if (s.bindOf q).port = 0 then s.discardRec q else s.addRecord q ws) s

/-- The verdict of the oldest outstanding identifier is enqueued, once its return is decided (R293, R321 to R325). -/
def execVerdictEnqueue (s : State) : Out :=
  match s.rej.out with
  | [] => .next s
  | (id, r) :: rest =>
    let pop (s : State) : State := { s with rej := { s.rej with out := rest } }
    match (s.reg r).eng.find? (fun p => p.rec_ = 1 && p.id == id && !p.sent) with
    | none => .next (pop s)
    | some p =>
      match p.decided with
      | none => .next s
      | some cause =>
        let s := (pop s).putVerdict p (s.verdictWords p cause)
        let s := (s.modProv p (fun q => { q with sent := true })).countVerdict p cause
        .next (if cause = 0 then s.enterCollector p else s)

/-! ### The point collector (R33, R34, R193 to R196, R444) -/

/-- A return of the engine is settled: in the collector, or its verdict is final. -/
def Prov.settled (p : Prov) : Bool := p.col || p.sent

/-- A confirmed return, in the collector or before it. -/
def Prov.confirmed (p : Prov) : Bool := p.col || p.atDoor

/-- The returns of a channel-shot in the engine, by echo number. -/
def State.provsOf (s : State) (c fire : Nat) : List Prov :=
  ((s.reg (c / 64)).eng.filter (fun p => p.r.ch == c && p.r.shot == fire)).mergeSort (fun a b => a.r.echo ≤ b.r.echo)

/-- A channel-shot is done: final, and every return of it settled; a channel of an absent region is not waited for
(R34). -/
def State.channelDone (s : State) (x : Shot) (c : Nat) : Bool :=
  !s.regionWorks (c / 64) || (x.final.getLsbD c && (s.provsOf c x.fire).all (·.settled))

/-- Segments of the shot that are still being captured, drained or scheduled (R260). -/
def State.segsPending (s : State) (x : Shot) : Bool :=
  let mine (g : Seg) : Bool := g.shot == x.fire && g.fate ≠ 3 && (g.nd.isNone || g.fate ≠ 0)
  s.cells.any (fun e => e.2.segs.any mine) || s.regions.any (fun e => e.2.wq.any mine) ||
    (x.win ≠ 0 && !x.hist && x.part ≠ 0 && (x.trigger == 1 || x.trigger == 2) && x.segSet.1 ≠ 0 &&
      decide (s.tb.tick ≤ x.fire + (wd x.cap 1).fld 12 0))

/-- Whether a channel-shot ends with no confirmed point and is to have a no-return record: a channel that listened, in a
region that is present and does not calibrate (R193, R195, R560). -/
def State.noReturn (s : State) (x : Shot) (c : Nat) : Bool :=
  x.listened c && s.valFor x DET_NORETURN_MODE c == 1 && x.final.getLsbD c && s.regionWorks (c / 64) && !s.calibrating (c / 64) &&
    (s.provsOf c x.fire).all (·.settled) && !(s.provsOf c x.fire).any (·.confirmed)

/-- The no-return record of a channel-shot (R194). Its threshold in the intensity unit is rounded as the intensity is (log
10), from the threshold in 1/1,024 LSB, halves up (DESIGN CHOICE, log 88). -/
def State.noReturnWords (s : State) (x : Shot) (c : Nat) : List Word :=
  let (tsq, low) := tget (0, false) x.ends c
  let t4 : Rat := (sqrtRound (tsq * 65536) : Nat) / 256
  let r : Ret := { shot := x.fire, idx := x.idx, frame := x.frame, ch := c, nd := 0, fin := 0, range := 256 * x.win
                   inten := s.intensity c low t4 0, low := low, fault := x.flag.getLsbD c, stale := s.staleBits c ≠ 0
                   thr := decide (x.s < 256) }
  s.pointWords r 0 0 false true 0x21 0

/-- A channel-shot without a confirmed point is noted for its no-return record (R193). -/
def execNoReturnRecord (c : Fin 512) (fire : Nat) (s : State) : Out :=
  match s.shot fire with
  | some x =>
    .next (if s.noReturn x c && !x.placed then
      s.setShot fire (fun y => { y with nores := y.nores ||| chBit c }) else s)
  | none => .next s

/-- The segment record (R261, R262, R442). -/
def State.segWords (s : State) (g : Seg) (dump : Bool) : List Word :=
  let off := (g.first : Int) - g.shot
  let raw := packNat (g.smp.map (fun m => (m.code, 10)))
  [pack [(s.addr, 3), (g.ch, 9), (g.echo, 2), (g.idx, 18)],
   pack [(unsgn 16 off, 16), (g.smp.length, 9), (b2n g.low, 1), (b2n (g.smp.any (·.sat)), 1), (b2n g.nd.isNone, 1),
     (b2n g.short, 1), (b2n g.trunc, 1), (b2n g.fault, 1), (b2n g.packing, 1)],
   pack [((g.smp.head?.map (·.b)).getD 0, 16), (b2n dump, 1)], recW3 g.frame 0x31 g.pre] ++
  (if g.packing then halves (g.smp.map (container g.fmt))
   else (List.range (ceilDiv (10 * g.smp.length) 32)).map (fun i => w32 (raw / 2 ^ (32 * i))))

/-- The released segments of a channel-shot in their ring: echo segments by echo number, then scheduled ones (R260). -/
def State.segsOf (s : State) (c fire : Nat) : List Seg :=
  let mine := (s.reg (c / 64)).ring.filter (fun g => g.ch == c && g.shot == fire && g.fate == 2 && !g.sent)
  (mine.filter (fun g => g.nd.isSome)).mergeSort (fun a b => a.echo ≤ b.echo) ++ mine.filter (fun g => g.nd.isNone)

/-- A scheduled segment is released when its channel-shot has its last verdict (R255). -/
def State.releaseScheduled (s : State) (c fire : Nat) : State :=
  s.setReg (c / 64) (fun r => { r with ring := r.ring.map (fun g =>
    if g.ch = c && g.shot = fire && g.nd.isNone && g.fate ≠ 3 then { g with fate := 2 } else g) })

/-- The records of one channel-shot leave the collector: points by echo number, or its no-return record, then its released
segments (R33, R194, R260). -/
def State.placeChannel (s : State) (x : Shot) (c : Nat) : State :=
  let ps := (s.provsOf c x.fire).filter (·.confirmed)
  let s := ps.foldl (fun s p => s.segFate c p.r.nd (fun g => { g with fate := 2 })) s
  let s := ps.foldl (fun s p => (s.enqueueAll 0 (fun b => b.has c) (fun _ => s.point p)).countFrame x.frame (32 + p.cls) 1) s
  let s := if ps.isEmpty && !s.calibrating (c / 64) && (x.nores.getLsbD c || s.noReturn x c) then
      s.enqueueAll 0 (fun b => b.has c) (fun _ => s.noReturnWords x c) else s
  let s := s.releaseScheduled c x.fire
  (s.segsOf c x.fire).foldl (fun s g =>
    let s := if g.send then s.enqueueAll 3 (fun b => b.has c) (fun _ => s.segWords g false) else s
    s.setReg (c / 64) (fun r => { r with ring := r.ring.map (fun h => if h = g then { h with sent := true } else h) })) s

/-- A channel did not listen in a shot, as its range-image pixel says: not in the receive set, silenced, or its block or
region absent (R444). -/
def Shot.notListening (x : Shot) (c : Nat) : Bool := !x.rset.getLsbD c || x.deaf.getLsbD c

/-- The two words of a pixel (R444). -/
def State.pixel (s : State) (x : Shot) (sel c : Nat) : List Word :=
  let ps := (s.provsOf c x.fire).filter (·.confirmed)
  let best : Option Prov := match sel with
    | 0 => ps.head?
    | 1 => ps.foldl (fun b p => match b with | none => some p | some q => if q.r.inten < p.r.inten then some p else b) none
    | _ => ps.getLast?
  let deaf := b2n (x.notListening c)
  let fault := b2n (x.flag.getLsbD c)
  match best with
  | none => [pack [(0, 27), (deaf, 1), (0, 3), (fault, 1)], 0]
  | some p => [pack [(p.r.range, 22), (ps.length, 3), (b2n p.r.sat, 1), (b2n (decide (p.conf < s.lowConf p.r)), 1), (deaf, 1),
      (p.cls, 2), (b2n p.adj, 1), (fault, 1)], pack [(p.r.inten, 16), (p.r.width, 8), (p.conf, 8)]]

/-- The range image record of a shot for a queue (R444). -/
def State.imageWords (s : State) (x : Shot) (b : Binding) : List Word :=
  [pack [(s.addr, 3), (b.first, 9), (0, 2), (x.idx, 18)], pack [(b.count, 10), (b.sel, 2), (b2n (decide (x.s < 256)), 1)], 0,
   recW3 x.frame 0x51 0] ++ (span b.first b.count).flatMap (s.pixel x b.sel)

/-- The collector places the records of the next shot in fire order (R34, R196): every channel in ascending order, then
its range images. -/
def execCollectorDrain (s : State) : Out :=
  match s.seq.shots.find? (fun x => x.fired && !x.placed) with
  | none => .next s
  | some x =>
    let cs := (List.range 512).filter (fun c => x.took c)
    if !cs.all (s.channelDone x) || s.segsPending x then .next s
    else
      let s := cs.foldl (fun s c => s.placeChannel x c) s
      let s := s.enqueueAll 6 (fun b => b.count ≠ 0) (s.imageWords x)
      let s := s.setShot x.fire (fun y => { y with placed := true })
      let s := { s with regions := tmap {} s.regions (fun _ g => { g with
        eng := g.eng.filter (fun p => p.r.shot ≠ x.fire || !p.settled) }) }
      .next s.fillCollector.pruneShots.endLeft

/-! ### Sun and the estimator (R302, R310 to R317) -/

/-- The sunlit state of channel c is evaluated from the servo average (R302). -/
def execSunlitEvaluation (c : Fin 512) (s : State) : Out :=
  if !s.dom (c / 16) then .next s else
  let s := s.force .sunlit
  let x := s.cell c
  let ua := s.val REJ_SUN_UA
  let sun : Bool := if x.sun then decide (((3 * 10 * ua : Nat) : Int) ≤ 4 * x.servo) else decide (((10 * ua : Nat) : Int) ≤ x.servo)
  let s := s.setCell c (fun x => { x with sun := sun })
  .next (if sun then s.setFrame s.kept.frame (fun f => { f with sun := f.sun ||| BitVec.ofNat 512 (2 ^ c.val) }) else s)

/-- Train j set. -/
def State.setTrain (s : State) (j : Nat) (t : Train) : State :=
  { s with est := { s.est with trains := tput s.est.trains j t } }

/-- A train's stamps within the gate, newest first, at most 64 in a fit (R314). -/
def State.gated (s : State) (st : List Stamp) : List Stamp := st.filter s.inGate

/-- A train refitted over its newest stamps within the gate while it has 16 of them; else it coasts (R314). -/
def State.refit (s : State) (t : Train) : Train :=
  let st := s.gated t.st
  if st.length < 16 then { t with coast := true }
  else { s.trainOf (st.take 64) with st := t.st, coast := false }

/-- An unassigned stamp is kept: at most 4,096, none older than the gate (R312). -/
def State.keepStamp (s : State) (z : Stamp) : State :=
  let free := s.gated (s.est.free ++ [z])
  { s with est := { s.est with free := free.drop (free.length - 4096) } }

/-- The estimator tests for a new train (R312, R314): acquired as the lowest free number, or counted with a capacity record
at most once per ms. -/
def State.acquire (s : State) : State :=
  let best := s.bestSet (s.est.free.mergeSort (fun a b => a.t ≤ b.t)) [] []
  if best.isEmpty then s
  else match (List.range 32).find? (fun j => (tfind s.est.trains j).isNone) with
    | some j =>
      let t := s.trainOf best.reverse
      let used (z : Stamp) : Bool := best.any (fun y => y.t == z.t && y.ch == z.ch && y.inten == z.inten)
      let s := ({ s with est := { s.est with free := s.est.free.filter (fun z => !used z) } }).setTrain j t
      s.telemetry (s.trainRecord 0 j t)
    | none =>
      let due := match s.est.fullAt with
        | some a => decide (a + msTicks ≤ s.tb.tick)
        | none => true
      let s := { s with est := { s.est with full := s.est.full + 1, fullAt := if due then some s.tb.tick else s.est.fullAt } }
      if due then s.telemetry s.capacityRecord else s

/-- A stamp reaches the estimator (R313): the train with the smallest residual within the tolerance takes it and is
refitted; else it is unassigned and tested for a new train. -/
def execForeignStamp (s : State) : Out :=
  match s.est.q with
  | [] => .next s
  | z :: rest =>
    let s := ({ s with est := { s.est with q := rest } }).force .estimator
    let res (t : Train) : Rat := (z.at - t.near z.at).abs
    let tol : Rat := (256 * s.val REJ_TRACK_TOL_TK : Nat)
    let best := s.est.trains.foldl (fun (b : Option (Nat × Train)) e =>
      if tol < res e.2 then b
      else match b with
        | none => some e
        | some y => if res e.2 < res y.2 then some e else b) none
    match best with
    | some (j, t) =>
      let k := roundHalfUp ((z.at - t.phi) / t.per)
      .next (s.setTrain j (s.refit { t with st := { z with k := k } :: t.st }))
    | none => .next (s.keepStamp z).acquire

/-- Stamps of train j age beyond the gate: it coasts, or is dropped with a record (R314, R317). -/
def execTrainGateExpiry (j : Fin 32) (s : State) : Out :=
  match tfind s.est.trains j with
  | none => .next s
  | some t =>
    let st := s.gated t.st
    let t' := { t with st := st, coast := t.coast || decide (st.length < 16) }
    if st.isEmpty then
      .next ((s.telemetry (s.trainRecord 2 j t')) |> fun s => { s with est := { s.est with trains := tdel s.est.trains j } })
    else .next (s.setTrain j t')

/-- The periodic record of train j (R317). -/
def execTrainReport (j : Fin 32) (s : State) : Out :=
  match tfind s.est.trains j with
  | some t => .next (if s.val REJ_TRAIN_REPORT_MS = 0 then s else s.telemetry (s.trainRecord 1 j t))
  | none => .next s

/-! ### 08xxh commands -/

/-- REJ_STATUS_GET. -/
def execRejStatusGet (m : Fin 64) (s : State) : Out :=
  s.skeic 0x0801 m fun s =>
    let sun : BitVec 512 := maskOf (fun c => (s.cell c).sun)
    .done s (pack [(s.est.trains.length, 6), (popcount sun, 10)] ::
      (List.range 16).map (fun i => w32 (sun.toNat >>> (32 * i))) ++ (span 17 10).map (fun w => w32 (tget 0 s.rej.n w)))

/-- REJ_PARAM_WRITE (R327); bits 0 and 3 of REJ_WX_RETRACT set are a host error. -/
def execRejParamWrite (m : Fin 64) (s : State) : Out :=
  s.skeic 0x0802 m fun s =>
    need ((s.pw m 0).fld 7 0 ≠ 10 || (s.pw m 1).toNat &&& 9 = 0) "REJ_WX_RETRACT" <| s.parWrite 8 m (fun t _ => t)

/-- REJ_PARAM_READ. -/
def execRejParamRead (m : Fin 64) (s : State) : Out := s.skeic 0x0803 m fun s => s.parRead 8 m

/-- The six words of a train in REJ_TRAIN_LIST. -/
def State.trainWords (s : State) (j : Nat) (t : Train) : List Word :=
  let r := s.trainRecord 1 j t
  [pack [(j, 5), (b2n t.coast, 1), (t.n, 7)], wd r 1, wd r 4, wd r 5, wd r 6, wd r 7]

/-- REJ_TRAIN_LIST. -/
def execRejTrainList (m : Fin 64) (s : State) : Out :=
  s.skeic 0x0804 m fun s =>
    .done s (w32 ((s.est.trains.map (fun e => 2 ^ e.1)).sum) :: s.est.trains.flatMap (fun e => s.trainWords e.1 e.2))

/-- REJ_TRAIN_DROP: the named trains are dropped with a record each, their stamps discarded (R317, R329). -/
def execRejTrainDrop (m : Fin 64) (s : State) : Out :=
  s.skeic 0x0805 m fun s =>
    let named := s.est.trains.filter (fun e => (s.pw m 0).bit e.1)
    let s := named.foldl (fun s e => s.telemetry (s.trainRecord 2 e.1 e.2)) s
    .done { s with est := { s.est with trains := s.est.trains.filter (fun e => !(s.pw m 0).bit e.1) } } []

end Sys2Proof.Machine
end

