-- ==== Sys2Proof/Machine/Resets.lean ====
section
/-! DEFINITION. Scrubbing errors, block and region restarts, resets and the boot (chapters 01, 12, 16, 17). -/
namespace Sys2Proof.Machine

/-! ### Scrubbing (R594) -/

/-- A corrected scrub error counted. -/
def State.scrubbed (s : State) (corrected : Bool) : State :=
  if corrected then { s with obs := { s.obs with corrections := wrap 32 (s.obs.corrections + 1) } } else s

/-- The chip-level SRAMs are scrubbed; an uncorrectable error is a fabric fatal error. -/
def execSramScrub (corrected bad : Bool) (s : State) : Out :=
  let s := s.scrubbed corrected
  .next (if bad then s.enterSafe 1 else s)

/-- The memories of region controller r are scrubbed; an uncorrectable error halts it and its watchdog starts a region
restart. -/
def execRegionMemoryScrub (r : Fin 8) (corrected bad : Bool) (s : State) : Out :=
  let s := s.scrubbed corrected
  let s := if corrected then s.countR r 0x15 0 none 1 else s
  .next (if bad then s.regionError r 2 else s)

/-! ### Block and region restarts (R22 to R32) -/

/-- A single-bit error in the histogram SRAM of block b is corrected and counted (R22). -/
def execSramSingleBit (b : Fin 32) (s : State) : Out :=
  .next ((s.setBlk b (fun k => { k with corr := k.corr + 1 })).countB b 0x0D 0 none 1)

/-- One second in ticks. -/
def secTicks : Nat := 1600000000

/-- Block b is held off at a fourth restart within 1 s (R25): its cells are silenced, and it is absent in this frame (R445). -/
def State.holdOff (s : State) (b : Nat) : State :=
  let s := s.setBlk b (fun k => { k with held := true, restart := false })
  ((span (16 * b) 16).foldl (fun s c => s.noteSilent c) s).noteAbsent.event 1 b 0x0002 []

/-- A double-bit error of the histogram SRAM or a parity error of the coefficients starts a restart of block b (R23 to
R25); not while its region restarts, is disabled, or in the safe state (R14, R623). -/
def execBlockError (b : Fin 32) (parity : Bool) (s : State) : Out :=
  let r := b.val / 4
  let k := s.blk b
  if !s.dom (32 + b) || (s.reg r).restart || (s.reg r).disabled || s.pwr.safe || k.held then .next s
  else
    let recent := k.starts.filter (fun t => decide (s.tb.tick < t + secTicks))
    let s := (s.stopBlock b).setBlk b (fun k => { k with errs := k.errs + 1 })
    let s := s.calInterrupt r
    if 3 ≤ recent.length then .next (s.holdOff b)
    else
      let s := s.setBlk b (fun k => { k with restart := true, starts := s.tb.tick :: recent })
      .next ((s.noteAbsent.event 1 b 0x0001 [if parity then 2 else 1]).freezeEvent 2)

/-- Block b takes part in shots again (R23). -/
def execBlockRestartComplete (b : Fin 32) (s : State) : Out :=
  .next (if (s.blk b).restart then s.setBlk b (fun k => { k with restart := false }) else s)

/-- A fault of the home memory channel or the loss of the clock tree of region r (R29). -/
def execRegionError (r : Fin 8) (tree : Bool) (s : State) : Out := .next (s.regionError r (if tree then 3 else 1))

/-- 100 µs without service of the controller of region r (R29). -/
def execRegionWatchdog (r : Fin 8) (s : State) : Out := .next (s.regionError r 2)

/-- A restart of region r has not come to its end within 250 µs: it fails, and another starts or the region is disabled
(R32). -/
def execRegionRestartTimeout (r : Fin 8) (s : State) : Out :=
  let g := s.reg r
  if !g.restart then .next s
  else
    let s := s.setReg r (fun g => { g with fails := g.fails + 1 })
    .next (if 2 ≤ g.fails + 1 then s.disableRegion r else s.startRestart r g.cause)

/-- An uncorrectable error in the fabric or the collector (R35, R622). -/
def execFabricFatalError (s : State) : Out := .next (s.enterSafe 1)

/-! ### Warm resets of chip scope (R606 to R608) -/

/-- The trigger of a warm reset of chip scope (R607): RUN is withdrawn, torque is off where the head turns, memory goes
into self-refresh; a second trigger starts the sequence again (R618). -/
def State.triggerWarm (s : State) (kind detail : Nat) : State :=
  if !s.pwr.good || s.pwr.failing then s
  else
    let b := if s.boot.phase = 0 then { s.boot with
        before := (if s.pwr.safe then Dev.park else s.pwr.dev).code, safeBefore := s.pwr.safe } else s.boot
    let s := { s with
      boot := { b with phase := 1, kind := kind, detail := detail }
      pwr := { s.pwr with trans := none, queue := [], ended := [], wake := none }
      ske := { s.ske with resetDue := false } }
    let s := if s.dom 88 || s.dom 90 then s.withdraw.guardOff else s.withdraw
    { s with mem := (List.range 8).foldl (fun t k => tmod {} t k (fun x => { x with st := 3 })) s.mem }

/-- RESET_N has been low for 1 µs (R608): a warm reset, or the power-up sequence from SLEEP and OFF (R71). -/
def execPinReset (s : State) : Out :=
  if !s.pwr.alive || s.pwr.failing || s.pwr.powerUp then .next s
  else if s.pwr.dev = .sleep || s.pwr.dev = .off then
    let before := s.pwr.dev.code
    let safe := s.pwr.safe
    let s := s.volatileReset
    .next (({ s with
      ske := {}, boot := { kind := 3, before := before, safeBefore := safe }
      isl := { s.isl with event := false }, pwr := { failSeen := s.pwr.failSeen } }).force .powerUp)
  else .next ({ s.triggerWarm 3 0 with boot := { (s.triggerWarm 3 0).boot with resetN := true } })

/-- 1 ms after the DEV_RESET response is ready the Skeic device reset begins (R486). -/
def execDevResetStart (s : State) : Out := .next (if s.ske.resetDue then s.triggerWarm 4 0 else s)

/-- The warm reset is asserted: every domain off but 93, everything at what R614 says (R607, R617). -/
def execWarmResetAssert (s : State) : Out :=
  if s.boot.phase ≠ 1 then .next s
  else
    let b := s.boot
    let heater := if s.dom 93 then domMask [93] else 0
    let t := s.volatileReset
    .next { t with
      boot := { kind := b.kind, before := b.before, safeBefore := b.safeBefore, detail := b.detail, phase := 2, resetN := b.resetN }
      pwr := { dev := .park, on := heater, rails := t.pwr.rails, good := t.pwr.good, band := t.pwr.band, powerUp := false
               failSeen := t.pwr.failSeen, warm := t.pwr.warm, falling := t.pwr.falling }
      ske := {}, isl := { t.isl with event := false } }

/-- The warm reset is released: boot stage 0, the fuses are read; rails that an ordered power-down had let fall are up again
(log 84); a supply fault that is still present leads to the safe state again (R570, R607, R625). -/
def execResetRelease (supplyFault : Bool) (s : State) : Out :=
  if s.boot.phase ≠ 2 then .next s
  else
    let s := ({ s with boot := { s.boot with phase := 0, resetN := false }, pwr := { s.pwr with falling := 0 } }).readFuses
    .next (if supplyFault then s.enterSafe 4 else { s with pwr := { s.pwr with band := 0 } })

/-! ### Boot (R478 to R480) -/

/-- The check of slot k completes: it is loaded, the other slot is checked next, or the boot has failed (R479). -/
def State.checkSlot (s : State) (k : Nat) (trial second : Bool) : State :=
  let r := s.imageCheck k
  let s := s.setRes k r
  if r = 0 then
    let s := s.startSlot k trial
    { s with boot := { s.boot with fellBack := second } }
  else if second then { s with boot := { s.boot with stage := 5, slot := k } }
  else { s with boot := { s.boot with stage := 1, slot := 1 - k, second := true } }

/-- The boot ROM goes on (R479): in stage 0 it chooses the first slot, the trial one, whose trial is cleared, or the preferred
one of the journal, and its check begins; a check that completes loads the slot or begins the other slot's. -/
def execBootSlotCheck (s : State) : Out :=
  if !s.pwr.good || s.boot.phase ≠ 0 || s.pwr.failing then .next s
  else if s.boot.stage = 0 then
    let b := s.jnl.held.boot
    let t := if b.trial then s.hwP (fun p => { p with boot := { p.boot with trial := false } }) else s
    .next { t with boot := { t.boot with
      stage := 1, slot := if b.trial then b.slot else b.pref.getD 0, trying := b.trial, second := false } }
  else if s.boot.stage = 1 then .next (s.checkSlot s.boot.slot (s.boot.trying && !s.boot.second) s.boot.second)
  else .next s

/-- The island takes the committed set after a cold reset (R590), if its check passes; else it has no valid set (R410). -/
def State.loadIsland (s : State) : State :=
  if s.isl.active.isNone && (s.boot.kind = 1 || s.boot.kind = 2) then
    match s.p.saf with
    | some t => if w32 (setCheck t) = s.p.safCheck then s.activate t else s
    | none => s
  else s

/-- The firmware starts and the journal is replayed (R479, R586): class P as committed is in force, the domains of PARK
are on. -/
def execFirmwareStart (s : State) : Out :=
  if s.boot.stage ≠ 2 then .next s
  else
    let (p, w) := s.jnl.replay
    let w := if s.boot.kind = 1 || s.boot.kind = 2 then w else s.wear
    let wear := if s.boot.kind = 1 then { w with powerOns := wrap 32 (w.powerOns + 1) } else w
    let s := { s with
      boot := { s.boot with stage := 3 }, p := p, lag := s.railLag, ready := [], coincNow := [], profNow := [], wear := wear
      jnl := { s.jnl with held := p, ignoredAtBoot := !s.jnl.ignored.isEmpty }.eraseOn }
    let s := { s with memCfg := s.btWord 4 }
    .next (s.domainsTo s.parkMask).loadIsland

/-- Event 0210h and the events that waited for it (R613). -/
def State.resetEvent (s : State) : State :=
  let b := s.boot
  let s := { s with boot := { b with hold := false, held := [] } }
  let s := s.pushEvent 3 0 0x0210 [b.kind, b.before + 8 * b2n b.safeBefore, b.detail, s.jnl.last] s.nowNs
  b.held.foldl (fun s e => s.pushEvent e.1 e.2.1 e.2.2.1 e.2.2.2.1 e.2.2.2.2) s

/-- Stage 4: messages are placed, the device is in PARK and goes on to PWR_BOOT_STATE (R479, R480); a compaction may be due
(R583). -/
def execBootReady (s : State) : Out :=
  if s.boot.stage ≠ 3 then .next s
  else
    let s := { s with boot := { s.boot with stage := 4 }, ske := { s.ske with serving := true } }
    let s := s.resetEvent
    let s := s.jnl.ignored.foldl (fun s e => s.chipEvent 0x0F02 [e.seq, e.subj]) s
    let s := s.fuseEvents.compactIfDue
    .next (if s.val PWR_BOOT_STATE = 1 && !s.pwr.safe && s.therm.st ≠ 3 then s.startStep .quiet none else s)

/-! ### The watchdog reset (R610 to R613) -/

/-- What waits for a mailbox goes on without a response (R612). -/
def State.orphan (s : State) : State :=
  let trans := s.pwr.trans.map (fun (t : Trans) => { t with mbx := none })
  let seq := { s.seq with
    check := s.seq.check.map (fun (c : Nat × Nat) => (noMbx, c.2)), stopMbx := []
    proofRun := s.seq.proofRun.map (fun (e : Nat × Nat × Nat) => (noMbx, e.2.1, e.2.2)) }
  let txn := s.jnl.txn.map (fun (t : Txn) => match t.waiter with
    | .answer _ _ => { t with waiter := .none }
    | .wake _ => { t with waiter := .none }
    | .safSet _ _ => { t with waiter := .safSet noMbx [] }
    | .domains _ ds on old => { t with waiter := .domains noMbx ds on old }
    | _ => t)
  let test := s.isl.test.map (fun (b : BrakeTest) => { b with mbx := noMbx })
  { s with
    pwr := { s.pwr with trans := trans, queue := [], ended := [] }
    seq := seq, fuse := s.fuse.orphan, jnl := { s.jnl with txn := txn }, isl := { s.isl with test := test }
    biasTest := s.biasTest.map (fun (b : BiasTest) => { b with mbx := noMbx })
    ch := { s.ch with measuring := s.ch.measuring.map (fun (x : Nat × Nat) => (noMbx, x.2)) } }

/-- A watchdog reset ends a calibration run too, without a response: the region in progress has result 3 and status 4 (R562). -/
def State.calCut (s : State) : State :=
  match s.cal.run.bind (·.part) with
  | some p => { (s.calStatus p 4).chipEvent 0x0E01 [p, 3, 0] with cal := { s.cal with run := none, res := tset 4 s.cal.res p 3 } }
  | none => { s with cal := { s.cal with run := none } }

/-- The application cores are reset: sessions and mailboxes go, but for what was placed and not applied (R606, R612). The
service port's registers and the discard counts are hardware and are kept (R614; DEDUCED, log 81). -/
def State.coreReset (s : State) (core : Nat) : State :=
  let held := s.ske.mbx.filter (fun e => e.2.st == 2)
  let s := s.calCut.orphan
  { s with
    ske := { mbx := held, mem := s.ske.mem, notExecuted := held.map (·.1), disc := s.ske.disc, lost := s.ske.lost
             spMbx := s.ske.spMbx, spOff := s.ske.spOff, scratch := s.ske.scratch }
    boot := { s.boot with dogMask := s.boot.dogMask ||| 2 ^ core
                          before := (if s.pwr.safe then Dev.park else s.pwr.dev).code, safeBefore := s.pwr.safe } }

/-- An application core's watchdog expires: the cores restart from the copy of the image, or a Skeic device reset follows
(R610, R611, R620). -/
def execWatchdogExpiry (core : Fin 4) (copyOk : Bool) (s : State) : Out :=
  if s.boot.stage ≠ 4 || s.boot.phase ≠ 0 || s.ske.resetDue || s.pwr.dev = .sleep || s.pwr.dev = .off then .next s
  else
    let dogs := s.tb.tick :: s.boot.dogs.filter (fun t => decide (s.tb.tick < t + 10 * secTicks))
    let s := { s with boot := { s.boot with dogs := dogs } }
    .next (if !copyOk || 3 ≤ dogs.length then s.triggerWarm 4 1 else s.coreReset core)

/-- The restarted firmware serves messages again: what was not applied is answered with status 02h, and event 0210h
follows (R612, R613). -/
def execFirmwareRestart (s : State) : Out :=
  if s.ske.serving || s.boot.stage ≠ 4 || s.boot.dogMask = 0 then .next s
  else
    let ms := s.ske.notExecuted
    let mask := s.boot.dogMask
    let s := { s with ske := { s.ske with serving := true, notExecuted := [] }, boot := { s.boot with dogMask := 0 } }
    let s := ms.foldl (fun s m => s.respond m 2 []) s
    .next (s.chipEvent 0x0210 [5, s.boot.before + 8 * b2n s.boot.safeBefore, mask, s.jnl.last])

end Sys2Proof.Machine
end

