-- ==== Sys2Proof/Machine/Capture.lean ====
section
/-! DEFINITION. Segment capture, histograms, memory channels, the look-back recorder, the ladder, and the 07xxh commands
(chapter 07). -/
namespace Sys2Proof.Machine

/-! ### Segments (R256, R258, R279) -/

/-- The first segment of a cell that meets a test, changed. -/
def firstSeg (t : Seg → Bool) (f : Seg → Seg) : List Seg → List Seg
  | [] => []
  | g :: r => if t g then f g :: r else g :: firstSeg t f r

/-- A segment of channel c has its last sample (R258). -/
def execSegmentCaptureEnd (c : Fin 512) (s : State) : Out :=
  let done (g : Seg) : Bool := !g.ended && decide (g.len ≤ g.smp.length)
  match (s.cell c).segs.find? done with
  | none => .next s
  | some g =>
    let s := s.setCell c (fun x => { x with segs := firstSeg done (fun g => { g with ended := true }) x.segs })
    let s := s.countB (c / 16) 0x0A 0 (some (c % 16)) 1
    .next (if g.trunc then s.countFrame g.frame 20 1 else s)

/-- The segments of one area (the ring, or the spill area) that are not protected leave a list, oldest first, until those that
stay fit into n bytes; the answer holds what is left and what has left. -/
def trimRing (spill : Bool) : Nat → Nat → List Seg → List Seg × List Seg
  | _, _, [] => ([], [])
  | used, n, g :: r =>
    if g.prot || g.spill != spill then let t := trimRing spill used n r; (g :: t.1, t.2)
    else if used ≤ n then (g :: r, [])
    else let t := trimRing spill (used - g.bytes) n r; (t.1, g :: t.2)

/-- Bytes of one area that segments which are not protected take. -/
def areaBytes (spill : Bool) (ring : List Seg) : Nat := ((ring.filter (fun x => !x.prot && x.spill == spill)).map Seg.bytes).sum

/-- Bytes that new segments of region r may take: the whole ring, or the live area while it is frozen (R280); what the staged
records leave of the 64 MiB in the spill area (R276, R278). -/
def State.liveBytes (s : State) (r : Nat) (spill : Bool) : Nat :=
  if spill then 64 * 2 ^ 20 - s.stagedIn r true [0x39, 0x41] else if s.look.st = 2 then s.ringBytes / 8 else s.ringBytes

/-- A datagram without a record; one that holds no other is gone. -/
def Dgram.without (d : Dgram) (r : List Word) : Option Dgram :=
  let recs := d.recs.erase r
  if recs.isEmpty then none else some { d with recs := recs }

/-- A record that still waits in queues is taken out of them; a datagram on the wire is sent as it is. The answer says whether
it waited anywhere. A closed datagram that loses its last record is not sent (DESIGN CHOICE, log 58). -/
def State.recall (s : State) (r : List Word) : Bool × State :=
  let n := 4 * r.length
  let less (e : Queue) : Queue := { e with held := e.held - n, mem := if recStaged r then e.mem - n else e.mem }
  let onWire (d : Dgram) : Bool := [0, 1].any (fun p => (s.port p).wire == some (.dgram d))
  let takes (d : Dgram) : Bool := d.chain == s.addr && d.recs.contains r && !onWire d
  let open_ := (s.eth.q.filter (fun e => e.2.cur.contains r)).map (·.1)
  let closed := s.ownDgrams.filter takes
  let strip (l : List Dgram) : List Dgram := l.filterMap (fun d => if takes d then d.without r else some d)
  let s := open_.foldl (fun s q => s.setQueue q (fun e => less { e with cur := e.cur.erase r })) s
  let s := closed.foldl (fun s d => s.setQueue d.queue less) s
  let s := [0, 1].foldl (fun (s : State) p => s.setPort p (fun e => { e with wait := strip e.wait })) s
  let s := closed.foldl (fun (s : State) d => [0, 1].foldl (fun (s : State) p => s.idle p (d.rr s.addr)) s) s
  (!(open_.isEmpty && closed.isEmpty),
    { s with ch := { s.ch with up := { s.ch.up with dgrams := strip s.ch.up.dgrams } } })

/-- The ring has wrapped onto a segment: where its record has not been sent it is not sent any more, and is an overrun
(R279). -/
def State.overrun (s : State) (g : Seg) : State :=
  let (waited, s) := if g.sent then s.recall (s.segWords g false) else (false, s)
  if g.send && (!g.sent || waited) then
    ({ s with look := { s.look with ovr := wrap 32 (s.look.ovr + 1) } }).countNow 21 1
  else s

/-- A segment written for region r: into its ring, at the write pointer with the tag's generation, or into the spill area of the
next channel; it takes the place of the oldest ones there (R271, R274, R276, R279). -/
def State.toRing (s : State) (r : Nat) (spill : Bool) (g : Seg) : State :=
  let x := s.reg r
  let wraps : Bool := !spill && decide (s.ringBytes < x.wr + g.bytes)
  let gen := if wraps then wrap 8 (x.gen + 1) else x.gen
  let ring := x.ring ++ [{ g with spill := spill, gen := gen }]
  let t := trimRing spill (areaBytes spill ring) (s.liveBytes r spill) ring
  let s := (s.setReg r (fun x => { x with
    ring := t.1, gen := gen, wr := if spill then x.wr else if wraps then g.bytes else x.wr + g.bytes })).countR r 0x14 0 none 1
  t.2.foldl State.overrun s

/-- Segments of region r in the spill area give way to the records staged there (R278; DESIGN CHOICE, log 89). -/
def State.trimSpill (s : State) (r : Nat) : State :=
  let ring := (s.reg r).ring
  let t := trimRing true (areaBytes true ring) (s.liveBytes r true) ring
  if t.2.isEmpty then s else t.2.foldl State.overrun (s.setReg r (fun x => { x with ring := t.1 }))

/-- The write port of region r writes what waits behind the histograms (R27); with segment capture disabled the segments are
gone, as missed ones (R31; DESIGN CHOICE, log 59). -/
def State.portWrite (s : State) (r : Nat) : State :=
  if s.portBusy r then s else
  let l := (s.reg r).wq
  let clear (s : State) : State := s.setReg r (fun g => { g with wq := [] })
  if (s.reg r).noSeg then l.foldl (fun s g => s.missSeg g.ch g.frame) (clear s)
  else match s.writesTo r with
    | some spill => l.foldl (fun s g => s.toRing r spill g) (clear s)
    | none => s

/-- Bytes of the write queue of a region. -/
def Region.queued (g : Region) : Nat := (g.wq.map Seg.bytes).sum

/-- The oldest captured segment of channel c drains to its region (R256), whose write queue of 256 KiB has to have room for it:
a freed one is gone (R255), any other is written. -/
def execSegmentDrained (c : Fin 512) (s : State) : Out :=
  match (s.cell c).segs.find? (·.ended) with
  | none => .next s
  | some g =>
    let r := c.val / 64
    let s' := s.setCell c (fun x => { x with segs := x.segs.erase g })
    if g.fate = 3 then .next s'
    else if !s.regionWorks r || 262144 < (s.reg r).queued + g.bytes then .next s
    else .next ((s'.setReg r (fun x => { x with wq := x.wq ++ [g] })).portWrite r)

/-! ### Converter-queue staging (R146 to R148, R276, R278) -/

/-- The oldest closed entry is passed on, or dropped whole where the dual-clock queue, the region's write port or the
converter-queue area cannot take it (R27, R146 to R148, R276). It is delivered once its destination queue has taken its record.
One of a later capture waits for those of earlier ones, also for those that still fill up (R151). -/
def execCqEntryClose (taken : Bool) (s : State) : Out :=
  let s := s.cqSettle
  match s.cq.full with
  | [] => .next s
  | h :: r =>
    if s.cq.closing.any (fun o => o.num ≠ h.num && h.num = s.cq.num) then .next s else
    let c := h.e.ch
    let own := b2n (h.num == s.cq.num)
    let drops := tget 0 s.cq.drops c
    let q := { s.cq with full := r, st := if s.cq.st = 3 && r.isEmpty && s.cq.closing.isEmpty then 0 else s.cq.st }
    if taken && s.portFree (c / 64) && s.stages (s.cqRecord h.e h.num drops) then
      let a := { s with cq := q }.enqueue h.dest (s.cqRecord h.e h.num drops)
      let a := (a.1, a.2.trimSpill (c / 64))
      .next (if a.1 then { a.2 with cq := { q with delivered := wrap 32 (q.delivered + own), drops := tset 0 q.drops c 0 } }
             else a.2)
    else .next { s with cq := { q with dropped := wrap 32 (q.dropped + own), drops := tset 0 q.drops c (sat 16 (drops + 1)) } }

/-! ### Histograms (R263 to R268) -/

/-- Histogram output code of a group's profile, and its decimation D. -/
def Grp.output (g : Grp) : Nat := (wd g.prof 2).fld 11 10
def Grp.decim (g : Grp) : Nat := (wd g.prof 2).fld 16 12

/-- The histogram record of a group (chapter 11, Histogram record; R266). -/
def State.histWords (s : State) (g : Grp) : List Word :=
  let nb := if g.acc = 0 then 0 else g.nb
  [pack [(s.addr, 3), (g.ch, 9), (0, 2), (g.firstIdx, 18)],
   pack [(g.lastIdx, 18), (g.w, 3), (b2n g.low, 1), (b2n g.early, 1), (b2n g.thr, 1)],
   pack [((wd g.prof 2).fld 6 0, 7), (g.acc, 7), (g.skip, 7)], recW3 g.frame 0x41 g.base,
   pack [(nb, 12), (sat 20 g.sats, 20)], w32 g.frame, 0, 0] ++ halves (g.bins.take nb)

/-- The histogram record of a group goes to the queues of its channel. -/
def State.sendHist (s : State) (g : Grp) : State :=
  if g.output = 1 then s else s.enqueueAll 4 (fun b => b.has g.ch) (fun _ => s.histWords g)

/-- The overview bins of a group: means of D consecutive bins, rounded down (R268). -/
def overviewBins (d : Nat) : Nat → List Nat → List Nat
  | 0, _ => []
  | n + 1, l => if l.isEmpty then [] else ((l.take d).sum / min d l.length) :: overviewBins d n (l.drop d)

/-- The overview record of a bank of block b that was read out: all its cells whose profile decimates, in ascending order
(R268, R443). The header's one set of fields is that of the lowest of them (DESIGN CHOICE, log 60). -/
def State.overviewWords (s : State) (b : Nat) (gs : List Grp) : List Word :=
  let gs := (gs.filter (fun g => g.decim ≠ 0)).mergeSort (fun x y => x.ch ≤ y.ch)
  let g := gs.headD default
  let mask := ((gs.map (·.ch % 16)).eraseDups.map (2 ^ ·)).sum
  [pack [(s.addr, 3), (b, 5), (mask, 16)], pack [(g.lastIdx, 18), (g.decim, 5), (b2n g.thr, 1)],
   pack [(ceilDiv g.nb g.decim, 12), (g.w, 3)], recW3 g.frame 0x49 0] ++
  gs.flatMap (fun x => halves (overviewBins x.decim x.nb x.bins))

/-- The staging has room for the histograms of a bank that go to some queue (R266, R276, R278). -/
def State.bankFits (s : State) (b : Nat) (gs : List Grp) : Bool :=
  let sent := gs.filter (fun g => g.output ≠ 1 && s.queueList.any (fun q =>
    (s.bindOf q).port ≠ 0 && (s.bindOf q).cls == 4 && (s.bindOf q).has g.ch))
  sent.isEmpty || s.stageRoom (b / 4) 0x41 (recBytes (sent.map s.histWords))

/-- The readout of the bank of block b completes: histogram and overview records are staged (R266, R268), and what waits behind
it at the write port is written (R27). Where the staging cannot take it the readout is held back (R39). -/
def execHistogramReadoutComplete (b : Fin 32) (s : State) : Out :=
  let gs := (s.blk b).rd
  if gs.isEmpty || !s.bankFits b gs then .next s
  else
    let s := (gs.foldl (fun s g => s.sendHist g) s).trimSpill (b / 4)
    let s := if gs.all (fun g => g.decim == 0) then s
      else s.enqueueAll 5 (fun q => (span (16 * b) 16).any q.has) (fun _ => s.overviewWords b gs)
    .next ((s.setBlk b (fun k => { k with rd := [] })).portWrite (b / 4))

/-- The banks of block b swap (R266). -/
def execHistogramBankSwap (b : Fin 32) (s : State) : Out := .next (s.setBlk b Block.swap)

/-- The filter's output over an accumulated waveform at index n (R267). What lies before its first bin is not stated: an
output that would take it is open (log 10). -/
def accumOut (h : Coef) (a : List Rat) (n : Nat) : Int :=
  let v := sumR ((List.range h.length).map (fun i => if i ≤ n then (h.getD i 0 : Rat) * a.getD (n - i) 0 else 0)) / 16384
  if n + 1 < h.length then Config.openInt 0x1163 v else filterOut v

/-- The detections of an accumulated waveform (R168, R267): outputs ys from tick f on, a threshold whose square is given, the
square of the noise, tap count and bins with end codes. A detection that the waveform's end leaves open closes there. -/
def accumDets (f : Nat) (ys : List Int) (tsq v : Rat) (low : Bool) (taps : Nat) (full : Nat → Bool) : List Det :=
  let step (x : Cell) (n : Nat) : Cell :=
    let y := ys.getD n 0
    let x := x.stepDet (f + n) y
    if x.armed && 0 < y && decide (tsq ≤ ((y * y : Int) : Rat)) then
      let y0 := if n = 0 then Config.openInt 0x1164 0 else ys.getD (n - 1) 0
      let k := ((List.range taps).filter (fun i => full (n + i))).length
      let d : Det := { nd := f + n, tsq := tsq, v := v, low := low, peak := y, peakAt := f + n
                       ys := ys.take (n + 1), ysAt := f, span := taps
                       cross := interpolated (f + n) y0 y tsq, interp := true, full := k, sat := k ≠ 0 }
      { x with det := some d, armed := false }
    else x
  ((List.range ys.length).foldl step {}).closeDet (f + ys.length) false |>.dets

/-- The detections that the cell makes of a closed group (R267): a sample that was saturated stands in an unknown bin, so
whether it lies in a detection is open where no bin has an end code (log 5). -/
def State.groupDets (s : State) (g : Grp) : List Det × State :=
  let x := s.cell g.ch
  let a : List Rat := g.bins.map (fun b => (4 * b : Nat) / (g.acc : Rat) - (g.base : Nat))
  let one (h : Coef) (n : Nat) : Int := accumOut h a n
  let y (n : Nat) : Int := match x.old with
    | some h => let j : Rat := (min 64 x.j : Nat) / 64; filterOut ((1 - j) * one h n + j * one x.coef n)
    | none => one x.coef n
  let fl : Rat := s.floorOf g.ch g.low
  let v : Rat := match (if g.low then x.lo else x.hi) with
    | some t => t.v
    | none => fl * fl / 25
  let k : Rat := s.cur DET_THR_K g.ch
  let tsq := max (fl * fl) (k * k * v / 256 / (g.acc : Nat))
  let full (n : Nat) : Bool := n < g.nb && (g.bins.getD n 1 == 0 || g.bins.getD n 1 == 1023 * g.acc)
  let ds := accumDets g.last ((List.range g.nb).map y) tsq v g.low x.taps full
  let ds := ds.map (fun d => { d with near := s.trainDist (g.ch / 16) d.nd })
  if g.sats = 0 then (ds, s)
  else ds.foldl (fun (a : List Det × State) d =>
    if d.sat then (a.1 ++ [d], a.2)
    else let (b, t) := a.2.draw 2; (a.1 ++ [{ d with sat := b == 1 }], t)) ([], s)

/-- The returns that accumulated detection gives the group's last member (R267). -/
def State.accumReturns (s : State) (g : Grp) : State :=
  match s.shot g.last with
  | none => s
  | some sh =>
    let (ds, s) := s.groupDets g
    (shotCands ds sh (s.valFor sh DET_CODE_TOL_TK 0)).foldl (fun (s : State) (c : Nat × List Det) =>
      let r := s.mkRet g.ch sh c.2 true
      let s := s.setShot sh.fire (fun x => { x with rets := x.rets ++ [(g.ch, r.nd)] })
      let s := s.setBlk (g.ch / 16) (fun b => { b with rets := b.rets ++ [r] })
      s.countB (g.ch / 16) 0x02 0 (some (g.ch % 16)) 1) s

/-- A group of channel c whose windows are over closes (R263): a record at once where nothing was accumulated (R266), none where
the channel listened at none of its members (R15; DESIGN CHOICE, log 56); detection on the accumulated waveform where its
profile says so (R267). -/
def execHistogramGroupClose (c : Fin 512) (s : State) : Out :=
  let ripe (g : Grp) : Bool := g.ch == c.val && g.ending && !g.closed && g.opens.isEmpty && decide (g.endAt ≤ s.tb.tick)
  match (s.blk (c / 16)).acc.find? ripe with
  | none => .next s
  | some g =>
    if g.acc = 0 then
      let t := s.setBlk (c / 16) (fun b => { b with acc := b.acc.erase g })
      .next (if g.heard then t.sendHist g else t)
    else
      let s := s.setBlk (c / 16) (fun b => { b with acc := b.acc.map (fun h => if h = g then { h with closed := true } else h) })
      .next (if g.output = 0 then s else s.accumReturns g)

/-! ### Memory channels (R269 to R275) -/

/-- Memory channel k. -/
def State.memCh (s : State) (k : Nat) : MemCh := tget {} s.mem k

/-- Memory channel k changed. -/
def State.setMem (s : State) (k : Nat) (f : MemCh → MemCh) : State := { s with mem := tmod {} s.mem k f }

/-- A training of channel k has ended (R270, R271, R273): in use, or back in self-refresh where its domain is off; or failed
with event 0705h, and its region has no segment capture (R31). What waits for the channel is written. -/
def State.trained (s : State) (k : Nat) (ok : Bool) (temp : Int) : State :=
  let st := if !ok then 2 else if s.dom (72 + k) then 0 else 3
  let s := s.setMem k (fun x => { x with st := st, temp := temp })
  let s := s.setReg k (fun g => { g with noSeg := !ok })
  let s := if ok then s else s.chipEvent 0x0705 [k]
  (s.portWrite k).portWrite ((k + 7) % 8)

/-- Training of a memory channel completes or fails (R270, R271). -/
def execMemoryTrainingComplete (ch : Fin 8) (ok : Bool) (temp : Int) (s : State) : Out :=
  .next (if (s.memCh ch).st = 0 || !s.pwr.good then s else s.trained ch ok temp)

/-- Region r resumes after its restart, its home channel retrained: in use again, or failed, and then without segment capture
and with event 0004h (R29, R31, R270). -/
def execRegionRestartComplete (r : Fin 8) (trained : Bool) (s : State) : Out :=
  if !(s.reg r).restart then .next s
  else
    let s := s.setReg r (fun g => { g with restart := false, resumed := some s.tb.tick, noSeg := !trained })
    let s := if s.dom (72 + r) then s.setMem r (fun x => { x with st := if trained then 0 else 2 }) else s
    .next (if trained then s else s.event 2 r 0x0004 [])

/-- Strobe drift is tracked every 50 ms while a channel is in use (R271). -/
def execStrobeDriftTrack (ch : Fin 8) (s : State) : Out :=
  .next (if (s.memCh ch).st = 0 then s.setMem ch (fun x => { x with tracks := x.tracks + 1 }) else s)

/-- A channel in use whose die temperature has moved 15 °C since its last training starts to retrain; one channel at a time
(R271). Until that ends its region writes to the next channel's spill area. Offered while the channel trains, the row is the end of
it, with the outcome ok and the temperature that the next move counts from. -/
def execMemoryRetrain (ch : Fin 8) (temp : Int) (ok : Bool) (s : State) : Out :=
  let x := s.memCh ch
  if x.st = 1 then .next (if s.pwr.good then s.trained ch ok temp else s)
  else if x.st ≠ 0 || (temp - x.temp).natAbs < 240 || s.mem.any (fun e => e.2.st == 1) then .next s
  else .next (s.setMem ch (fun x => { x with st := 1, retrains := sat 16 (x.retrains + 1) }))

/-- The refresh rate that the devices report is read and followed, up to four times the base rate; a temperature above the
range is reported (R272). -/
def execRefreshRateRead (ch : Fin 8) (mult : Fin 4) (hot : Bool) (s : State) : Out :=
  if (s.memCh ch).st ≠ 0 then .next s
  else
    let s := s.setMem ch (fun x => { x with mult := mult + 1 })
    .next (if hot then s.chipEvent 0x0702 [ch] else s)

/-- The i-th record of some types that waits in the staging of region r, or in the spill area, is dropped. -/
def State.dropStaged (s : State) (r : Nat) (spill : Bool) (types : List Nat) (i : Nat) : State :=
  match (s.stagedOf r spill types)[i]? with
  | some x => (s.recall x).2
  | none => s

/-- The i-th segment of region r in its ring, or in the spill area, is dropped with the record of it that waits. -/
def State.dropSeg (s : State) (r : Nat) (spill : Bool) (i : Nat) : State :=
  match ((s.reg r).ring.filter (fun g => g.spill == spill))[i]? with
  | some g => ((s.setReg r (fun x => { x with ring := x.ring.erase g })).recall (s.segWords g false)).2
  | none => s

/-- What lies in the spill area of channel k: segments of the region before, and after them in this count its staged records
(R271, R276, R278). -/
def State.dropSpill (s : State) (k i : Nat) : State :=
  let r := (k + 7) % 8
  let n := ((s.reg r).ring.filter (·.spill)).length
  if i < n then s.dropSeg r true i else s.dropStaged r true [0x39, 0x41] (i - n)

/-- The record that an uncorrectable read error drops: converter-queue entry (2), histogram (3), what lies in the spill area (5),
segment in the ring (6), at a place in its area. The area codes follow the order of R276's table (PRESUMED, log 32). -/
def State.dropRecord (s : State) (k area i : Nat) : State :=
  match area with
  | 2 => s.dropStaged k false [0x39] i
  | 3 => s.dropStaged k false [0x41] i
  | 5 => s.dropSpill k i
  | 6 => s.dropSeg k false i
  | _ => s

/-- A watchdog restart reads the copy of the image (R610). -/
def State.restarting (s : State) : Bool := s.boot.dogMask ≠ 0 && !s.ske.serving

/-- A unit is read with errors in a number of 4-bit symbols of its 268 protected bits (R274): in one, they are corrected, counted
and queued for scrubbing; in more, as far as the code detects them, the record is dropped with event 0703h (R275). In the
application core area that is a chip-level fault, but in the image copy of a watchdog restart, which escalates (R611). -/
def execMemoryReadError (ch : Fin 8) (symbols : Nat) (area : Fin 8) (index : Nat) (s : State) : Out :=
  if symbols = 0 then .next s
  else if symbols = 1 then
    .next ((s.setMem ch (fun x => { x with corr := wrap 32 (x.corr + 1), scrub := x.scrub + 1 })).countC 0x2A ch 1)
  else
    let s := s.setMem ch (fun x => { x with uncorr := wrap 32 (x.uncorr + 1) })
    let s := (s.dropRecord ch area index).chipEvent 0x0703 [ch + 16 * area]
    .next (if area.val ≠ 1 then s else if s.restarting then s.triggerWarm 4 1 else s.enterSafe 1)

/-- A write-CRC error is retried once; a retry that fails as well is a fault of the home channel (R29, R274). -/
def execWriteCrcError (e : CrcError) (s : State) : Out :=
  let s := s.setMem e.ch (fun x => { x with crc := x.crc + 1 })
  .next (if e.retryFails then s.regionError e.ch 1 else s)

/-! ### The look-back recorder (R279 to R283) -/

/-- After CAP_LB_POST_MS the recorder becomes frozen (R280). -/
def execLbPostExpiry (s : State) : Out := .next (if s.look.st = 1 then s.freeze else s)

/-- A dump ends: event 0704h says how many segments it sent (R282). -/
def State.endDump (s : State) : State :=
  match s.look.dump with
  | some d => ({ s with look := { s.look with dump := none } }).chipEvent 0x0704 [d.sent]
  | none => s

/-- The dump sends its next segment, and ends with the last one (R282). What the ring has not kept, since its memory channel
was switched off or could not be read, is not dumped (R42, R275). -/
def execLbDumpSegment (s : State) : Out :=
  match s.look.dump with
  | none => .next s
  | some d =>
    let kept (e : Nat × Seg) : Bool := (s.reg e.1).ring.any (fun g => g.ch == e.2.ch && g.first == e.2.first)
    match d.left.filter kept with
    | [] => .next s.endDump
    | (_, g) :: rest =>
      let s := (s.enqueue d.dest (s.segWords g true)).2
      let s := { s with look := { s.look with dump := some { d with left := rest, sent := wrap 32 (d.sent + 1) } } }
      .next (if rest.isEmpty then s.endDump else s)

/-- LB_FREEZE: a freeze starts in the live state (R280, R281, R290). -/
def execLbFreeze (m : Fin 64) (s : State) : Out :=
  s.skeic 0x0707 m fun s =>
    if !s.acts 94 then .done s [1]
    else .done (s.force .freeze).trigger [w32 (b2n (s.look.st ≠ 0))]

/-- LB_RELEASE: the recorder is live again, and the whole of each ring is in use (R283). -/
def execLbRelease (m : Fin 64) (s : State) : Out :=
  s.skeic 0x0708 m fun s =>
    let s := s.endDump
    .done { s with look := { s.look with st := 0 } }.unprotect []

/-- LB_DUMP: the protected released segments of the channels and ticks named are to be sent, in order of first tick
(R282). -/
def execLbDump (m : Fin 64) (s : State) : Out :=
  s.skeic 0x0709 m fun s =>
    let first := (s.pw m 0).fld 8 0
    let n := (s.pw m 0).fld 18 9
    let dest := (s.pw m 1).fld 14 0
    let rate := (s.pw m 6).fld 12 0
    let lo := (s.pw m 2).toNat + 2 ^ 32 * (s.pw m 3).toNat
    let hi := (s.pw m 4).toNat + 2 ^ 32 * (s.pw m 5).toNat
    need ((s.pw m 0).fld 31 19 = 0 && (s.pw m 1).fld 31 15 = 0 && (s.pw m 6).fld 31 13 = 0) "reserved bits" <|
    need (n ≤ 512 && first + n ≤ 512 && 1 ≤ rate && rate ≤ 6250 && (s.bindOf dest).port ≠ 0) "dump range, rate or queue" <|
    if s.look.st ≠ 2 then .done s [1]
    else
      let of_ (r : Nat) : List (Nat × Seg) := ((s.reg r).ring.filter (fun g => g.prot && g.fate == 2 && first ≤ g.ch &&
        g.ch < first + n && lo ≤ g.first && g.first ≤ hi)).map (fun g => (r, g))
      let left := ((List.range 8).flatMap of_).mergeSort (fun a b => a.2.first ≤ b.2.first)
      let s := s.endDump
      .done { s with look := { s.look with dump := some { left := left, dest := dest, rate := rate } } } [0]

/-! ### The ladder (R284 to R287) -/

/-- The three fills of R284 as fractions: collector, fullest write queue, backlog. The write queues hold what the model makes
wait in them, and the bytes that the command names, which wait for the memory's bandwidth (R277; log 61). -/
def State.fills (s : State) (writeFill : Nat) : Rat × Rat × Rat :=
  let writeFill := writeFill + ((s.regions.map (fun e => e.2.queued)).max?).getD 0
  let occ := (s.regions.map (fun e => (e.2.eng.filter (·.col)).length)).sum
  let wait := (s.eth.q.map (fun e => let c := (s.bindOf e.1).cls; if c = 3 || c = 4 then e.2.held else 0)).sum
  ((occ : Rat) / 8192, (writeFill : Rat) / 262144, (wait : Rat) / (64 * 2 ^ 20 : Nat))

/-- The step after a sample at or above the high limit, or below the low one (R285). -/
def Ladder.sample (l : Ladder) (max_ tick : Nat) (hi lo : Bool) : Ladder :=
  let hr := if hi then l.hiRun + 1 else 0
  let lr := if lo then l.loRun + 1 else 0
  let l := { l with hiSeen := l.hiSeen || hi, loAll := l.loAll && lo }
  let stepTo (k : Nat) : Ladder := { l with step := k, hiRun := 0, loRun := 0, hist := (tick, k) :: l.hist.take 15 }
  if 10 ≤ hr && l.step < max_ then
    if l.step = 2 then { stepTo 3 with sL := 224, entered := true } else stepTo (l.step + 1)
  else if 1000 ≤ lr && (l.step = 1 || l.step = 2) then stepTo (l.step - 1)
  else { l with hiRun := hr, loRun := lr }

/-- Every 10 µs the ladder samples the pressure (R284, R285). -/
def execLadderSample (writeFill : Nat) (s : State) : Out :=
  let s := s.force .ladder
  let (a, b, c) := s.fills writeFill
  let p := 100 * max a (max b c)
  let pct (x : Rat) : Nat := min 255 (roundOpen 0x0284 (100 * x)).toNat
  let hi : Bool := decide ((s.val CAP_LADDER_HI_PCT : Nat) ≤ p)
  let lo : Bool := decide (p < (s.val CAP_LADDER_LO_PCT : Nat))
  let old := s.lad.step
  let l := { s.lad.sample (s.val CAP_LADDER_MAX_STEP) s.tb.tick hi lo with fills := (pct a, pct b, pct c) }
  let s := ({ s with lad := l }).ladderEvent old
  .next (if l.step = 3 && old ≠ 3 then s.freezeEvent 3 else s)

/-! ### 07xxh commands -/

/-- The span held by a ring in ms; its rounding is open (log 10). -/
def ringDepth (ring : List Seg) : Nat :=
  match ring.head?, ring.getLast? with
  | some a, some b => (roundOpen 0x0701 (((b.first + b.smp.length - a.first : Nat) : Rat) / 1600000)).toNat
  | _, _ => 0

/-- CAP_STATUS_GET. -/
def execCapStatusGet (m : Fin 64) (s : State) : Out :=
  s.skeic 0x0701 m fun s =>
    let depth := ((List.range 8).map (fun r => ringDepth (s.reg r).ring)).min?.getD 0
    let (a, b, c) := s.lad.fills
    .done s [pack [(s.lad.step, 2), (s.lad.sL, 9), (s.look.st, 2), (b2n s.look.dump.isSome, 1)],
      pack [(a, 8), (b, 8), (c, 8)], w32 (sat 32 depth), w32 s.look.missed, w32 s.look.ovr]

/-- CAP_PARAM_WRITE (R288). -/
def execCapParamWrite (m : Fin 64) (s : State) : Out :=
  s.skeic 0x0702 m fun s =>
    let lo := if (s.pw m 0).fld 7 0 = 2 then (s.pw m 1).toNat else s.work CAP_LADDER_LO_PCT 0
    let hi := if (s.pw m 0).fld 7 0 = 1 then (s.pw m 1).toNat else s.work CAP_LADDER_HI_PCT 0
    need (lo < hi) "CAP_LADDER_LO_PCT not below CAP_LADDER_HI_PCT" <|
    s.parWrite 7 m (fun t _ => t)

/-- CAP_PARAM_READ. -/
def execCapParamRead (m : Fin 64) (s : State) : Out := s.skeic 0x0703 m fun s => s.parRead 7 m

/-- A capture profile's words are in their ranges (R253). -/
def profileOk (a b c : Word) : Bool :=
  let l := a.fld 8 0
  let out := c.fld 11 10
  a.fld 31 21 == 0 && b.fld 31 13 == 0 && c.fld 31 17 == 0 && [0, 16, 32, 64, 128, 256].contains l &&
    2 * a.fld 16 9 ≤ l && a.fld 18 17 ≠ 3 && b.fld 12 0 ≤ 6399 && 1 ≤ c.fld 6 0 && c.fld 6 0 ≤ 64 &&
    [1, 2, 4].contains (c.fld 9 7) && out ≠ 3 && [0, 2, 4, 8, 16].contains (c.fld 16 12) && (out = 0 || c.fld 9 7 = 1)

/-- CAP_PROFILE_SET: a profile for the shots of the next frame (R253). -/
def execCapProfileSet (m : Fin 64) (s : State) : Out :=
  s.skeic 0x0704 m fun s =>
    let p := (s.pw m 0).fld 1 0
    need ((s.pw m 0).fld 31 2 = 0 && profileOk (s.pw m 1) (s.pw m 2) (s.pw m 3)) "profile" <|
    .commit { s with
      profNow := tput s.profNow p (s.profileNow p)
      p := { s.p with profs := tset (defaultProfile p) s.p.profs p [s.pw m 1, s.pw m 2, s.pw m 3] } } (recordBytes 3) []

/-- CAP_PROFILE_GET (R289). -/
def execCapProfileGet (m : Fin 64) (s : State) : Out :=
  s.skeic 0x0705 m fun s =>
    need ((s.pw m 0).fld 31 2 = 0) "reserved bits" <|
    .done s (s.profile ((s.pw m 0).fld 1 0))

/-- MEM_STATUS_GET. -/
def execMemStatusGet (m : Fin 64) (s : State) : Out :=
  s.skeic 0x0706 m fun s =>
    need ((s.pw m 0).fld 31 3 = 0) "reserved bits" <|
    let x := s.memCh ((s.pw m 0).fld 2 0)
    let k := s.memCfg
    .done s [pack [(x.st, 2), (k.fld 18 14, 5), (k.fld 20 19, 2), (k.fld 13 0, 14)], w32 x.corr, w32 x.uncorr,
      pack [(x.mult, 3), (x.retrains, 16)]]

end Sys2Proof.Machine
end

