-- ==== Sys2Proof/Machine/Chain.lean ====
section
/-! DEFINITION. Chains of devices: enumeration, alignment, trigger bus, chain links, state reports, forwarding and the 0Cxxh
commands (chapter 13). -/
namespace Sys2Proof.Machine

/-! ### Enumeration (R493 to R496) -/

/-- An event at chain level. -/
def State.chainEvent (s : State) (code : Nat) (det : List Nat) : State := s.event 4 0 code det

/-- An enumeration fault (R495): the device takes, or keeps, no address and drives SYNC_OUT no more; event 0C06h with the
pulse count seen. -/
def State.enumFault (s : State) (n : Nat) : State :=
  if s.enum.fault then s
  else
    ({ s with
      enum := { s.enum with fault := true, faultCount := n, addr := none, cond := false }
      ch := { s.ch with words := [], syncOut := [] } }).chainEvent 0x0C06 [n]

/-- 20 ms of idle ENUM_IN after PWR_GOOD (R493, R495): with no pulse and no clock seen the device is the conductor; a high
ENUM_IN with a clock at CHAIN_REF_IN is an enumeration fault. -/
def execEnumerationTimeout (s : State) : Out :=
  if !s.pwr.good || s.enum.addr.isSome || s.enum.fault || s.enum.pulse then .next s
  else if s.enum.clock then .next (s.enumFault 0)
  else .next { s with enum := { s.enum with addr := some 0, cond := true } }

/-- A burst on ENUM_OUT of a device with an address from 0 to 6 (R494). -/
def execEnumOutBurst (s : State) : Out :=
  match s.enum.addr with
  | some a => .next (if a ≤ 6 then { s with enum := { s.enum with bursts := s.enum.bursts + 1, pulses := a + 1 } } else s)
  | none => .next s

/-- ENUM_OUT between bursts: high with an address from 0 to 6, else held low (R494, R495). -/
def State.enumOut (s : State) : Bool := s.enum.addr.any (· ≤ 6)

/-- The always-on regulator feeds the repeaters: in every device state but OFF (R497). -/
def State.repeats (s : State) : Bool := s.pwr.alive && s.pwr.dev ≠ .off

/-- CHAIN_REF_OUT carries a clock: the conductor's from the Clove, a follower's as a copy of CHAIN_REF_IN (R497); a device
with an enumeration fault drives none (R495). -/
def State.chainRefOut (s : State) : Bool := s.repeats && (s.enum.cond || (s.follower && s.enum.clock))

/-- The device becomes the follower of address n (R495): its timing PLL goes to CHAIN_REF_IN and has to lock there (R498), its
domain 88 is switched off (R490), and its warm flag is the conductor's (R499). -/
def State.becomeFollower (s : State) (n : Nat) : State :=
  let t := { s with enum := { s.enum with addr := some n, cond := false }
                    tb := { s.tb with locked := false, step := none } }
  (t.domainDown 88).warmSeen s.warm

/-- A burst of n pulses on ENUM_IN (R495, R496). -/
def execEnumInBurst (n : Nat) (s : State) : Out :=
  let s := { s with enum := { s.enum with pulse := true } }
  if s.enum.fault then .next s
  else if s.enum.cond then .next (if s.boot.stage ≠ 4 then s.enumFault n else s)
  else if s.enum.addr.isSome then .next s
  else if n = 0 || 8 ≤ n then .next (s.enumFault n)
  else if s.enum.last = some n then .next (s.becomeFollower n)
  else .next { s with enum := { s.enum with last := some n } }

/-- A clock appears at CHAIN_REF_IN (R493, R495, R498). -/
def execChainRefInClock (s : State) : Out :=
  let s := { s with enum := { s.enum with clock := true } }
  .next (if s.enum.cond && s.boot.stage ≠ 4 then s.enumFault (s.enum.last.getD 0) else s)

/-! ### Trigger bus (R502 to R507) -/

/-- Ticks of a trigger word on the bus: 112 bits (R502). -/
def wordTicks : Nat := 112

/-- Bits hi to lo of a trigger word's payload. -/
def pbits (p : BitVec 96) (hi lo : Nat) : Nat := (p.toNat >>> lo) % 2 ^ (hi + 1 - lo)

/-- The CRC-8 of a trigger word, over the payload's bytes from the most significant (R335, R502). -/
def triggerCrc (p : BitVec 96) : BitVec 8 := crc8 (bytesLE p.toNat 12).reverse

/-- The 112 bits of a trigger word, the first sent as the most significant: the sync byte, the payload and a CRC (R502). -/
def triggerBits (payload : BitVec 96) (crc : BitVec 8) : Nat := packNat [(crc.toNat, 8), (payload.toNat, 96), (0xD5, 8)]

/-- The word that a device makes of a payload (R502). -/
def busWord (payload : Nat) : Nat := triggerBits (BitVec.ofNat 96 payload) (triggerCrc (BitVec.ofNat 96 payload))

/-- Payload of a measure word: type 4, without fields (R502, R508). -/
def measureWord : Nat := packNat [(0, 92), (4, 4)]

/-- Payload of an align word: type 5 with the tick count at the rising edge of the word's first bit (R502). -/
def alignWord (tick : Nat) : Nat := packNat [(tick, 64), (0, 28), (5, 4)]

/-- Words on SYNC_OUT, the bus being taken for as long as they last from now, or from when it is free (R502, R503). -/
def State.sync (s : State) (ws : List (Nat × Nat)) : State :=
  let n := ws.foldl (fun a w => a + w.2 * wordTicks) 0
  { s with ch := { s.ch with syncOut := ws, busFree := max s.tb.tick s.ch.busFree + n } }

/-- The conductor sends the queued trigger word whose nominal start comes first, once the bus is free (R503). -/
def execTriggerWordSend (s : State) : Out :=
  match s.ch.words with
  | [] => .next s
  | w :: r =>
    let first := r.foldl (fun (a b : Nat × Nat × Nat) => if b.2.2 < a.2.2 then b else a) w
    if !s.enum.cond || s.tb.tick < first.2.2 || s.tb.tick < s.ch.busFree then .next s
    else .next ({ s with ch := { s.ch with words := s.ch.words.erase first } }.sync [(busWord first.2.1, 1)])

/-- The tick from now on whose low 32 bits are given. -/
def State.tickOf (s : State) (low : Nat) : Nat := s.tb.tick + (low + 2 ^ 32 - s.tb.tick % 2 ^ 32) % 2 ^ 32

/-- A trigger word that fails its check (R506): counted; at most one event per ms. -/
def State.wordError (s : State) : State :=
  let s := { s with ch := { s.ch with crcErrs := wrap 32 (s.ch.crcErrs + 1), crcNew := s.ch.crcNew + 1 } }
  let soon := match s.ch.crcAt with
    | some t => decide (s.tb.tick < t + msTicks)
    | none => false
  if soon then s
  else
    let s := s.chainEvent 0x0C04 [s.ch.crcNew]
    { s with ch := { s.ch with crcNew := 0, crcAt := some s.tb.tick } }

/-- The frame of a shot word: of those in progress or latched the last one that starts by the shot's tick. -/
def State.wordFrame (s : State) (p : BitVec 96) : Option Frame :=
  s.seq.frames.reverse.find? (fun f => !f.ovr && decide (f.start ≤ s.tickOf (pbits p 31 0)))

/-- A shot word (R505): the entry of the same index in the bank of its frame, with index, code, edge placement, dark cause
and fire tick of the word. -/
def State.shotWordIn (s : State) (p : BitVec 96) : State :=
  if s.seq.run = 0 then s
  else
    let fire := s.tickOf (pbits p 31 0)
    let i := pbits p 91 74
    match s.wordFrame p with
    | none => s
    | some f =>
      let k := s.bank f.bank
      if k.entries ≤ i then s
      else
        let e := k.shot i f.seq f.start f.s f.run
        let x : Shot := { e with
          fire := fire, edge := pbits p 65 62, code := pbits p 73 66, offs := k.offs (pbits p 73 66)
          dark := pbits p 61 59, string := 0, emit := true, pat := 0, mask := 0, width := 8, diag := false
          mirror := none, tag := 0, readAt := s.tb.tick }
        let s := s.setFrame f.seq (fun f => { f with words := f.words + 1, top := max f.top (i + 1) })
        { s with seq := { s.seq with shots := s.seq.shots ++ [x] } }

/-- The image from which a frame-start word, or a shot word of the frame it names, takes what it needs holds no host error of
chapter 06 that bears there (R474, R475). -/
def State.wordImageOk (s : State) (p : BitVec 96) : Bool :=
  match pbits p 95 92 with
  | 1 => (s.wordFrame p).all (fun f => decide ((s.bank f.bank).entries ≤ pbits p 91 74) ||
      (s.bank f.bank).entryOk (pbits p 91 74))
  | 2 =>
    let b := pbits p 91 91
    !(s.bank b).image || !(b == s.kept.active || s.kept.armed) || (s.bank b).headerOk
  | _ => true

/-- An align word (R501, R509): the sender's tick count at its first edge, which fell a phase after an own tick edge. With
the hop delay held, the device sets its count and the steps that its root delay line makes. -/
def State.alignIn (s : State) (count : Nat) (phase : Rat) : State :=
  match s.kept.hopUp with
  | none => s
  | some h =>
    if s.ch.aligned then s
    else
      let d : Rat := (h : Rat) / 65536
      let x := d - d.floor - phase
      let r := roundNear 0x2501 x
      let steps := roundNear 0x2502 (((r : Rat) - x) * 625)
      { s with
        tb := { s.tb with tick := ((count : Int) + d.floor + r).toNat }
        ch := { s.ch with alignLeft := steps, aligned := decide (steps = 0) } }

/-- A trigger word arrives at a follower (R504 to R507, R509, R522): repeated bit for bit, which lasts 20 tk from here at most,
checked and applied; phase is the place of
its first edge after an own tick edge, in ticks. A device without an address forwards nothing; in SLEEP and while a reset is
asserted the repeater alone works (R497). -/
def execTriggerWordReceive (payload : BitVec 96) (crc : BitVec 8) (phase : Rat) (s : State) : Out :=
  if !s.follower || s.enum.fault || !s.repeats then .next s
  else
    let s := { s with ch := { s.ch with
      syncOut := [(triggerBits payload crc, 1)], busFree := max s.ch.busFree (s.tb.tick + 20) } }
    if s.pwr.dev = .sleep || s.boot.phase = 2 then .next s
    else if triggerCrc payload ≠ crc then .next s.wordError
    else if s.works 90 && !s.wordImageOk payload then .fault (.hostError "bank image")
    else match pbits payload 95 92 with
      | 1 => .next (s.shotWordIn payload)
      | 2 =>
        let s := { s with ch := { s.ch with noFrame := false, frameAt := some s.tb.tick } }
        .next (if !s.works 90 then s
          else s.latchNamed (pbits payload 63 32) (s.tickOf (pbits payload 31 0)) (pbits payload 91 91) (pbits payload 90 82))
      | 3 => .next (if s.inFrame && s.kept.frame = pbits payload 63 32 then
          (s.setFrame s.kept.frame (fun f => { f with told := pbits payload 17 0 })).truncate else s)
      | 5 => .next (s.alignIn (pbits payload 63 0) phase)
      | _ => .next s

/-- The root delay line steps 1 ps toward alignment (R501). -/
def execAlignmentStep (s : State) : Out :=
  let n := s.ch.alignLeft
  if n = 0 then .next s
  else
    let d : Int := if 0 < n then 1 else -1
    .next { s with ch := { s.ch with root := s.ch.root + d, alignLeft := n - d, aligned := decide (n - d = 0) } }

/-- No valid frame-start word has come within the active bank's frame period plus 4,096 tk of the one before while the
sequencer runs: no windows until the next one (R507). A follower between frames has its sequencer stop; that the conductor
has stopped its own at a boundary no word tells it (log 87). -/
def execFrameStartMissing (s : State) : Out :=
  match s.frameLimit with
  | none => .next s
  | some t =>
    if !s.follower || s.seq.run = 0 || s.tb.tick ≤ t then .next s
    else
      let s := ({ s with ch := { s.ch with noFrame := true, frameAt := none } }).chainEvent 0x0C05 []
      .next (if s.inFrame || !s.seq.latch.isEmpty then s else s.stopped)

/-! ### Members and alignment (R508, R509, R515, R525) -/

/-- The highest chain address known, this device's own with no other. -/
def State.lastAddr (s : State) : Nat := s.ch.mems.foldl (fun a e => max a e.1) s.addr

/-- Every follower is reachable (R527: the chain is complete enough to measure). -/
def State.allReach (s : State) : Bool :=
  s.enum.addr.isSome && (span 1 s.lastAddr).all (fun a => (tget {} s.ch.mems a).reach)

/-- The chain is complete: every member reachable and aligned. -/
def State.chainComplete (s : State) : Bool :=
  if s.follower then s.ch.condComplete
  else s.allReach && (span 1 s.lastAddr).all (fun a => (tget {} s.ch.mems a).aligned)

/-- The hop delay to an address that this device holds: the conductor's from its measurements, a follower's of the hops on
its two sides; 0 where the address is not present (R508, R527). -/
def State.hopTo (s : State) (a : Nat) : Nat :=
  if s.follower then
    if a = s.addr then s.kept.hopUp.getD 0 else if a = s.addr + 1 then s.kept.hopDown.getD 0 else 0
  else if a ≤ s.lastAddr then tget 0 s.kept.hops a else 0

/-- The response of CH_SYNC_MEASURE with a result (R527). -/
def State.measureDone (s : State) (result : Nat) : List Word := w32 result :: (span 1 7).map (fun a => w32 (s.hopTo a))

/-- The measure words of the hop from device a to a + 1 are complete (R508): mean round trip and placement error r in
ticks. Device a has sent 256 measure words, and sends the align word; device a + 1 reports r upstream, in words that are not
stated (log 33). The hop delay, in 1/256 fine-time unit, is kept at both ends; the conductor goes on to the next hop, and
answers after the last. -/
def execSyncMeasureHop (a : Fin 7) (roundTrip r : Rat) (s : State) : Out :=
  let h := (roundNear 0x0508 ((roundTrip - 512 - r) / 2 * 65536)).toNat
  let k := s.addr
  let s := if s.enum.addr.isSome && k = a.val then
      { s with kept := { s.kept with hopDown := some h } }.sync
        [(busWord measureWord, 256), (busWord (alignWord (max s.tb.tick s.ch.busFree + 256 * wordTicks)), 1)]
    else if s.follower && k = a.val + 1 then
      { s with kept := { s.kept with hopUp := some h }, ch := { s.ch with aligned := false, alignLeft := 0 } }.toLink false 1
        [w32 k, w32 (unsgn 32 (roundNear 0x0509 (r * 65536)))]
    else s
  match s.ch.measuring with
  | none => .next s
  | some (m, cur) =>
    if cur ≠ a.val then .next s
    else
      let s := { s with kept := { s.kept with hops := tset 0 s.kept.hops (a.val + 1) h } }
      if a.val + 1 < s.lastAddr then .next { s with ch := { s.ch with measuring := some (m, a.val + 1) } }
      else .next (({ s with ch := { s.ch with measuring := none } }).respond m 0 (s.measureDone 0))

/-! ### Chain links (R510 to R514, R519) -/

/-- A chain link changed. -/
def State.setLink (s : State) (down : Bool) (f : Link → Link) : State :=
  { s with ch := if down then { s.ch with down := f s.ch.down } else { s.ch with up := f s.ch.up } }

/-- Datagrams that waited for the upstream link leave once it is UP, those of priority 1 ahead of the others (R514, R519). -/
def State.flushUp (s : State) : State :=
  let ds := s.ch.up.dgrams.filter (fun (d : Dgram) => d.linkPrio = 1) ++
    s.ch.up.dgrams.filter (fun (d : Dgram) => d.linkPrio ≠ 1)
  let s := s.setLink false (fun l => { l with dgrams := [] })
  ds.foldl (fun (s : State) (d : Dgram) => (s.linkSend false d.linkPrio d.payload).release d) s

/-- A lane marker (R510 to R512): lane number and address that it carries, skew in blocks, inverted polarity, and block
errors since the one before. With two matched markers on every lane within 64 blocks of skew the link is UP; what waited for it
leaves, upstream the datagrams (R519), downstream the mapper (R500). -/
def execLaneMarker (down : Bool) (lane : Fin 4) (laneNo addr skew errs : Nat) (inverted : Bool) (s : State) : Out :=
  if !s.dom (if down then 83 else 82) then .next s
  else
    let ok := laneNo = lane.val && skew ≤ 64
    let bit := 2 ^ lane.val
    let s := s.setLink down (fun l => { l with
      partner := addr % 8
      pol := (l.pol - (if l.pol >>> lane.val % 2 = 1 then bit else 0)) + (if inverted then bit else 0)
      skew := tset 0 l.skew lane (skew % 256)
      errs := tmod 0 l.errs lane (fun n => wrap 32 (n + errs))
      marks := tset 0 l.marks lane (if ok then min 2 (tget 0 l.marks lane + 1) else 0) })
    let l := s.link down
    if l.st = 2 then
      .next (if ok then s else s.setLink down (fun l => { l with st := 1, trains := wrap 32 (l.trains + 1), marks := [] }))
    else if (List.range 4).all (fun i => 2 ≤ tget 0 l.marks i) then
      let s := s.setLink down (fun l => { l with st := 2 })
      .next (if down then s.sendMaps else s.flushUp)
    else .next s

/-- An UP link loses clock recovery on a lane, or two consecutive markers: TRAINING (R512). -/
def execLinkLoss (down : Bool) (s : State) : Out :=
  .next (if (s.link down).st = 2 then
      s.setLink down (fun l => { l with st := 1, trains := wrap 32 (l.trains + 1), marks := [] })
    else s)

/-- A link has not reached UP in time: DOWN, event 0C03h; what waits for it has no way out (R512, R519). -/
def execLinkDownTimeout (down : Bool) (s : State) : Out :=
  if (s.link down).st ≠ 1 then .next s
  else
    let s := s.setLink down (fun l => { l with st := 0 })
    let s := if down then s else s.dropWaiting
    .next (s.chainEvent 0x0C03 [b2n down])

/-- Words of a state report; its form on the link is not stated (log 33). -/
def reportWords (r : ChainReport) : List Word :=
  [pack [(r.from_, 3), (b2n r.armed, 1), (b2n r.aligned, 1), (r.dev, 3), (r.sT, 9), (r.sL, 9), (b2n r.warm, 1), (r.spin, 2),
    (b2n r.lock, 1), (b2n r.complete, 1)], r.image]

/-- This device's own state report (R515). -/
def State.ownReport (s : State) : ChainReport :=
  { from_ := s.addr, armed := s.kept.armed, image := (s.bank (1 - s.kept.active)).ident, sT := s.therm.sT.toNat, sL := s.lad.sL
    aligned := s.ch.aligned, dev := s.pwr.dev.code, warm := s.pwr.warm, spin := s.mc.spin, lock := s.mc.lock
    complete := s.chainComplete }

/-- Every 100 µs: a follower's report goes upstream, the conductor's downstream (R515). -/
def execStateReportSend (s : State) : Out :=
  .next (if s.enum.addr.isNone then s else s.toLink s.enum.cond 1 (reportWords s.ownReport))

/-- The nominal starts of the words to come, as a device knows them: the conductor's queue; in a follower those of the next
frame start and of the entries of its own bank in the frames that it has (R503, R509; DEDUCED, log 87). -/
def State.wordsDue (s : State) : List Nat :=
  if !s.follower then s.ch.words.map (fun (w : Nat × Nat × Nat) => w.2.2)
  else
    let shots (f : Frame) : List Nat := (List.range ((s.bank f.bank).entries - f.top)).map (fun i =>
      f.start + ((s.bank f.bank).entry (f.top + i) 0).toNat - 3840)
    let starts := if s.seq.run = 0 then [] else
      [s.seq.bound - 3952, s.seq.bound + (s.bank s.kept.active).period - 3952]
    starts ++ (s.seq.frames.filter (fun f => !f.ovr)).flatMap shots

/-- An align word for the downstream neighbour, sent where its hop delay is held, the bus is free and the word ends before the
next one of the bus is due (R503, R509). -/
def State.realign (s : State) : State :=
  if s.kept.hopDown.isNone || s.ch.measuring.isSome || !s.tb.locked || s.tb.tick < s.ch.busFree ||
      s.ch.words.any (fun w => decide (w.2.2 < s.tb.tick + wordTicks)) ||
      s.wordsDue.any (fun n => decide (s.tb.tick ≤ n) && decide (n < s.tb.tick + wordTicks)) then s
  else s.sync [(busWord (alignWord s.tb.tick), 1)]

/-- A member's report (R515, R525); an unaligned neighbour downstream gets an align word (R509): a lost member rejoins with a report that shows it aligned. -/
def State.memberReport (s : State) (r : ChainReport) : State :=
  let x := tget {} s.ch.mems r.from_
  let back := x.lost && r.aligned
  let x : Member := { x with
    reach := !x.lost || r.aligned, lost := x.lost && !r.aligned, aligned := r.aligned, armed := r.armed, image := r.image
    sT := r.sT, sL := r.sL, dev := r.dev, at_ := s.tb.tick }
  let s := if r.from_ = s.addr + 1 && !r.aligned then s.realign else s
  let s := { s with ch := { s.ch with mems := tset {} s.ch.mems r.from_ x } }
  if back && s.enum.cond then s.chainEvent 0x0C02 [r.from_] else s

/-- A state report arrives over the downstream (true) or the upstream link, and is passed on (R515). -/
def execStateReportReceive (down : Bool) (rep : ChainReport) (s : State) : Out :=
  if s.enum.addr.isNone then .next s
  else
    let s := if down then s.memberReport rep
      else ({ s with ch := { s.ch with
        condWarm := rep.warm, condSpin := rep.spin, condLock := rep.lock, condComplete := rep.complete } }).warmSeen s.warm
    .next (if s.passesOn && !(down && s.enum.cond) then s.toLink (!down) 1 (reportWords rep) else s)

/-- No report from follower f for CH_MEMBER_TIMEOUT_US: the conductor declares it lost (R525). -/
def execMemberTimeout (f : Fin 8) (s : State) : Out :=
  let x := tget {} s.ch.mems f
  if !s.enum.cond || !x.reach || s.tb.tick < x.at_ + usTicks (s.val CH_MEMBER_TIMEOUT_US) then .next s
  else
    let s := { s with ch := { s.ch with mems := tset {} s.ch.mems f { x with reach := false, lost := true } } }
    .next (s.chainEvent 0x0C01 [f, if s.ch.down.st = 0 then 2 else 1])

/-! ### Forwarding (R517, R518, R520) -/

/-- A follower's datagram as the conductor handles it: port code of its queue, destination of the same number (R517). -/
def fwdDgram (d : FwdDgram) : Dgram :=
  { queue := d.queue, chain := d.chain
    bind := { cls := d.cls, port := d.port, dest := d.dest, pcp := d.pcp, dscp := d.dscp }
    seq := d.seq, recs := d.recs, lost := d.lost }

/-- A forwarded datagram arrives over the downstream link: the conductor sends it on its ports, another device passes it on
(R515, R517, R518). -/
def execForwardedDatagram (d : FwdDgram) (s : State) : Out :=
  if s.enum.cond then .next (s.route (fwdDgram d))
  else if s.follower && s.passesOn then .next (s.toLink false (fwdDgram d).linkPrio (fwdDgram d).payload)
  else .next s

/-- Words of a forwarded vehicle message: the marked port and the message (R520). -/
def vehicleWords (p : Port) (w0 w1 w2 w3 : Word) : List Word := [w32 p.n, w0, w1, w2, w3]

/-- A vehicle safety message that arrives on a port reaches this device's island (R406, R407), and is forwarded to every
other device (R520). -/
def State.vehicleMsg (s : State) (p : Port) (w0 w1 w2 w3 : Word) : State :=
  let ws := vehicleWords p w0 w1 w2 w3
  let s := if s.enum.addr.isSome then (s.toLink false 1 ws).toLink true 1 ws else s
  s.vehicleCopy p w0 w1 w2 w3

/-- SAF_VEHICLE_MSG arrives on a port. -/
def execSafVehicleMsg (p : Port) (w0 w1 w2 w3 : Word) (s : State) : Out := .next (s.vehicleMsg p w0 w1 w2 w3)

/-- A Skeic datagram arrives (R453); in SLEEP and OFF only the wake logic reads the ports (R69), and during a reset nothing
does. Opcode 0A20h goes to the island and takes no further step (R406, R461). No message is
placed before boot stage 4 (R480). -/
def execSkeicMessageArrival (d : Arrival) (s : State) : Out :=
  let ws := bytesWords d.bytes
  if s.pwr.dev = .sleep || s.pwr.dev = .off || s.boot.phase = 2 then .next s
  else if leNat (d.bytes.take 2) = 0x0A20 then .next (s.vehicleMsg d.port (wd ws 4) (wd ws 5) (wd ws 6) (wd ws 7))
  else if s.boot.stage ≠ 4 then .next s
  else if d.bytes.length < 16 || d.bytes.length > 4096 || d.bytes.length ≠ wantedBytes ws false then
    .next (s.skeDiscard 0)
  else s.placeMessage ws none d

/-- A forwarded copy is treated as arriving on the marked port, and passed on (R520). -/
def execForwardedVehicleMsg (down : Bool) (p : Port) (w0 w1 w2 w3 : Word) (s : State) : Out :=
  if s.enum.addr.isNone then .next s
  else
    let s := if s.passesOn then s.toLink (!down) 1 (vehicleWords p w0 w1 w2 w3) else s
    .next (s.vehicleCopy p w0 w1 w2 w3)

/-! ### 0Cxxh commands -/

/-- A mask of chain addresses that a test names among the members, and this device's own bit. -/
def State.memberMask (s : State) (own : Bool) (t : Member → Bool) : Nat :=
  ((s.ch.mems.filter (fun e => e.1 < 8 && e.1 ≠ s.addr && e.2.reach && t e.2)).map (fun e => 2 ^ e.1)).sum +
    (if own && s.enum.addr.isSome then 2 ^ s.addr else 0)

/-- CH_STATUS_GET. -/
def execChStatusGet (m : Fin 64) (s : State) : Out :=
  s.skeic 0x0C01 m fun s =>
    .done s [pack [(s.addr, 3), (b2n s.enum.cond, 1), (b2n s.enum.fault, 1), (b2n s.chainComplete, 1),
        (b2n (decide (s.ch.alignLeft ≠ 0)), 1), (s.ch.up.st, 2), (s.ch.down.st, 2), (b2n s.forwarding, 1)],
      pack [(s.memberMask true (fun _ => true), 8), (s.memberMask (s.enum.cond || s.ch.aligned) (·.aligned), 8),
        (s.memberMask s.kept.armed (·.armed), 8)],
      w32 (if s.enum.cond then 0 else s.kept.hopUp.getD 0), w32 s.ch.crcErrs]

/-- CH_PARAM_WRITE (R526). -/
def execChParamWrite (m : Fin 64) (s : State) : Out := s.skeic 0x0C02 m fun s => s.parWrite 12 m (fun t _ => t)

/-- Place of a board-table field of a chain link in its equalisation word (R513, R603): high and low bit of indices 8 to
12. -/
def eqBits (i : Nat) : Nat × Nat := [(3, 0), (7, 4), (12, 8), (16, 13), (22, 17)].getD (i - 8) (0, 0)

/-- CH_PARAM_READ: a chain parameter, or a board-table field of one link (R513, R526). -/
def execChParamRead (m : Fin 64) (s : State) : Out :=
  s.skeic 0x0C03 m fun s =>
    let w := s.pw m 0
    let i := w.fld 7 0
    if 8 ≤ i && i ≤ 12 then
      need (w.fld 31 9 = 0) "reserved bits" <|
      .done s [w, w32 ((w32 (s.linkEq (w.bit 8))).fld (eqBits i).1 (eqBits i).2)]
    else s.parRead 12 m

/-- CH_SYNC_MEASURE (R508, R527). It starts once no other word is on the bus or queued (DESIGN CHOICE, log 87). -/
def execChSyncMeasure (m : Fin 64) (s : State) : Out :=
  s.skeic 0x0C04 m fun s =>
    let no (k : Nat) : Res := .done s (s.measureDone k)
    if s.follower then no 2
    else if s.seq.run ≠ 0 then no 1
    else if !s.allReach then no 2
    else if s.lastAddr = 0 then .done s (s.measureDone 0)
    else if s.ch.measuring.isSome || !s.ch.words.isEmpty || s.tb.tick < s.ch.busFree then .wait
    else .run { s with ch := { s.ch with measuring := some (m, 0) } }

/-- CH_LINK_GET. -/
def execChLinkGet (m : Fin 64) (s : State) : Out :=
  s.skeic 0x0C05 m fun s =>
    let w := s.pw m 0
    need (w.fld 31 1 = 0) "reserved bits" <|
    let l := s.link (w.bit 0)
    .done s ([pack [(l.st, 2), (l.partner, 3), (l.pol, 4)], pack ((List.range 4).map (fun i => (tget 0 l.skew i, 8)))] ++
      (List.range 4).map (fun i => w32 (tget 0 l.errs i)) ++ [w32 l.trains])

end Sys2Proof.Machine
end

