-- ==== Sys2Proof/Machine/Motion.lean ====
section
/-! DEFINITION. The motion control engine: its loops, interfaces and the 09xxh commands (chapter 09). -/
namespace Sys2Proof.Machine

/-! ### The mirror loop (R337 to R343) -/

/-- One mirror loop period of 10 µs. -/
def mirrorT : Rat := 1 / 100000

/-- Full scale in units of the mirror's positions. -/
def fullScale : Rat := 32768

/-- The sensor sample of a loop instant, calibrated; one taken during a reset of the amplifier is extrapolated (R338). -/
def State.mirrorSample (s : State) : State :=
  let (code, inReset, _) := s.hk.ca
  let y : Rat := if inReset then 2 * s.mc.y - s.mc.yPrev
    else (code - s.valI MC_MIR_SENS_OFFSET 0 : Int) * (s.valI MC_MIR_SENS_GAIN 0 : Int) / 65536
  { s with mc := { s.mc with y := y, yPrev := s.mc.y } }

/-- The target at a loop instant (R342): the set-point of the latest fire tick that has come; MC_MIR_PARK while the axis is
to park or stops (R358, R360). -/
def State.mirrorTarget (s : State) : State :=
  let due := s.mc.marks.filter (fun e => decide (e.1 ≤ s.tb.tick))
  let sp := (due.filterMap (·.2)).getLast?
  let target := if s.mc.parking || s.mc.safeStop.isSome then s.valI MC_MIR_PARK 0 else sp.getD s.mc.target
  { s with mc := { s.mc with target := target, marks := s.mc.marks.filter (fun e => decide (s.tb.tick < e.1)) } }

/-- The generator of the mirror steps toward the target (R340). -/
def State.mirrorMove (s : State) : State :=
  let g : Gen := { r := s.mc.r / fullScale, v := s.mc.mv, a := s.mc.ma }
  let V : Rat := (s.val MC_MIR_VMAX : Nat) / 100
  let A : Rat := (10 * s.val MC_MIR_AMAX : Nat)
  let J : Rat := (1000 * s.val MC_MIR_JMAX : Nat)
  let g := g.move ((s.mc.target : Rat) / fullScale) V A J mirrorT
  { s with mc := { s.mc with r := g.r * fullScale, mv := g.v, ma := g.a } }

/-- The output of the mirror loop (R343): gains are per mFS and ms. -/
def State.mirrorOutput (s : State) : State :=
  let h := s.mc.oscM.halved
  let mfs (x : Rat) : Rat := x * 1000 / fullScale
  let T : Rat := mirrorT * 1000
  let e := s.mc.r + s.injected 1 0 mirrorT - s.mc.y
  let i := if s.mc.clamped && signR e == signR s.mc.u then s.mc.mi else s.mc.mi + s.gain MC_MIR_KI h * mfs e * T
  let u := s.gain MC_MIR_KP h * mfs e + i - s.gain MC_MIR_KD h * mfs (s.mc.y - s.mc.yPrev) / T +
    s.gain MC_MIR_KFF 0 * s.mc.ma / 1000 + s.injected 1 1 mirrorT
  { s with mc := { s.mc with mi := i, me := e, u := limitR 32767 u, clamped := decide (32767 < absR u) } }

/-- The DAC codes of a mirror period: 20 linear steps from an output to the next one (R337); their rounding is open (log 10). -/
def dacSteps (u0 u1 : Rat) : List Int :=
  (List.range 20).map (fun k => roundOpen 0x0337 (u0 + (u1 - u0) * ((k + 1 : Nat) : Rat) / 20))

/-- The mirror comes to its end in QUIET → PARK: once the island has applied the brake, its output ramps to 0 over 1 ms
(R358). -/
def State.mirrorRest (s : State) : State :=
  if s.mc.parking && s.mc.mirOn && s.isl.out &&& brkBits == 0 then { s with mc := s.mc.startRamp } else s

/-- The mirror axis while it is off: its output ramps to 0 (R361). -/
def Motion.rampDown (x : Motion) : Motion :=
  { x with u := if absR x.u ≤ absR x.ramp then 0 else x.u - x.ramp }

/-- The capture of a mirror loop instant (R356). -/
def State.mirrorCapture (s : State) : State := s.capture 1 mirrorT s.mc.r s.mc.y s.mc.me s.mc.u

/-- The mirror loop with its axis on, the oscillation detector and the capture. -/
def State.mirrorLoop (s : State) : State :=
  let s := s.mirrorMove.mirrorOutput
  let (o, osc) := s.mc.oscM.step s.mc.me (s.val MC_OSC_AMPL_MIR : Nat) s.tb.tick (s.val MC_OSC_WINDOW_MS) (s.val MC_OSC_COUNT)
  let s := { s with mc := { s.mc with oscM := o } }
  let s := s.mirrorCapture
  if osc then s.oscillation 1 else s

/-- Written parameters of an axis come into force at its loop instant, and with a gain the halving of its gains ends (R354,
R362); not during a safe stop, in which no command changes either axis (R360). -/
def State.loopPars (s : State) (e : Eff) : State :=
  if s.mc.safeStop.isSome then s
  else
    let s := (s.force e).force .osc
    let x := s.mc
    let x := if e == .mirror && x.gainM then { x with oscM := { x.oscM with halved := 0 }, gainM := false } else x
    { s with mc := if e == .spin && x.gainS then { x with oscS := { x.oscS with halved := 0 }, gainS := false } else x }

/-- The present tick is a loop instant of the mirror, 16,000 tk apart, that has not been computed (R331). -/
def State.mirrorDue (s : State) : Bool := s.tb.tick % 16000 == 0 && (s.mc.mirs.head?.map (·.1)) ≠ some s.tb.tick

/-- The present tick is a loop instant of the spin, 64,000 tk apart, that has not been computed (R331). -/
def State.spinDue (s : State) : Bool := s.tb.tick % 64000 == 0 && s.mc.spinAt ≠ some s.tb.tick

/-- Every 10 µs the mirror loop computes its output (R343), from which the DAC's codes follow (R337). -/
def execMirrorLoopInstant (s : State) : Out :=
  if !s.engineOn || !s.mirrorDue then .next s else
  let u := s.mc.u
  let s := (s.loopPars .mirror).mirrorSample.mirrorTarget
  let s := if s.mc.mirOn && s.hk.ca.2.2 then s.mirrorOff 1 else s.mirrorRest
  let s := if s.mc.mirOn then s.mirrorLoop else { s with mc := s.mc.rampDown }.mirrorCapture
  .next { s with mc := { s.mc with mirs := ((s.tb.tick, s.mc.r, s.mc.y) :: s.mc.mirs).take 16, dac := dacSteps u s.mc.u } }

/-! ### The spin loop (R345 to R351, R396) -/

/-- The set-point of the brake test at spin period k of a phase, in mA (R396). -/
def BrakeTest.current (t : BrakeTest) (ma : Nat) : Rat :=
  match t.phase with
  | 0 => (ma * min t.k 1250 : Nat) / 1250
  | 1 => (ma : Nat)
  | _ => (ma * (1250 - t.k) : Nat) / 1250

/-- A spin period of the brake test: current mode, and the phase goes on (R396). -/
def State.brakeTestInstant (s : State) (t : BrakeTest) : State :=
  let c := t.current (s.saf SAF_BRK_TEST_MA)
  let s := s.sendFrame 0 (satI 16 (roundOpen 0x0345 c))
  { s with mc := { s.mc with c := c }, isl := { s.isl with test := some { t with k := t.k + 1 } } }

/-- The angle error at a spin period: the reference with what is injected into it in angle mode, less θ (R347, R355). -/
def State.angleError (s : State) : Rat :=
  if s.inFrame then
    wrapHalf (s.thetaRef + (if s.mc.spin = 3 then s.injected 0 0 spinT / 65536 else 0) - s.theta_ s.tb.tick)
  else 0

/-- The set-point of a spin period is limited and sent (R346). -/
def State.spinOutput (s : State) (c avail : Rat) : State :=
  let c := c + s.injected 0 1 spinT
  let s := { s with mc := { s.mc with c := limitR avail c, limited := decide (avail < absR c) } }
  s.sendCurrent s.mc.c

/-- The loop error of the spin: e_θ in angle mode, e_ω in speed mode. -/
def State.spinError (s : State) : Rat := if s.mc.spin = 3 then s.mc.eth else s.mc.ew

/-- The capture of a spin loop instant (R356). -/
def State.spinCapture (s : State) : State :=
  s.capture 0 spinT (s.thetaRef * (2 ^ 32 : Nat)) (s.theta_ s.tb.tick * (2 ^ 32 : Nat))
    (s.spinError * (if s.mc.spin = 3 then (2 ^ 32 : Nat) else 65536)) s.mc.c

/-- The oscillation detector and the capture of the spin (R354, R356). -/
def State.spinWatch (s : State) : State :=
  let locked := s.mc.spin == 3
  let err := s.spinError
  let ampl : Rat := (s.val MC_OSC_AMPL_SPIN : Nat) / (if locked then 65536 else 256)
  let (o, osc) := s.mc.oscS.step err ampl s.tb.tick (s.val MC_OSC_WINDOW_MS) (s.val MC_OSC_COUNT)
  let s := { s with mc := { s.mc with oscS := o } }
  let s := s.spinCapture
  if osc then s.oscillation 0 else s

/-- The loop of a spin period with the axis on, for speed w and angle error eth. -/
def State.spinLoop (s : State) (w eth : Rat) : State :=
  let avail := s.iAvail w
  let was := s.mc.spin
  let s := s.handover w eth
  let (s, c) := if s.mc.spin = 3 then s.angleLoop w eth (was ≠ 3) else s.speedLoop w avail
  (s.spinOutput c avail).spinWatch

/-- Every 40 µs the spin loop computes its set-point and a motor-link frame is sent (R334, R345); during the brake test it
is the test's current (R396). -/
def execSpinLoopInstant (s : State) : Out :=
  if !s.engineOn || !s.spinDue then .next s else
  let s := s.loopPars .spin
  let s := { s with mc := { s.mc with spinAt := some s.tb.tick } }
  match s.isl.test with
  | some t => .next (s.brakeTestInstant t)
  | none =>
    let w := s.omega
    let eth := s.angleError
    let s : State := { s.spinRuns w with mc := { (s.spinRuns w).mc with eth := eth } }
    let s : State := if s.mc.spin = 0 then ({ s with mc := { s.mc with c := 0 } }.sendFrame 2 0).spinCapture
      else s.spinLoop w eth
    let s := s.restReport
    .next { s with mc := { s.mc with lock := s.mc.lock && s.lockNow } }

/-- 100 ms after an abort a new hand-over may be attempted (R350). -/
def execHandoverRetryExpiry (s : State) : Out := .next { s with mc := { s.mc with hold := false } }

/-! ### Motor link and encoder (R332 to R336) -/

/-- The response word carries its sync and CRC. -/
def linkOk (w : BitVec 80) : Bool :=
  w.toNat / 2 ^ 72 == 0x5A && (w.toNat % 256) == linkCrc (w.toNat / 256)

/-- Phase currents of a response word in mA. -/
def linkCurrents (w : BitVec 80) : Int × Int := (sgn 16 (w.toNat / 2 ^ 48 % 65536), sgn 16 (w.toNat / 2 ^ 32 % 65536))

/-- What the island sees of the phase currents during the brake test (R396). -/
def State.testCurrents (s : State) (w : BitVec 80) : State :=
  match s.isl.test with
  | none => s
  | some t =>
    if !linkOk w then s
    else
      let (a, b) := linkCurrents w
      let i := max a.natAbs (max b.natAbs (a + b).natAbs)
      let seen : Bool := t.phase == 1 && decide (8 * s.saf SAF_BRK_TEST_MA ≤ 10 * i)
      { s with isl := { s.isl with test := some { t with peak := max t.peak (min 65535 i), seen := t.seen + b2n seen } } }

/-- A response word completes (R336): an invalid one is counted, the third in a row and the inverter's fault bit are a link
fault. The echo is that of the frame before the one in which the response came. -/
def execMotorLinkResponse (w : BitVec 80) (s : State) : Out :=
  if !s.engineOn then .next s else
  let s := s.testCurrents w
  let echo := w.toNat / 2 ^ 64 % 256
  if linkOk w && echo == wrap 8 (s.mc.sentSeq + 255) then
    let (a, b) := linkCurrents w
    let s := { s with mc := { s.mc with ia := a, ib := b, vdc := w.toNat / 65536 % 65536, bad := 0 } }
    .next (if w.getLsbD 15 then s.spinOff 2 else s)
  else
    let s := { s with mc := { s.mc with bad := s.mc.bad + 1, errs := wrap 32 (s.mc.errs + 1) } }
    .next (if 3 ≤ s.mc.bad then s.spinOff 2 else s)

/-- A counted edge with its stamp to 5 ns, 8 tk: one of the two about the edge's tick (R332; log 10). Edges of the last 200 µs
and the two newest are kept. -/
def Motion.edge (x : Motion) (tick : Nat) (d : Int) : Motion :=
  let n := 8 * (roundOpen 0x1332 ((tick : Rat) / 8)).toNat
  let es := (n, x.count + d) :: x.edges
  { x with count := x.count + d, travel := x.travel + 1
           edges := es.take 2 ++ (es.drop 2).filter (fun e => decide (n ≤ e.1 + 320000)) }

/-- The index pulse (R332, R333): the first one after the axis is enabled sets the count to 0; a later one checks it. -/
def State.engineIndex (s : State) : State :=
  let q := 4 * s.mc.lines
  if !s.mc.known then
    { s with mc := { s.mc with known := true, count := 0, edges := s.mc.edges.map (fun e => (e.1, e.2 - s.mc.count)) } }
  else
    let m := (s.mc.count % (q : Int)).toNat
    if 1 < m && m + 1 < q then s.spinOff 1 else s

/-- An encoder edge is counted and stamped; four illegal transitions within one revolution are an encoder fault (R332,
R333). -/
def execEncoderEdge (e : EncEdge) (s : State) : Out :=
  if !s.engineOn then .next s else
  match e with
  | .up => .next { s with mc := s.mc.edge s.tb.tick 1 }
  | .down => .next { s with mc := s.mc.edge s.tb.tick (-1) }
  | .index => .next s.engineIndex
  | .both =>
    let q := 4 * s.mc.lines
    let ill := s.mc.travel :: s.mc.illegal.filter (fun t => decide (s.mc.travel < t + q))
    let s := { s with mc := { s.mc with illegal := ill } }
    .next (if 4 ≤ ill.length then { s with mc := { s.mc with illegal := [] } }.spinOff 1 else s)

/-- An ENC_Z rising edge (R332, R333). -/
def execEncoderIndex (s : State) : Out := .next (if s.engineOn then s.engineIndex else s)

/-! ### Shot angles (R353) -/

/-- The angles of a fire tick can be told: an encoder edge and a mirror loop instant have come at or after it; or 50 µs have
passed, within which they reach the fabric, or the engine is off. -/
def State.anglesReady (s : State) (fire : Nat) : Bool :=
  !s.engineOn || decide (fire + 80000 ≤ s.tb.tick) ||
    (s.mc.edges.any (fun e => decide (fire ≤ e.1)) && s.mc.mirs.any (fun e => decide (fire ≤ e.1)))

/-- The engine returns the angles of an entry that has fired or run dark. Their rounding is open (log 10). -/
def execShotAnglesReport (fire : Nat) (s : State) : Out :=
  match s.shot fire with
  | none => .next s
  | some x =>
    if !x.fired || x.angles.isSome || !s.anglesReady fire then .next s
    else
      let unknown := !s.mc.known || s.mc.spin == 0
      let th := unsgn 32 (roundOpen 0x0353 (s.thetaAt fire * (2 ^ 32 : Nat)))
      let (r, y) := mirrorAt fire s.mc.mirs
      .next (s.setShot fire (fun x => { x with
        angles := some (th, roundOpen 0x1353 r, roundOpen 0x1353 y, unknown) }))

/-! ### Stops (R355, R359, R360) -/

/-- The test signal ends at its duration (R355). -/
def execInjectionEnd (s : State) : Out :=
  match s.mc.inj with
  | some j => .next (if j.dur ≤ j.n then { s with mc := { s.mc with inj := none } } else s)
  | none => .next s

/-- The island's safe-stop command, or its withdrawal, reaches the engine (R360). -/
def execSafeStopCommand (s : State) : Out :=
  if !s.engineOn then .next s else
  match s.isl.command with
  | none => .next { s with mc := { s.mc with safeStop := none } }
  | some c =>
    let s := { s with mc := { s.mc with safeStop := some c, inj := none } }
    .next (if 2 ≤ s.mc.spin then s.toSpeed else s)

/-- The island's brake-released report starts the engine (R359); an axis that has gone off stays off (R361). -/
def execBrakeReleasedReport (s : State) : Out :=
  if !s.engineOn || !s.isl.released || s.mc.started || s.mc.safeStop.isSome then .next s
  else
    let s := { s with mc := { s.mc with started := true, parking := false } }
    let s := if s.mc.offSpin = 0 then s.startSpin else s
    .next (if s.mc.offMir = 0 then s.startMirror else s)

/-! ### 09xxh commands -/

/-- The readings of MC_STATUS_GET W1 to W5; their rounding is open (log 10). -/
def State.motionWords (s : State) : List Word :=
  let w (site : Nat) (x : Rat) : Nat := unsgn 32 (roundOpen site x)
  let h (site : Nat) (x : Rat) : Nat := unsgn 16 (roundOpen site x)
  [w32 (w 0x1901 (s.theta_ s.tb.tick * (2 ^ 32 : Nat))), w32 (w 0x2901 (s.omega * 65536)),
    w32 (w 0x3901 (s.mc.eth * (2 ^ 32 : Nat))), pack [(h 0x4901 s.mc.r, 16), (h 0x4901 s.mc.y, 16)],
    pack [(s.mc.vdc, 16), (h 0x5901 s.mc.c, 16)]]

/-- MC_STATUS_GET. -/
def execMcStatusGet (m : Fin 64) (s : State) : Out :=
  s.skeic 0x0901 m fun s =>
    let x := s.mc
    .done s ([pack [(x.spin, 2), (b2n x.trial.isSome, 1), (b2n x.mirOn, 1), (b2n x.known, 1), (b2n x.safeStop.isSome, 1),
      (b2n x.inj.isSome, 1), (x.offSpin, 3), (x.offMir, 3), (x.aborts, 2)]] ++ s.motionWords ++ [w32 x.errs])

/-- What writing a motion parameter ends: a gain the halving of its axis's gains, from the next loop instant on (R354, R362), a
parameter of the spin loop the wait after a third abort (R350). -/
def State.motionWritten (s : State) (p : Par) : State :=
  let x := s.mc
  let x := if 4 ≤ p.idx && p.idx ≤ 7 then { x with gainM := true } else x
  let x := if 17 ≤ p.idx && p.idx ≤ 21 then { x with gainS := true } else x
  let x := if p.eff = .spin && x.halt then { x with halt := false, aborts := 0 } else x
  { s with mc := x }

/-- MC_PARAM_WRITE (R362). -/
def execMcParamWrite (m : Fin 64) (s : State) : Out :=
  s.skeic 0x0902 m fun s =>
    need ((s.pw m 0).fld 7 0 ≠ 13 || [1, 2, 4, 8, 16].contains (s.pw m 1).toNat) "MC_SPIN_FRAMES_PER_REV" <|
    s.parWrite 9 m State.motionWritten

/-- MC_PARAM_READ. -/
def execMcParamRead (m : Fin 64) (s : State) : Out := s.skeic 0x0903 m fun s => s.parRead 9 m

/-- MC_INJECT_START (R355, R356, R363); without effect while the engine is off or stops safely (R358, R360). -/
def execMcInjectStart (m : Fin 64) (s : State) : Out :=
  s.skeic 0x0904 m fun s =>
    let w := s.pw m 0
    let dec := w.fld 11 4
    let bit := w.fld 19 12
    need (w.fld 31 20 = 0 && w.fld 3 2 ≠ 3 && dec ≠ 0 && (s.pw m 2).toNat ≠ 0 && (w.fld 3 2 ≠ 2 || bit ≠ 0)) "field" <|
    if !s.engineOn || s.mc.safeStop.isSome then .done s []
    else
      let j : Inject := { axis := w.fld 0 0, point := w.fld 1 1, signal := w.fld 3 2, dec := dec, bit := bit
                          amp := sgn 32 (s.pw m 1).toNat, dur := (s.pw m 2).toNat, f0 := (s.pw m 3).fld 15 0
                          f1 := (s.pw m 3).fld 31 16 }
      .done { s with mc := { s.mc with inj := some j, cap := [], lock := s.mc.lock && j.axis ≠ 0 } } []

/-- MC_INJECT_STOP. -/
def execMcInjectStop (m : Fin 64) (s : State) : Out :=
  s.skeic 0x0905 m fun s => .done { s with mc := { s.mc with inj := none } } []

/-- MC_CAPTURE_READ: what an instant that the buffer does not hold reads as is open (log 5). -/
def execMcCaptureRead (m : Fin 64) (s : State) : Out :=
  s.skeic 0x0906 m fun s =>
    let first := (s.pw m 0).fld 13 0
    let n := (s.pw m 0).fld 23 14
    need ((s.pw m 0).fld 31 24 = 0 && n ≤ 200) "field" <|
    let (free, t) := s.freeWords (5 * n)
    .done t (w32 s.mc.cap.length :: (List.range n).flatMap (fun i =>
      s.mc.cap.getD (first + i) ((free.drop (5 * i)).take 5)))

/-- MC_AXIS_RESTART (R364); without effect during a safe stop (R360). Before the engine has started, an axis that went off
starts with the other one (R359). -/
def execMcAxisRestart (m : Fin 64) (s : State) : Out :=
  s.skeic 0x0907 m fun s =>
    need ((s.pw m 0).fld 31 2 = 0) "reserved bits" <|
    if s.mc.safeStop.isSome then .done s []
    else
      let spin := (s.pw m 0).bit 0 && s.mc.offSpin ≠ 0
      let mir := (s.pw m 0).bit 1 && s.mc.offMir ≠ 0
      if s.mc.started then
        let s := if spin then s.startSpin else s
        .done (if mir then s.startMirror else s) []
      else .done { s with mc := { s.mc with
        offSpin := if spin then 0 else s.mc.offSpin, offMir := if mir then 0 else s.mc.offMir } } []

end Sys2Proof.Machine
end

