-- ==== Sys2Proof/Machine/Island.lean ====
section
/-! DEFINITION. The safety island: its inputs, outputs, monitors, stops, messages and the 0Axxh commands (chapter 10). -/
namespace Sys2Proof.Machine

/-- The island is evaluated after a change of it. -/
def State.withIsl (s : State) (f : Island → Island) : State := (s.setIsl f).island

/-! ### Channels and outputs (R366 to R376) -/

/-- The self-test ends (R370). -/
def execIslandSelfTestComplete (ok : Bool) (s : State) : Out :=
  .next (if ok then s.withIsl (fun x => { x with tested := true }) else s.islandFault.answerEnded)

/-- A comparison of the two channels: the third disagreement in a row is an island fault (R367). -/
def execIslandChannelCompare (agree : Bool) (s : State) : Out :=
  let s := s.setIsl (fun x => { x with differ := if agree then 0 else x.differ + 1 })
  .next (if 3 ≤ s.isl.differ && !s.isl.fault then s.islandFault.answerEnded else s)

/-- The mask of output o. -/
def outBit (o : Fin 6) : BitVec 6 := BitVec.ofNat 6 (2 ^ o.val)

/-- A test pulse of an output that is high: reading high during it is an output fault (R374, R375). -/
def execTestPulse (o : Fin 6) (readHigh : Bool) (s : State) : Out :=
  .next (if s.isl.out.getLsbD o && readHigh then s.withIsl (fun x => { x with outFault := x.outFault ||| outBit o }) else s)

/-- A ball has been at the wrong level for 10 µs (R375). -/
def execOutputReadbackFault (o : Fin 6) (s : State) : Out :=
  .next (s.withIsl (fun x => { x with outFault := x.outFault ||| outBit o }))

/-- The enables have been high for 5 µs: the inhibit is withdrawn (R383). -/
def execInhibitWithdraw (s : State) : Out :=
  .next (if s.isl.out &&& emitBits = emitBits then s.setIsl (fun x => { x with inhibit := false }) else s)

/-- The island's inhibit, or its withdrawal, reaches the sequencer (R243): the shot whose blanking interval is in progress runs
dark, whatever follows. -/
def execEmissionInhibitArrival (s : State) : Out :=
  let on := s.isl.inhibit
  .next { s with seq := { s.seq with
    inhibit := on
    shots := s.seq.shots.map (fun x => if on && x.blanked && !x.fired then { x with inhibited := true } else x) } }

/-! ### Safety inputs (R377 to R381) -/

/-- One input's filter at a sample (R377): filtered level, run of differing samples, new level. -/
def filterStep (level new : Bool) (run us : Nat) : Bool × Nat :=
  if level = new then (level, 0) else if us ≤ 10 * (run + 1) then (new, 0) else (level, run + 1)

/-- The filters of pair p at a sample. -/
def State.filterPair (s : State) (a b : BitVec 8) (p : Nat) : State :=
  let us := s.saf SAF_SIN_FILTER_US
  let (fa, ra) := filterStep (s.isl.fa.getLsbD p) (a.getLsbD p) (tget 0 s.isl.runA p) us
  let (fb, rb) := filterStep (s.isl.fb.getLsbD p) (b.getLsbD p) (tget 0 s.isl.runB p) us
  let put (v : BitVec 8) (x : Bool) : BitVec 8 :=
    if x then v ||| BitVec.ofNat 8 (2 ^ p) else v &&& ~~~BitVec.ofNat 8 (2 ^ p)
  s.setIsl (fun x => { x with fa := put x.fa fa, fb := put x.fb fb, runA := tset 0 x.runA p ra, runB := tset 0 x.runB p rb })

/-- The state that a pair goes to with its filtered levels (R378, R380, R381). -/
def pairStep (st : Nat) (a b restart : Bool) : Nat :=
  if st = 3 then 3 else if !a || b then 1 else if st = 1 then (if restart then 2 else 0) else st

/-- Pair p after its filters: its state and its discrepancy timer (R378 to R381); an unused pair is not evaluated. -/
def State.evalPair (s : State) (p : Nat) : State :=
  if s.pairFunc p = 0 then s.setIsl (fun x => { x with eq := tset 0 x.eq p 0 })
  else
    let a := s.isl.fa.getLsbD p
    let b := s.isl.fb.getLsbD p
    s.setIsl (fun x => { x with
      pair := tmod 0 x.pair p (fun st => pairStep st a b (s.saf SAF_SIN_RESTART p == 1))
      eq := tset 0 x.eq p (if a = b then tget 0 x.eq p + 1 else 0) })

/-- Every 10 µs of island time the inputs are sampled and filtered (R377). -/
def execSafetyInputSample (a b : BitVec 8) (s : State) : Out :=
  let s := s.setIsl (fun x => { x with us := x.us + 10 })
  .next ((List.range 8).foldl (fun (s : State) p => (s.filterPair a b p).evalPair p) s).island

/-- The discrepancy timer of a pair expires: a fault is latched with event 0A01h (R379). -/
def execDiscrepancyFault (p : Fin 8) (s : State) : Out :=
  if s.pairFunc p = 0 || s.pair p = 3 || 10 * tget 0 s.isl.eq p < 1000 * s.saf SAF_SIN_DISC_MS then .next s
  else
    let s := s.withIsl (fun x => { x with pair := tset 0 x.pair p 3 })
    .next (s.chipEvent 0x0A01 [p])

/-! ### Requests, brake and stops (R65, R392 to R402) -/

/-- The outputs may be raised for a start (R393). -/
def State.mayRelease (s : State) : Bool :=
  s.isl.tested && !s.isl.fault && s.isl.active.isSome && !s.isl.event && s.stopLevel < 2 && s.isl.test.isNone &&
    (s.isl.stop = 0 || 3 ≤ s.isl.stop)

/-- A state request reaches the island (R65): it permits emission or not, and asks for the brake's release in PARK → QUIET,
which raises the torque-off outputs first (R393). -/
def execStateRequest (s : State) : Out :=
  let run := s.wantsRun
  let s := s.setIsl (fun x => { x with run := run })
  let s := if s.requestsRelease && s.mayRelease && s.isl.out &&& (tqBits ||| brkBits) = 0 then
      s.setIsl (fun x => { x.lift tqBits with rising := some x.us, stop := 0, report := false, rest := false })
    else s
  .next s.island

/-- 10 ms after TQOFF rose the brake outputs rise (R393). -/
def execBrakeReleaseDelay (s : State) : Out :=
  match s.isl.rising with
  | some t =>
    .next (if t + 10000 ≤ s.isl.us && s.mayRelease then s.withIsl (fun x => { x.brake true with rising := none }) else s)
  | none => .next s

/-- What waits for the brake goes on, and the island is evaluated. -/
def State.finishIsl (s : State) : State :=
  let a := s.brakeAvail
  s.withIsl (Island.finish a)

/-- A feedback input changes: both high report the brake released, both low let a hold go on (R392 to R394, R400). -/
def execBrakeFeedbackChange (chB high : Bool) (s : State) : Out :=
  let k := b2n chB
  let s := s.setIsl (fun x =>
    let f : BitVec 2 := if high then x.fbk ||| BitVec.ofNat 2 (2 ^ k) else x.fbk &&& ~~~BitVec.ofNat 2 (2 ^ k)
    { x with fbk := f, fbAt := tput x.fbAt k x.us, released := f == 3#2 && x.out &&& brkBits == brkBits })
  .next s.finishIsl

/-- A feedback input has differed from its output for longer than SAF_BRK_FB_MS (R394). -/
def execBrakeFeedbackFault (chB : Bool) (s : State) : Out :=
  let k := b2n chB
  if s.isl.fbk.getLsbD k = s.isl.out.getLsbD (2 + k) || s.isl.us ≤ tget 0 s.isl.fbAt k + 1000 * s.saf SAF_BRK_FB_MS then .next s
  else .next (s.setIsl (fun x => { x with fbFault := true })).finishIsl

/-- The engine's rest report reaches the island (R392). -/
def execRestReportArrival (s : State) : Out := .next (s.setIsl (fun x => { x with rest := s.mc.rest }))

/-- No standstill by SAF_SS_TMAX_MS after the demand: torque off (R399). -/
def execSafeStopTimeLimit (s : State) : Out :=
  .next (if s.isl.stop = 1 && s.isl.holding = 0 && s.isl.since + 1000 * s.saf SAF_SS_TMAX_MS ≤ s.isl.us then s.torqueOff.island else s)

/-- The stop report reaches the state logic: the device enters PARK, and the transition in progress ends (R67, R68,
R402). -/
def execStopReportArrival (s : State) : Out :=
  if !s.isl.report then .next s
  else
    let s := s.setIsl (fun x => { x with report := false })
    let leave : Bool := s.pwr.dev == .run || s.pwr.dev == .quiet || s.pwr.trans.isSome
    .next (if leave then (s.supersede.withdraw.calStop.enterPark).answerEnded else s)

/-! ### Speed functions (R384 to R386, R395, R399 to R401) -/

/-- A scan stall in a channel from the run lengths of an evaluation, with the stall speed v and n evaluations of filter
(R385). -/
def IslEnc.stallStep (v n : Nat) (x : IslEnc) : IslEnc :=
  let lr := if decide (256 * x.speed < (v : Nat)) then x.lowRun + 1 else 0
  let hr := if decide ((11 * v : Nat) ≤ 2560 * x.speed) then x.highRun + 1 else 0
  { x with lowRun := lr, highRun := hr
           stall := if v = 0 then false else if n ≤ lr then true else if n ≤ hr then false else x.stall }

/-- A scan stall from the run lengths of an evaluation (R385). -/
def State.stallStep (s : State) : State :=
  let v := s.safEff SAF_STALL_RPS
  let n := 10 * s.saf SAF_STALL_FILTER_MS
  s.setIsl (fun x => x.encs (IslEnc.stallStep v n))

/-- The safe stop's envelope at the present time for the speed w0 at its demand, in rev/s; none before monitoring starts
(R399). -/
def State.envelope (s : State) (w0 : Rat) : Option Rat :=
  let t := s.isl.us - s.isl.since
  let d := 1000 * s.saf SAF_SS_DELAY_MS
  if t < d then none
  else some (w0 + (s.saf SAF_SS_MARGIN : Rat) / 256 -
    (s.saf SAF_SS_MON_DECEL : Rat) / 256 * ((t - d : Nat) : Rat) / 1000000)

/-- The speed of either channel is above its envelope (R399). -/
def State.aboveEnvelope (s : State) : Bool :=
  s.isl.someEnc (fun c => match s.envelope c.w0 with
    | some e => e < c.speed
    | none => false)

/-- The stop functions of an evaluation (R392, R399 to R401). -/
def State.stopStep (s : State) : State :=
  let x := s.isl
  match x.stop with
  | 1 =>
    if x.holding ≠ 0 then s.setIsl (Island.finish s.brakeAvail)
    else if s.aboveEnvelope then s.torqueOff
    else if x.still then s.hold 2
    else s
  | 2 =>
    if x.holding = 0 then (if x.someEnc (fun e => e.speed ≤ (s.saf SAF_BRK_MAX_RPS : Rat) / 256) then s.hold 3 else s)
    else s.setIsl (Island.finish s.brakeAvail)
  | 0 => if x.rest && x.still && x.out &&& brkBits = brkBits then s.hold 1 else s
  | _ => s

/-- A channel's window of the last ten counts, its speed and its standstill run, with q counts per revolution and the standstill
speed z (R384, R400). -/
def IslEnc.speedStep (q z : Nat) (x : IslEnc) : IslEnc :=
  let win := (x.now :: x.win).take 10
  let v : Rat := (1000 * win.foldl (· + ·) 0 : Nat) / (q : Nat)
  { x with now := 0, win := win, speed := v, still := if 256 * v ≤ (z : Nat) then x.still + 1 else 0 }

/-- Each channel's speed and standstill run (R384, R400). -/
def State.speedStep (s : State) : State :=
  let q := 4 * s.saf SAF_ENC_LINES
  let z := s.saf SAF_STANDSTILL_RPS
  s.setIsl (fun x => x.encs (IslEnc.speedStep q z))

/-- Operating hours are counted in RUN, QUIET and PARK from boot stage 4 on (R395). -/
def State.operating (s : State) : Bool :=
  4 ≤ s.boot.stage && s.boot.stage ≠ 5 && s.boot.stage ≠ 6 && s.boot.phase = 0 &&
    (s.pwr.dev == .run || s.pwr.dev == .quiet || s.pwr.dev == .park)

/-- Every 100 µs the island computes its speed and runs the functions that rest on it (R384). -/
def execIslandSpeedEvaluation (s : State) : Out :=
  let s := if s.operating then { s with wear := { s.wear with brakeTime := s.wear.brakeTime + 1 } } else s
  .next s.speedStep.stallStep.stopStep.island

/-! ### The brake test (R395 to R397) -/

/-- A brake test ends with a result: the torque-off outputs fall, domain 88 switches off unless the device leaves PARK, and
the command is answered (R396, R397). -/
def State.endBrakeTest (s : State) (t : BrakeTest) (result : Nat) : State :=
  let s := s.setIsl Island.endTest
  let s := if s.pwr.dev == .park && s.pwr.trans.isNone then s.switch 88 false false else s
  let s := if result = 0 then
      { (s.hwP (fun p => { p with brake := 0 })).setIsl (fun x => { x with due := false, gone := false }) with
        wear := { s.wear with brakeTime := 0 } }
    else if result = 1 then s.hwP (fun p => { p with brake := 1 })
    else s
  let s := if result = 1 then s.torqueOff else s
  s.island.respond t.mbx 0 [pack [(result, 2)], pack [(min 65535 t.moved, 16), (t.peak, 16)]]

/-- The movement since the test's start; more than SAF_BRK_TEST_COUNTS is a fail at once (R396). -/
def State.testMoved (s : State) : State :=
  match s.isl.test with
  | none => s
  | some t =>
    let t := { t with moved := max t.moved (max (s.isl.encA.count - t.fromA).natAbs (s.isl.encB.count - t.fromB).natAbs) }
    if s.saf SAF_BRK_TEST_COUNTS < t.moved then s.endBrakeTest t 1 else s.setIsl (fun x => { x with test := some t })

/-- Spin periods of a phase: 50 ms, 300 ms, 50 ms of 40 µs. -/
def BrakeTest.length (t : BrakeTest) : Nat := if t.phase = 1 then 7500 else 1250

/-- A phase of the brake test ends; after the last one the test is judged (R396): 250 ms of the hold are 6,250 spin
periods. Where domain 88 is off (a follower keeps it off, R490), no current comes: the test is inconclusive. -/
def execBrakeTestPhaseEnd (s : State) : Out :=
  match s.isl.test with
  | none => .next s
  | some t =>
    if !s.pwr.on.getLsbD 88 then .next (s.endBrakeTest t 2)
    else if t.k < t.length then .next s
    else if t.phase < 2 then .next (s.setIsl (fun x => { x with test := some { t with phase := t.phase + 1, k := 0 } }))
    else .next (s.endBrakeTest t (if 6250 ≤ t.seen then 0 else 2))

/-- Operating hours reach the test interval: event 0A03h; the grace limit makes the brake unavailable (R395). -/
def execBrakeTestDue (s : State) : Out :=
  let s := if s.saf SAF_BRK_TEST_H * hourUnits ≤ s.wear.brakeTime && !s.isl.due then
      (s.setIsl (fun x => { x with due := true })).chipEvent 0x0A03 []
    else s
  .next s.island

/-- An edge at the island's encoder inputs (R384, R386). -/
def execIslandEncoderEdge (e : EncEdges) (s : State) : Out := .next (s.islandEdge e).testMoved

/-! ### Energy (R372, R388 to R391) -/

/-- A sub-pulse of string k with the integrals of the two channels in mV·ns (R388 to R390). -/
def execSubPulseEnergy (k : Fin 8) (ia ib : Nat) (s : State) : Out :=
  let g := s.safEff SAF_EN_GAIN k
  let s := s.setIsl (fun x => { x with pulses := x.pulses + 1 })
  .next ((s.addEnergy (pulseEnergy ia g) (pulseEnergy ib g)).checkEnergy (max (pulseEnergy ia g) (pulseEnergy ib g)))

/-- A stray pulse: the largest of the eight gains, and its flag (R388). -/
def execStrayPulse (ia ib : Nat) (s : State) : Out :=
  let g := ((List.range 8).map (fun k => s.safEff SAF_EN_GAIN k)).foldl max 0
  let s := s.setIsl (fun x => { x with stray := true })
  .next ((s.addEnergy (pulseEnergy ia g) (pulseEnergy ib g)).checkEnergy (max (pulseEnergy ia g) (pulseEnergy ib g)))

/-- A bucket boundary, a sixteenth of the effective SAF_EN_WINDOW_MS of island time after the one before: every bucket is one
older, the oldest is discarded; the energy inhibit ends at three quarters of the limit (R389, R391, R411). -/
def execEnergyBucketBoundary (s : State) : Out :=
  let step := 1000 * s.safEff SAF_EN_WINDOW_MS
  if 16 * s.isl.us < s.isl.bucketAt + step then .next s else
  let s := s.setIsl (fun x => { x with
    bucketAt := x.bucketAt + step
    buckets := (x.buckets.filter (fun e => e.1 % 17 ≠ 16)).map (fun e => (e.1 + 1, e.2)) })
  .next (if s.isl.enInh && 4 * s.maxSum ≤ 3 * s.safEff SAF_EN_LIMIT_NJ then s.withIsl (fun x => { x with enInh := false }) else s)

/-- Per frame the island compares the sub-pulses that it saw with the sequencer's (R372). -/
def execSubPulseCountCompare (s : State) : Out :=
  match s.seq.report with
  | none => .next s
  | some n =>
    let k := s.isl.pulses
    let s := { s with seq := { s.seq with report := none } }.setIsl (fun x => { x with pulses := 0 })
    .next (if k = n then s else (s.setIsl (fun x => { x with mismatch := wrap 32 (x.mismatch + 1) })).chipEvent 0x0A02 [k, n])

/-! ### Messages (R403 to R407) -/

/-- A periodic status message (R403); periods in RUN, QUIET and PARK in which the fabric takes none are counted, but not
while a reset or the boot is in progress (R405, R427, R609). -/
def execStatusMessagePeriodic (s : State) : Out :=
  let (ok, t) := s.sendStatus
  .next (t.setIsl (fun x => { x with untaken := if s.operating && !ok then x.untaken + 1 else 0 }))

/-- A status message after a change of S0, S1, S2 or S5, at most one per ms (R403). -/
def execStatusMessageOnChange (s : State) : Out :=
  if s.isl.told = [s.s0, s.s1, w32 s.faults, s.s5] || (s.isl.told ≠ [] && s.isl.us < s.isl.toldAt + 1000) then .next s
  else
    let (ok, t) := s.sendStatus
    .next (t.setIsl (fun x => { x with toldAt := x.us, untaken := if ok then 0 else x.untaken }))

/-- Three periods without the fabric taking a message: torque off where the head turns, then a safety reset (R405). -/
def execStatusNotTaken (s : State) : Out :=
  if s.isl.untaken < 3 then .next s
  else
    let s := if s.turning then s.torqueOff.island else s
    .next ((s.setIsl (fun x => { x with untaken := 0 })).triggerWarm 6 0)

/-- No matched pair for SAF_MSG_TIMEOUT_MS in RUN or QUIET (R407). -/
def State.msgLate (s : State) : Bool :=
  s.saf SAF_MSG_MODE = 1 && (s.pwr.dev == .run || s.pwr.dev == .quiet) &&
    decide (s.isl.msgAt + 1000 * s.saf SAF_MSG_TIMEOUT_MS ≤ s.isl.us)

/-- The message timer runs out: a message fault (R407). -/
def execMessageTimeout (s : State) : Out :=
  if !s.msgLate then .next s
  else .next (s.withIsl (fun x => { x with msgFault := true }))

/-- Copies left unmatched after the skew time are counted (R407). -/
def execUnmatchedCopyExpiry (s : State) : Out :=
  let old (c : MsgCopy) : Bool := !c.past && decide (c.at_ + 1000 * s.saf SAF_MSG_SKEW_MS < s.isl.us)
  .next (s.setIsl (fun x =>
    { x with
      copies := x.copies.map (fun c => if old c then { c with past := true } else c)
      msgLone := wrap 32 (x.msgLone + (x.copies.filter old).length) }.forget))

/-! ### 0Axxh commands -/

/-- SAF_STATUS_GET. -/
def execSafStatusGet (m : Fin 64) (s : State) : Out :=
  s.skeic 0x0A01 m fun s => .done s (s.statusBlock ++ [w32 s.isl.enCount, w32 s.isl.msgBad, w32 s.isl.msgLone])

/-- The safety parameter of a command's W0, if there is one. -/
def safPar (idx : Nat) : Option Par := safPars.find? (fun p => p.idx == idx)

/-- SAF_PARAM_WRITE: a value of the staged set (R410). -/
def execSafParamWrite (m : Fin 64) (s : State) : Out :=
  s.skeic 0x0A02 m fun s =>
    let w := s.pw m 0
    let v := (s.pw m 1).toNat
    need (w.fld 31 17 = 0) "reserved bits" <|
    match safPar (w.fld 7 0) with
    | none => .err "parameter index"
    | some p =>
      need (p.ok v) "parameter value" <|
      need (p.insts = 1 || (w.fld 14 11 ≤ 8 && w.fld 10 8 + w.fld 14 11 ≤ 8)) "pair range" <|
      let is := if p.insts = 1 then [0] else span (w.fld 10 8) (w.fld 14 11)
      .done (s.setIsl (fun x => { x with staged := is.foldl (fun t i => tset p.dflt t (safKey p i) v) x.staged })) []

/-- SAF_PARAM_READ: staged, active, fused or effective; the active value without a valid set and the bound of a parameter
that has none are open (log 5). -/
def execSafParamRead (m : Fin 64) (s : State) : Out :=
  s.skeic 0x0A03 m fun s =>
    let w := s.pw m 0
    need (w.fld 31 17 = 0) "reserved bits" <|
    match safPar (w.fld 7 0) with
    | none => .err "parameter index"
    | some p =>
      let i := if p.insts = 1 then 0 else w.fld 10 8
      let (free, t) := s.draw (2 ^ 32)
      match w.fld 16 15 with
      | 0 => .done s [w, w32 (setVal s.isl.staged p i)]
      | 1 => match s.isl.active with
        | some a => .done s [w, w32 (setVal a p i)]
        | none => .done t [w, w32 free]
      | 2 => if (safFuse p.idx).isSome then .done s [w, w32 (s.safBound p i)] else .done t [w, w32 free]
      | _ => .done s [w, w32 (s.safEff p i)]

/-- SAF_PARAM_COMMIT: the staged set goes to the journal and becomes active, if its check matches and the device is not in
RUN (R410). -/
def execSafParamCommit (m : Fin 64) (s : State) : Out :=
  s.skeic 0x0A04 m fun s =>
    let t := s.isl.staged
    let k := w32 (setCheck t)
    if s.pw m 0 ≠ k then .done s [1, k]
    else if s.pwr.dev = .run then .done s [2, k]
    else if s.jnl.txn.isSome then .wait
    else
      let s := { s with p := { s.p with saf := some t, safCheck := k } }
      if s.jnl.readOnly then .done (s.activate t) [0, k]
      else .later (s.startTxn 10 (recordBytes 55) (.safSet m [0, k]))

/-- The pairs that an acknowledgement names and that are free of demand and await it (R380, R381). -/
def State.ackPairs (s : State) (mask : Nat) : List Nat :=
  (List.range 8).filter (fun p => mask >>> p % 2 == 1 && s.isl.fa.getLsbD p && !s.isl.fb.getLsbD p && 2 ≤ s.pair p)

/-- SAF_ACK: latches whose cause has gone are cleared (R376, R380, R386, R388, R390, R391, R394, R407, R412); good = the
outputs that have read back at their driven level for 10 ms. -/
def execSafAck (m : Fin 64) (good : BitVec 6) (s : State) : Out :=
  s.skeic 0x0A05 m fun s =>
    let w := s.pw m 0
    let x := s.isl
    need (w.fld 31 14 = 0) "reserved bits" <|
    let ps := s.ackPairs (w.fld 7 0)
    let msg := w.bit 8 && x.msgFault && !s.msgLate
    let sumOk := s.maxSum ≤ s.safEff SAF_EN_LIMIT_NJ
    let latch := w.bit 9 && x.enLatch && sumOk
    let pulse := w.bit 9 && x.pulse
    let fb := w.bit 10 && x.fbFault && x.fbk == (x.out >>> 2).setWidth 2
    let outs := if w.bit 11 then x.outFault &&& good else 0
    let enc := w.bit 12 && x.encFault
    let stray := w.bit 13 && x.stray
    let t := s.setIsl (fun x => { x with
      pair := ps.foldl (fun t p => tset 0 t p 0) x.pair
      msgFault := x.msgFault && !msg, enLatch := x.enLatch && !latch, pulse := x.pulse && !pulse
      fbFault := x.fbFault && !fb, outFault := x.outFault &&& ~~~outs, stray := x.stray && !stray
      encA := { x.encA with fault := x.encA.fault && !enc }, encB := { x.encB with fault := x.encB.fault && !enc } })
    let cleared := pack [((ps.map (2 ^ ·)).sum, 8), (b2n msg, 1), (b2n (latch || pulse), 1), (b2n fb, 1),
      (b2n (outs ≠ 0), 1), (b2n enc, 1), (b2n stray, 1)]
    .done t.island [cleared]

/-- SAF_BRAKE_TEST (R396): only in PARK, with the brake applied and nothing present that holds the outputs low; else
result 3. -/
def execSafBrakeTest (m : Fin 64) (s : State) : Out :=
  s.skeic 0x0A06 m fun s =>
    if s.pwr.dev ≠ .park || s.pwr.trans.isSome || !s.mayRelease || s.isl.out &&& brkBits ≠ 0 || s.isl.fbk ≠ 0 then
      .done s [3, 0]
    else
      let s := s.switch 88 true false
      .later (s.setIsl (fun x => { x.lift tqBits with test := some { mbx := m, fromA := x.encA.count, fromB := x.encB.count } }))

/-- SAF_ENERGY_GET. -/
def execSafEnergyGet (m : Fin 64) (s : State) : Out :=
  s.skeic 0x0A07 m fun s =>
    let first := (s.pw m 0).fld 9 0
    let n := (s.pw m 0).fld 18 10
    need ((s.pw m 0).fld 31 19 = 0 && n ≤ 256 && first + n ≤ 1024) "sector range" <|
    .done s ((span first n).map (fun k => w32 (sat 32 (s.isl.sum2 k))))

end Sys2Proof.Machine
end

