-- ==== Sys2Proof/Machine/Dispatch.lean ====
section
/-! DEFINITION. One arm per command: a direct call of its meaning. -/

namespace Sys2Proof.Machine

/-- The effect of a command on everything but the queue. -/
def exec (i : Instr) (s : State) : Host.Outcome State Fault Refusal :=
  match i with
  | .skeicMessageArrival d => Sys2Proof.Machine.execSkeicMessageArrival d s
  | .forwardedMessageArrival down msg => Sys2Proof.Machine.execForwardedMessageArrival down msg s
  | .responseHandoff m => Sys2Proof.Machine.execResponseHandoff m s
  | .sessionPendingExpiry n => Sys2Proof.Machine.execSessionPendingExpiry n s
  | .sessionIdleExpiry n => Sys2Proof.Machine.execSessionIdleExpiry n s
  | .wakeFrame mac dport d => Sys2Proof.Machine.execWakeFrame mac dport d s
  | .wakeAuthentication => Sys2Proof.Machine.execWakeAuthentication s
  | .spMbxAddrWrite v => Sys2Proof.Machine.execSpMbxAddrWrite v s
  | .spMbxDataAccess read v => Sys2Proof.Machine.execSpMbxDataAccess read v s
  | .spRingWrite v => Sys2Proof.Machine.execSpRingWrite v s
  | .spDoorbellWrite hi v => Sys2Proof.Machine.execSpDoorbellWrite hi v s
  | .spBootRecoveryStart => Sys2Proof.Machine.execSpBootRecoveryStart s
  | .spBootRecoveryEnd => Sys2Proof.Machine.execSpBootRecoveryEnd s
  | .spRegisterWrite first bytes => Sys2Proof.Machine.execSpRegisterWrite first bytes s
  | .idGet m => Sys2Proof.Machine.execIdGet m s
  | .sesOpen m => Sys2Proof.Machine.execSesOpen m s
  | .sesClose m => Sys2Proof.Machine.execSesClose m s
  | .sesStatus m => Sys2Proof.Machine.execSesStatus m s
  | .mbxStatus m => Sys2Proof.Machine.execMbxStatus m s
  | .echo m => Sys2Proof.Machine.execEcho m s
  | .devReset m => Sys2Proof.Machine.execDevReset m s
  | .skeParamWrite m => Sys2Proof.Machine.execSkeParamWrite m s
  | .skeParamRead m => Sys2Proof.Machine.execSkeParamRead m s
  | .fwStatusGet m => Sys2Proof.Machine.execFwStatusGet m s
  | .fwErase m => Sys2Proof.Machine.execFwErase m s
  | .fwEraseComplete => Sys2Proof.Machine.execFwEraseComplete s
  | .fwImageWrite m => Sys2Proof.Machine.execFwImageWrite m s
  | .fwImageCheck m => Sys2Proof.Machine.execFwImageCheck m s
  | .fwBootSelect m => Sys2Proof.Machine.execFwBootSelect m s
  | .pwrStateGet m mv ma => Sys2Proof.Machine.execPwrStateGet m mv ma s
  | .pwrStateSet m => Sys2Proof.Machine.execPwrStateSet m s
  | .pwrDomainSet m => Sys2Proof.Machine.execPwrDomainSet m s
  | .pwrDomainGet m => Sys2Proof.Machine.execPwrDomainGet m s
  | .pwrRailRead m rails power => Sys2Proof.Machine.execPwrRailRead m rails power s
  | .pwrParamWrite m => Sys2Proof.Machine.execPwrParamWrite m s
  | .pwrParamRead m => Sys2Proof.Machine.execPwrParamRead m s
  | .tbStatusGet m encErr => Sys2Proof.Machine.execTbStatusGet m encErr s
  | .tbTimeGet m => Sys2Proof.Machine.execTbTimeGet m s
  | .tbFitGet m => Sys2Proof.Machine.execTbFitGet m s
  | .tbTimeSet m => Sys2Proof.Machine.execTbTimeSet m s
  | .tbParamWrite m => Sys2Proof.Machine.execTbParamWrite m s
  | .tbParamRead m => Sys2Proof.Machine.execTbParamRead m s
  | .feStatusGet m => Sys2Proof.Machine.execFeStatusGet m s
  | .feParamWrite m => Sys2Proof.Machine.execFeParamWrite m s
  | .feParamRead m => Sys2Proof.Machine.execFeParamRead m s
  | .feBiasTest m => Sys2Proof.Machine.execFeBiasTest m s
  | .biasTestTimeout => Sys2Proof.Machine.execBiasTestTimeout s
  | .feQuarantineClear m => Sys2Proof.Machine.execFeQuarantineClear m s
  | .feInterleaveGet m => Sys2Proof.Machine.execFeInterleaveGet m s
  | .feInterleaveSave m => Sys2Proof.Machine.execFeInterleaveSave m s
  | .feCqStart m => Sys2Proof.Machine.execFeCqStart m s
  | .feCqStop m => Sys2Proof.Machine.execFeCqStop m s
  | .feCqStatus m => Sys2Proof.Machine.execFeCqStatus m s
  | .detStatusGet m => Sys2Proof.Machine.execDetStatusGet m s
  | .detParamWrite m => Sys2Proof.Machine.execDetParamWrite m s
  | .detParamRead m => Sys2Proof.Machine.execDetParamRead m s
  | .detCoefLoad m => Sys2Proof.Machine.execDetCoefLoad m s
  | .detCoefGet m => Sys2Proof.Machine.execDetCoefGet m s
  | .detCoincSet m => Sys2Proof.Machine.execDetCoincSet m s
  | .detCoincGet m => Sys2Proof.Machine.execDetCoincGet m s
  | .detTimingTableLoad m => Sys2Proof.Machine.execDetTimingTableLoad m s
  | .detTimingTableGet m => Sys2Proof.Machine.execDetTimingTableGet m s
  | .shotStatusGet m => Sys2Proof.Machine.execShotStatusGet m s
  | .shotParamWrite m => Sys2Proof.Machine.execShotParamWrite m s
  | .shotParamRead m => Sys2Proof.Machine.execShotParamRead m s
  | .shotBankWrite m => Sys2Proof.Machine.execShotBankWrite m s
  | .shotBankArm m => Sys2Proof.Machine.execShotBankArm m s
  | .shotBankDisarm m => Sys2Proof.Machine.execShotBankDisarm m s
  | .shotSeqStart m => Sys2Proof.Machine.execShotSeqStart m s
  | .shotSeqStop m => Sys2Proof.Machine.execShotSeqStop m s
  | .shotEmitterGet m => Sys2Proof.Machine.execShotEmitterGet m s
  | .shotEmitterSet m => Sys2Proof.Machine.execShotEmitterSet m s
  | .shotProofRun m => Sys2Proof.Machine.execShotProofRun m s
  | .proofRunTimeout => Sys2Proof.Machine.execProofRunTimeout s
  | .capStatusGet m => Sys2Proof.Machine.execCapStatusGet m s
  | .capParamWrite m => Sys2Proof.Machine.execCapParamWrite m s
  | .capParamRead m => Sys2Proof.Machine.execCapParamRead m s
  | .capProfileSet m => Sys2Proof.Machine.execCapProfileSet m s
  | .capProfileGet m => Sys2Proof.Machine.execCapProfileGet m s
  | .memStatusGet m => Sys2Proof.Machine.execMemStatusGet m s
  | .lbFreeze m => Sys2Proof.Machine.execLbFreeze m s
  | .lbRelease m => Sys2Proof.Machine.execLbRelease m s
  | .lbDump m => Sys2Proof.Machine.execLbDump m s
  | .rejStatusGet m => Sys2Proof.Machine.execRejStatusGet m s
  | .rejParamWrite m => Sys2Proof.Machine.execRejParamWrite m s
  | .rejParamRead m => Sys2Proof.Machine.execRejParamRead m s
  | .rejTrainList m => Sys2Proof.Machine.execRejTrainList m s
  | .rejTrainDrop m => Sys2Proof.Machine.execRejTrainDrop m s
  | .mcStatusGet m => Sys2Proof.Machine.execMcStatusGet m s
  | .mcParamWrite m => Sys2Proof.Machine.execMcParamWrite m s
  | .mcParamRead m => Sys2Proof.Machine.execMcParamRead m s
  | .mcInjectStart m => Sys2Proof.Machine.execMcInjectStart m s
  | .mcInjectStop m => Sys2Proof.Machine.execMcInjectStop m s
  | .mcCaptureRead m => Sys2Proof.Machine.execMcCaptureRead m s
  | .mcAxisRestart m => Sys2Proof.Machine.execMcAxisRestart m s
  | .safStatusGet m => Sys2Proof.Machine.execSafStatusGet m s
  | .safParamWrite m => Sys2Proof.Machine.execSafParamWrite m s
  | .safParamRead m => Sys2Proof.Machine.execSafParamRead m s
  | .safParamCommit m => Sys2Proof.Machine.execSafParamCommit m s
  | .safAck m good => Sys2Proof.Machine.execSafAck m good s
  | .safBrakeTest m => Sys2Proof.Machine.execSafBrakeTest m s
  | .safEnergyGet m => Sys2Proof.Machine.execSafEnergyGet m s
  | .safVehicleMsg p w0 w1 w2 w3 => Sys2Proof.Machine.execSafVehicleMsg p w0 w1 w2 w3 s
  | .ethStatusGet m => Sys2Proof.Machine.execEthStatusGet m s
  | .ethParamWrite m => Sys2Proof.Machine.execEthParamWrite m s
  | .ethParamRead m => Sys2Proof.Machine.execEthParamRead m s
  | .ethDestSet m => Sys2Proof.Machine.execEthDestSet m s
  | .ethDestGet m => Sys2Proof.Machine.execEthDestGet m s
  | .ethQBind m => Sys2Proof.Machine.execEthQBind m s
  | .ethQGet m => Sys2Proof.Machine.execEthQGet m s
  | .chStatusGet m => Sys2Proof.Machine.execChStatusGet m s
  | .chParamWrite m => Sys2Proof.Machine.execChParamWrite m s
  | .chParamRead m => Sys2Proof.Machine.execChParamRead m s
  | .chSyncMeasure m => Sys2Proof.Machine.execChSyncMeasure m s
  | .chLinkGet m => Sys2Proof.Machine.execChLinkGet m s
  | .hkStatusGet m sync => Sys2Proof.Machine.execHkStatusGet m sync s
  | .hkParamWrite m => Sys2Proof.Machine.execHkParamWrite m s
  | .hkParamRead m => Sys2Proof.Machine.execHkParamRead m s
  | .hkSlotSet m => Sys2Proof.Machine.execHkSlotSet m s
  | .hkSlotGet m => Sys2Proof.Machine.execHkSlotGet m s
  | .hkCurveLoad m => Sys2Proof.Machine.execHkCurveLoad m s
  | .hkResultGet m => Sys2Proof.Machine.execHkResultGet m s
  | .thermStatusGet m => Sys2Proof.Machine.execThermStatusGet m s
  | .calStatusGet m refPresent khz mv => Sys2Proof.Machine.execCalStatusGet m refPresent khz mv s
  | .calParamWrite m => Sys2Proof.Machine.execCalParamWrite m s
  | .calParamRead m => Sys2Proof.Machine.execCalParamRead m s
  | .calRun m => Sys2Proof.Machine.execCalRun m s
  | .calAbort m => Sys2Proof.Machine.execCalAbort m s
  | .calChannelGet m => Sys2Proof.Machine.execCalChannelGet m s
  | .fuseRead m => Sys2Proof.Machine.execFuseRead m s
  | .fuseProgram m => Sys2Proof.Machine.execFuseProgram m s
  | .jnlStatusGet m => Sys2Proof.Machine.execJnlStatusGet m s
  | .jnlParamWrite m => Sys2Proof.Machine.execJnlParamWrite m s
  | .jnlParamRead m => Sys2Proof.Machine.execJnlParamRead m s
  | .jnlCompact m => Sys2Proof.Machine.execJnlCompact m s
  | .btWrite m => Sys2Proof.Machine.execBtWrite m s
  | .btRead m => Sys2Proof.Machine.execBtRead m s
  | .wearReset m => Sys2Proof.Machine.execWearReset m s
  | .perfConfig m => Sys2Proof.Machine.execPerfConfig m s
  | .perfRead m => Sys2Proof.Machine.execPerfRead m s
  | .powerOnRelease => Sys2Proof.Machine.execPowerOnRelease s
  | .railSoftStartComplete => Sys2Proof.Machine.execRailSoftStartComplete s
  | .powerFailWarning => Sys2Proof.Machine.execPowerFailWarning s
  | .powerFailCommitDone recovered => Sys2Proof.Machine.execPowerFailCommitDone recovered s
  | .brownoutReset => Sys2Proof.Machine.execBrownoutReset s
  | .overvoltage => Sys2Proof.Machine.execOvervoltage s
  | .senseMismatch => Sys2Proof.Machine.execSenseMismatch s
  | .railOutOfBand rail => Sys2Proof.Machine.execRailOutOfBand rail s
  | .stateTransitionComplete => Sys2Proof.Machine.execStateTransitionComplete s
  | .parkQuietSettle => Sys2Proof.Machine.execParkQuietSettle s
  | .domainSettled d => Sys2Proof.Machine.execDomainSettled d s
  | .cloveWarmSet => Sys2Proof.Machine.execCloveWarmSet s
  | .cloveWarmClear => Sys2Proof.Machine.execCloveWarmClear s
  | .timingPllLock => Sys2Proof.Machine.execTimingPllLock s
  | .timingPllLoss => Sys2Proof.Machine.execTimingPllLoss s
  | .treeDeskewStep r later => Sys2Proof.Machine.execTreeDeskewStep r later s
  | .regionTreeLost r => Sys2Proof.Machine.execRegionTreeLost r s
  | .referenceCheckWindow island reference => Sys2Proof.Machine.execReferenceCheckWindow island reference s
  | .gptpMessage p g => Sys2Proof.Machine.execGptpMessage p g s
  | .ppsInEdge => Sys2Proof.Machine.execPpsInEdge s
  | .fitTimeout => Sys2Proof.Machine.execFitTimeout s
  | .ppsOutEdge => Sys2Proof.Machine.execPpsOutEdge s
  | .ppsOutWidthEnd => Sys2Proof.Machine.execPpsOutWidthEnd s
  | .sampleTick xs => Sys2Proof.Machine.execSampleTick xs s
  | .detectionForcedClose c => Sys2Proof.Machine.execDetectionForcedClose c s
  | .baselineOverride c => Sys2Proof.Machine.execBaselineOverride c s
  | .trackerHoldEnd c => Sys2Proof.Machine.execTrackerHoldEnd c s
  | .frontEndSettled b => Sys2Proof.Machine.execFrontEndSettled b s
  | .listenWindowClose c fire => Sys2Proof.Machine.execListenWindowClose c fire s
  | .subPulseSearchEnd c fire => Sys2Proof.Machine.execSubPulseSearchEnd c fire s
  | .permittedInstant c => Sys2Proof.Machine.execPermittedInstant c s
  | .gainChangeComplete c => Sys2Proof.Machine.execGainChangeComplete c s
  | .inputBiasChange c => Sys2Proof.Machine.execInputBiasChange c s
  | .overloadRecoveryEnd c => Sys2Proof.Machine.execOverloadRecoveryEnd c s
  | .interleaveEstimatorStep c dOffA dOffB dGainA dGainB dSkew resO resG resS => Sys2Proof.Machine.execInterleaveEstimatorStep c dOffA dOffB dGainA dGainB dSkew resO resG resS s
  | .interleaveMismatch c => Sys2Proof.Machine.execInterleaveMismatch c s
  | .stuckConverter c => Sys2Proof.Machine.execStuckConverter c s
  | .biasDcEvaluation c avg limit => Sys2Proof.Machine.execBiasDcEvaluation c avg limit s
  | .capacitanceMeasurementStart c => Sys2Proof.Machine.execCapacitanceMeasurementStart c s
  | .capacitanceMeasurementEnd c tenthPf => Sys2Proof.Machine.execCapacitanceMeasurementEnd c tenthPf s
  | .biasTestInterval c => Sys2Proof.Machine.execBiasTestInterval c s
  | .cqCaptureStart => Sys2Proof.Machine.execCqCaptureStart s
  | .cqEntryClose taken => Sys2Proof.Machine.execCqEntryClose taken s
  | .cqCaptureEnd => Sys2Proof.Machine.execCqCaptureEnd s
  | .timingComparatorCrossing c q => Sys2Proof.Machine.execTimingComparatorCrossing c q s
  | .tacRefinement c => Sys2Proof.Machine.execTacRefinement c s
  | .codeCorrelation c => Sys2Proof.Machine.execCodeCorrelation c s
  | .coincidenceTest b => Sys2Proof.Machine.execCoincidenceTest b s
  | .blockMergerGrant b => Sys2Proof.Machine.execBlockMergerGrant b s
  | .regionFifoGrant r => Sys2Proof.Machine.execRegionFifoGrant r s
  | .fadeComplete c => Sys2Proof.Machine.execFadeComplete c s
  | .noReturnRecord c fire => Sys2Proof.Machine.execNoReturnRecord c fire s
  | .frameLatchTick => Sys2Proof.Machine.execFrameLatchTick s
  | .frameBoundary => Sys2Proof.Machine.execFrameBoundary s
  | .firstFrameStart => Sys2Proof.Machine.execFirstFrameStart s
  | .scheduleReadAhead => Sys2Proof.Machine.execScheduleReadAhead s
  | .blankingStart => Sys2Proof.Machine.execBlankingStart s
  | .patternTransfer => Sys2Proof.Machine.execPatternTransfer s
  | .shotFire => Sys2Proof.Machine.execShotFire s
  | .diagnosisStrobe sns emv => Sys2Proof.Machine.execDiagnosisStrobe sns emv s
  | .heatDecay => Sys2Proof.Machine.execHeatDecay s
  | .emissionInhibitArrival => Sys2Proof.Machine.execEmissionInhibitArrival s
  | .shotAnglesReport fire => Sys2Proof.Machine.execShotAnglesReport fire s
  | .shotRecordEnqueue => Sys2Proof.Machine.execShotRecordEnqueue s
  | .frameRecordEnqueue => Sys2Proof.Machine.execFrameRecordEnqueue s
  | .segmentCaptureEnd c => Sys2Proof.Machine.execSegmentCaptureEnd c s
  | .segmentDrained c => Sys2Proof.Machine.execSegmentDrained c s
  | .histogramGroupClose c => Sys2Proof.Machine.execHistogramGroupClose c s
  | .histogramBankSwap b => Sys2Proof.Machine.execHistogramBankSwap b s
  | .histogramReadoutComplete b => Sys2Proof.Machine.execHistogramReadoutComplete b s
  | .memoryTrainingComplete ch ok temp => Sys2Proof.Machine.execMemoryTrainingComplete ch ok temp s
  | .strobeDriftTrack ch => Sys2Proof.Machine.execStrobeDriftTrack ch s
  | .memoryRetrain ch temp ok => Sys2Proof.Machine.execMemoryRetrain ch temp ok s
  | .refreshRateRead ch mult hot => Sys2Proof.Machine.execRefreshRateRead ch mult hot s
  | .memoryReadError ch symbols area index => Sys2Proof.Machine.execMemoryReadError ch symbols area index s
  | .writeCrcError e => Sys2Proof.Machine.execWriteCrcError e s
  | .lbPostExpiry => Sys2Proof.Machine.execLbPostExpiry s
  | .lbDumpSegment => Sys2Proof.Machine.execLbDumpSegment s
  | .ladderSample writeFill => Sys2Proof.Machine.execLadderSample writeFill s
  | .sunlitEvaluation c => Sys2Proof.Machine.execSunlitEvaluation c s
  | .provisionalEntry r => Sys2Proof.Machine.execProvisionalEntry r s
  | .provisionalRecordEnqueue r => Sys2Proof.Machine.execProvisionalRecordEnqueue r s
  | .channelShotFinal c fire => Sys2Proof.Machine.execChannelShotFinal c fire s
  | .weatherClassify c fire => Sys2Proof.Machine.execWeatherClassify c fire s
  | .foreignCheck r => Sys2Proof.Machine.execForeignCheck r s
  | .decisionTimeout r => Sys2Proof.Machine.execDecisionTimeout r s
  | .verdictEnqueue => Sys2Proof.Machine.execVerdictEnqueue s
  | .collectorDrain => Sys2Proof.Machine.execCollectorDrain s
  | .foreignStamp => Sys2Proof.Machine.execForeignStamp s
  | .trainGateExpiry j => Sys2Proof.Machine.execTrainGateExpiry j s
  | .trainReport j => Sys2Proof.Machine.execTrainReport j s
  | .mirrorLoopInstant => Sys2Proof.Machine.execMirrorLoopInstant s
  | .spinLoopInstant => Sys2Proof.Machine.execSpinLoopInstant s
  | .handoverRetryExpiry => Sys2Proof.Machine.execHandoverRetryExpiry s
  | .motorLinkResponse w => Sys2Proof.Machine.execMotorLinkResponse w s
  | .encoderEdge e => Sys2Proof.Machine.execEncoderEdge e s
  | .encoderIndex => Sys2Proof.Machine.execEncoderIndex s
  | .injectionEnd => Sys2Proof.Machine.execInjectionEnd s
  | .safeStopCommand => Sys2Proof.Machine.execSafeStopCommand s
  | .brakeReleasedReport => Sys2Proof.Machine.execBrakeReleasedReport s
  | .islandSelfTestComplete ok => Sys2Proof.Machine.execIslandSelfTestComplete ok s
  | .islandChannelCompare agree => Sys2Proof.Machine.execIslandChannelCompare agree s
  | .safetyInputSample a b => Sys2Proof.Machine.execSafetyInputSample a b s
  | .discrepancyFault p => Sys2Proof.Machine.execDiscrepancyFault p s
  | .inhibitWithdraw => Sys2Proof.Machine.execInhibitWithdraw s
  | .testPulse o readHigh => Sys2Proof.Machine.execTestPulse o readHigh s
  | .outputReadbackFault o => Sys2Proof.Machine.execOutputReadbackFault o s
  | .islandEncoderEdge e => Sys2Proof.Machine.execIslandEncoderEdge e s
  | .islandSpeedEvaluation => Sys2Proof.Machine.execIslandSpeedEvaluation s
  | .safeStopTimeLimit => Sys2Proof.Machine.execSafeStopTimeLimit s
  | .subPulseEnergy k ia ib => Sys2Proof.Machine.execSubPulseEnergy k ia ib s
  | .strayPulse ia ib => Sys2Proof.Machine.execStrayPulse ia ib s
  | .energyBucketBoundary => Sys2Proof.Machine.execEnergyBucketBoundary s
  | .subPulseCountCompare => Sys2Proof.Machine.execSubPulseCountCompare s
  | .stateRequest => Sys2Proof.Machine.execStateRequest s
  | .restReportArrival => Sys2Proof.Machine.execRestReportArrival s
  | .brakeReleaseDelay => Sys2Proof.Machine.execBrakeReleaseDelay s
  | .brakeFeedbackChange chB high => Sys2Proof.Machine.execBrakeFeedbackChange chB high s
  | .brakeFeedbackFault chB => Sys2Proof.Machine.execBrakeFeedbackFault chB s
  | .brakeTestPhaseEnd => Sys2Proof.Machine.execBrakeTestPhaseEnd s
  | .brakeTestDue => Sys2Proof.Machine.execBrakeTestDue s
  | .stopReportArrival => Sys2Proof.Machine.execStopReportArrival s
  | .statusMessagePeriodic => Sys2Proof.Machine.execStatusMessagePeriodic s
  | .statusMessageOnChange => Sys2Proof.Machine.execStatusMessageOnChange s
  | .statusNotTaken => Sys2Proof.Machine.execStatusNotTaken s
  | .messageTimeout => Sys2Proof.Machine.execMessageTimeout s
  | .unmatchedCopyExpiry => Sys2Proof.Machine.execUnmatchedCopyExpiry s
  | .enumerationTimeout => Sys2Proof.Machine.execEnumerationTimeout s
  | .enumOutBurst => Sys2Proof.Machine.execEnumOutBurst s
  | .enumInBurst n => Sys2Proof.Machine.execEnumInBurst n s
  | .triggerWordSend => Sys2Proof.Machine.execTriggerWordSend s
  | .triggerWordReceive payload crc phase => Sys2Proof.Machine.execTriggerWordReceive payload crc phase s
  | .alignmentStep => Sys2Proof.Machine.execAlignmentStep s
  | .frameStartMissing => Sys2Proof.Machine.execFrameStartMissing s
  | .syncMeasureHop a roundTrip r => Sys2Proof.Machine.execSyncMeasureHop a roundTrip r s
  | .laneMarker down lane laneNo addr skew errs inverted => Sys2Proof.Machine.execLaneMarker down lane laneNo addr skew errs inverted s
  | .linkLoss down => Sys2Proof.Machine.execLinkLoss down s
  | .linkDownTimeout down => Sys2Proof.Machine.execLinkDownTimeout down s
  | .stateReportSend => Sys2Proof.Machine.execStateReportSend s
  | .stateReportReceive down rep => Sys2Proof.Machine.execStateReportReceive down rep s
  | .memberTimeout f => Sys2Proof.Machine.execMemberTimeout f s
  | .forwardedDatagram d => Sys2Proof.Machine.execForwardedDatagram d s
  | .forwardedVehicleMsg down p w0 w1 w2 w3 => Sys2Proof.Machine.execForwardedVehicleMsg down p w0 w1 w2 w3 s
  | .ethFrameReceive p f => Sys2Proof.Machine.execEthFrameReceive p f s
  | .addressResolution found => Sys2Proof.Machine.execAddressResolution found s
  | .datagramFlush q => Sys2Proof.Machine.execDatagramFlush q s
  | .portTransmitComplete p => Sys2Proof.Machine.execPortTransmitComplete p s
  | .portLinkUp p => Sys2Proof.Machine.execPortLinkUp p s
  | .portLinkDown p => Sys2Proof.Machine.execPortLinkDown p s
  | .hkCycleStart => Sys2Proof.Machine.execHkCycleStart s
  | .hkSyncEdge => Sys2Proof.Machine.execHkSyncEdge s
  | .hkSlotSettled => Sys2Proof.Machine.execHkSlotSettled s
  | .openInputTrip => Sys2Proof.Machine.execOpenInputTrip s
  | .hkConversionEnd v sync => Sys2Proof.Machine.execHkConversionEnd v sync s
  | .caSample code => Sys2Proof.Machine.execCaSample code s
  | .caReset => Sys2Proof.Machine.execCaReset s
  | .caOverrangeReset => Sys2Proof.Machine.execCaOverrangeReset s
  | .temperatureReading ts => Sys2Proof.Machine.execTemperatureReading ts s
  | .thermalOffTimeout => Sys2Proof.Machine.execThermalOffTimeout s
  | .thermalReport => Sys2Proof.Machine.execThermalReport s
  | .calPartStart => Sys2Proof.Machine.execCalPartStart s
  | .calPassComplete ms mv => Sys2Proof.Machine.execCalPassComplete ms mv s
  | .calValuesInUse => Sys2Proof.Machine.execCalValuesInUse s
  | .calNoReference => Sys2Proof.Machine.execCalNoReference s
  | .calHkPartComplete vs => Sys2Proof.Machine.execCalHkPartComplete vs s
  | .calStaleHours c => Sys2Proof.Machine.execCalStaleHours c s
  | .journalPageProgrammed ok => Sys2Proof.Machine.execJournalPageProgrammed ok s
  | .snapshotPage ok => Sys2Proof.Machine.execSnapshotPage ok s
  | .blockEraseComplete ok => Sys2Proof.Machine.execBlockEraseComplete ok s
  | .wearTransaction => Sys2Proof.Machine.execWearTransaction s
  | .patrolScrub ch corrected endOfPass => Sys2Proof.Machine.execPatrolScrub ch corrected endOfPass s
  | .sramScrub corrected bad => Sys2Proof.Machine.execSramScrub corrected bad s
  | .regionMemoryScrub r corrected bad => Sys2Proof.Machine.execRegionMemoryScrub r corrected bad s
  | .fuseShadowCompare f inst seen genOk => Sys2Proof.Machine.execFuseShadowCompare f inst seen genOk s
  | .sramSingleBit b => Sys2Proof.Machine.execSramSingleBit b s
  | .blockError b parity => Sys2Proof.Machine.execBlockError b parity s
  | .blockRestartComplete b => Sys2Proof.Machine.execBlockRestartComplete b s
  | .regionError r tree => Sys2Proof.Machine.execRegionError r tree s
  | .regionWatchdog r => Sys2Proof.Machine.execRegionWatchdog r s
  | .regionRestartComplete r trained => Sys2Proof.Machine.execRegionRestartComplete r trained s
  | .regionRestartTimeout r => Sys2Proof.Machine.execRegionRestartTimeout r s
  | .fabricFatalError => Sys2Proof.Machine.execFabricFatalError s
  | .pinReset => Sys2Proof.Machine.execPinReset s
  | .devResetStart => Sys2Proof.Machine.execDevResetStart s
  | .warmResetAssert => Sys2Proof.Machine.execWarmResetAssert s
  | .resetRelease supplyFault => Sys2Proof.Machine.execResetRelease supplyFault s
  | .bootSlotCheck => Sys2Proof.Machine.execBootSlotCheck s
  | .firmwareStart => Sys2Proof.Machine.execFirmwareStart s
  | .bootReady => Sys2Proof.Machine.execBootReady s
  | .watchdogExpiry core copyOk => Sys2Proof.Machine.execWatchdogExpiry core copyOk s
  | .firmwareRestart => Sys2Proof.Machine.execFirmwareRestart s
  | .railRampDownComplete => Sys2Proof.Machine.execRailRampDownComplete s
  | .gptpTransmitInterval p t => Sys2Proof.Machine.execGptpTransmitInterval p t s
  | .routerLifetimeExpiry p router => Sys2Proof.Machine.execRouterLifetimeExpiry p router s
  | .chainRefInClock => Sys2Proof.Machine.execChainRefInClock s
  | .mapperCopyReceive tick f0 a b slew ppb status fit => Sys2Proof.Machine.execMapperCopyReceive tick f0 a b slew ppb status fit s
  | .bankImageCheckComplete => Sys2Proof.Machine.execBankImageCheckComplete s
  | .fuseProgramComplete value check marker => Sys2Proof.Machine.execFuseProgramComplete value check marker s

end Sys2Proof.Machine
end

