-- ==== Sys2Proof/Safety.lean ====
section
/-! DEFINITION. The terms that statements are made in: when a placed Skeic message is executed, what a change that writes
class P answers, when an arriving message passes the tests of R453, and what a safe outcome is. -/
namespace Sys2Proof.Machine

/-- A command ends in a next state: no host error stops the block. -/
def Completes (o : Out) : Prop := ∃ t, o = .next t

/-- The mailbox and opcode of a Skeic command; none for every other row of the opcode table. -/
def cmdOp (i : Instr) : Option (Fin 64 × Nat) :=
  match i with
  | .skeicMessageArrival _ => none
  | .forwardedMessageArrival _ _ => none
  | .responseHandoff _ => none
  | .sessionPendingExpiry _ => none
  | .sessionIdleExpiry _ => none
  | .wakeFrame _ _ _ => none
  | .wakeAuthentication => none
  | .spMbxAddrWrite _ => none
  | .spMbxDataAccess _ _ => none
  | .spRingWrite _ => none
  | .spDoorbellWrite _ _ => none
  | .spBootRecoveryStart => none
  | .spBootRecoveryEnd => none
  | .spRegisterWrite _ _ => none
  | .idGet m => some (m, 0x0101)
  | .sesOpen m => some (m, 0x0102)
  | .sesClose m => some (m, 0x0103)
  | .sesStatus m => some (m, 0x0104)
  | .mbxStatus m => some (m, 0x0105)
  | .echo m => some (m, 0x0106)
  | .devReset m => some (m, 0x0107)
  | .skeParamWrite m => some (m, 0x0108)
  | .skeParamRead m => some (m, 0x0109)
  | .fwStatusGet m => some (m, 0x010A)
  | .fwErase m => some (m, 0x010B)
  | .fwEraseComplete => none
  | .fwImageWrite m => some (m, 0x010C)
  | .fwImageCheck m => some (m, 0x010D)
  | .fwBootSelect m => some (m, 0x010E)
  | .pwrStateGet m _ _ => some (m, 0x0201)
  | .pwrStateSet m => some (m, 0x0202)
  | .pwrDomainSet m => some (m, 0x0203)
  | .pwrDomainGet m => some (m, 0x0204)
  | .pwrRailRead m _ _ => some (m, 0x0205)
  | .pwrParamWrite m => some (m, 0x0206)
  | .pwrParamRead m => some (m, 0x0207)
  | .tbStatusGet m _ => some (m, 0x0301)
  | .tbTimeGet m => some (m, 0x0302)
  | .tbFitGet m => some (m, 0x0303)
  | .tbTimeSet m => some (m, 0x0304)
  | .tbParamWrite m => some (m, 0x0305)
  | .tbParamRead m => some (m, 0x0306)
  | .feStatusGet m => some (m, 0x0401)
  | .feParamWrite m => some (m, 0x0402)
  | .feParamRead m => some (m, 0x0403)
  | .feBiasTest m => some (m, 0x0404)
  | .biasTestTimeout => none
  | .feQuarantineClear m => some (m, 0x0405)
  | .feInterleaveGet m => some (m, 0x0406)
  | .feInterleaveSave m => some (m, 0x0407)
  | .feCqStart m => some (m, 0x0408)
  | .feCqStop m => some (m, 0x0409)
  | .feCqStatus m => some (m, 0x040A)
  | .detStatusGet m => some (m, 0x0501)
  | .detParamWrite m => some (m, 0x0502)
  | .detParamRead m => some (m, 0x0503)
  | .detCoefLoad m => some (m, 0x0504)
  | .detCoefGet m => some (m, 0x0505)
  | .detCoincSet m => some (m, 0x0506)
  | .detCoincGet m => some (m, 0x0507)
  | .detTimingTableLoad m => some (m, 0x0508)
  | .detTimingTableGet m => some (m, 0x0509)
  | .shotStatusGet m => some (m, 0x0601)
  | .shotParamWrite m => some (m, 0x0602)
  | .shotParamRead m => some (m, 0x0603)
  | .shotBankWrite m => some (m, 0x0604)
  | .shotBankArm m => some (m, 0x0605)
  | .shotBankDisarm m => some (m, 0x0606)
  | .shotSeqStart m => some (m, 0x0607)
  | .shotSeqStop m => some (m, 0x0608)
  | .shotEmitterGet m => some (m, 0x0609)
  | .shotEmitterSet m => some (m, 0x060A)
  | .shotProofRun m => some (m, 0x060B)
  | .proofRunTimeout => none
  | .capStatusGet m => some (m, 0x0701)
  | .capParamWrite m => some (m, 0x0702)
  | .capParamRead m => some (m, 0x0703)
  | .capProfileSet m => some (m, 0x0704)
  | .capProfileGet m => some (m, 0x0705)
  | .memStatusGet m => some (m, 0x0706)
  | .lbFreeze m => some (m, 0x0707)
  | .lbRelease m => some (m, 0x0708)
  | .lbDump m => some (m, 0x0709)
  | .rejStatusGet m => some (m, 0x0801)
  | .rejParamWrite m => some (m, 0x0802)
  | .rejParamRead m => some (m, 0x0803)
  | .rejTrainList m => some (m, 0x0804)
  | .rejTrainDrop m => some (m, 0x0805)
  | .mcStatusGet m => some (m, 0x0901)
  | .mcParamWrite m => some (m, 0x0902)
  | .mcParamRead m => some (m, 0x0903)
  | .mcInjectStart m => some (m, 0x0904)
  | .mcInjectStop m => some (m, 0x0905)
  | .mcCaptureRead m => some (m, 0x0906)
  | .mcAxisRestart m => some (m, 0x0907)
  | .safStatusGet m => some (m, 0x0A01)
  | .safParamWrite m => some (m, 0x0A02)
  | .safParamRead m => some (m, 0x0A03)
  | .safParamCommit m => some (m, 0x0A04)
  | .safAck m _ => some (m, 0x0A05)
  | .safBrakeTest m => some (m, 0x0A06)
  | .safEnergyGet m => some (m, 0x0A07)
  | .safVehicleMsg _ _ _ _ _ => none
  | .ethStatusGet m => some (m, 0x0B01)
  | .ethParamWrite m => some (m, 0x0B02)
  | .ethParamRead m => some (m, 0x0B03)
  | .ethDestSet m => some (m, 0x0B04)
  | .ethDestGet m => some (m, 0x0B05)
  | .ethQBind m => some (m, 0x0B06)
  | .ethQGet m => some (m, 0x0B07)
  | .chStatusGet m => some (m, 0x0C01)
  | .chParamWrite m => some (m, 0x0C02)
  | .chParamRead m => some (m, 0x0C03)
  | .chSyncMeasure m => some (m, 0x0C04)
  | .chLinkGet m => some (m, 0x0C05)
  | .hkStatusGet m _ => some (m, 0x0D01)
  | .hkParamWrite m => some (m, 0x0D02)
  | .hkParamRead m => some (m, 0x0D03)
  | .hkSlotSet m => some (m, 0x0D04)
  | .hkSlotGet m => some (m, 0x0D05)
  | .hkCurveLoad m => some (m, 0x0D06)
  | .hkResultGet m => some (m, 0x0D07)
  | .thermStatusGet m => some (m, 0x0D08)
  | .calStatusGet m _ _ _ => some (m, 0x0E01)
  | .calParamWrite m => some (m, 0x0E02)
  | .calParamRead m => some (m, 0x0E03)
  | .calRun m => some (m, 0x0E04)
  | .calAbort m => some (m, 0x0E05)
  | .calChannelGet m => some (m, 0x0E06)
  | .fuseRead m => some (m, 0x0E07)
  | .fuseProgram m => some (m, 0x0E08)
  | .jnlStatusGet m => some (m, 0x0F01)
  | .jnlParamWrite m => some (m, 0x0F02)
  | .jnlParamRead m => some (m, 0x0F03)
  | .jnlCompact m => some (m, 0x0F04)
  | .btWrite m => some (m, 0x0F05)
  | .btRead m => some (m, 0x0F06)
  | .wearReset m => some (m, 0x0F07)
  | .perfConfig m => some (m, 0x0F08)
  | .perfRead m => some (m, 0x0F09)
  | .powerOnRelease => none
  | .railSoftStartComplete => none
  | .powerFailWarning => none
  | .powerFailCommitDone _ => none
  | .brownoutReset => none
  | .overvoltage => none
  | .senseMismatch => none
  | .railOutOfBand _ => none
  | .stateTransitionComplete => none
  | .parkQuietSettle => none
  | .domainSettled _ => none
  | .cloveWarmSet => none
  | .cloveWarmClear => none
  | .timingPllLock => none
  | .timingPllLoss => none
  | .treeDeskewStep _ _ => none
  | .regionTreeLost _ => none
  | .referenceCheckWindow _ _ => none
  | .gptpMessage _ _ => none
  | .ppsInEdge => none
  | .fitTimeout => none
  | .ppsOutEdge => none
  | .ppsOutWidthEnd => none
  | .sampleTick _ => none
  | .detectionForcedClose _ => none
  | .baselineOverride _ => none
  | .trackerHoldEnd _ => none
  | .frontEndSettled _ => none
  | .listenWindowClose _ _ => none
  | .subPulseSearchEnd _ _ => none
  | .permittedInstant _ => none
  | .gainChangeComplete _ => none
  | .inputBiasChange _ => none
  | .overloadRecoveryEnd _ => none
  | .interleaveEstimatorStep _ _ _ _ _ _ _ _ _ => none
  | .interleaveMismatch _ => none
  | .stuckConverter _ => none
  | .biasDcEvaluation _ _ _ => none
  | .capacitanceMeasurementStart _ => none
  | .capacitanceMeasurementEnd _ _ => none
  | .biasTestInterval _ => none
  | .cqCaptureStart => none
  | .cqEntryClose _ => none
  | .cqCaptureEnd => none
  | .timingComparatorCrossing _ _ => none
  | .tacRefinement _ => none
  | .codeCorrelation _ => none
  | .coincidenceTest _ => none
  | .blockMergerGrant _ => none
  | .regionFifoGrant _ => none
  | .fadeComplete _ => none
  | .noReturnRecord _ _ => none
  | .frameLatchTick => none
  | .frameBoundary => none
  | .firstFrameStart => none
  | .scheduleReadAhead => none
  | .blankingStart => none
  | .patternTransfer => none
  | .shotFire => none
  | .diagnosisStrobe _ _ => none
  | .heatDecay => none
  | .emissionInhibitArrival => none
  | .shotAnglesReport _ => none
  | .shotRecordEnqueue => none
  | .frameRecordEnqueue => none
  | .segmentCaptureEnd _ => none
  | .segmentDrained _ => none
  | .histogramGroupClose _ => none
  | .histogramBankSwap _ => none
  | .histogramReadoutComplete _ => none
  | .memoryTrainingComplete _ _ _ => none
  | .strobeDriftTrack _ => none
  | .memoryRetrain _ _ _ => none
  | .refreshRateRead _ _ _ => none
  | .memoryReadError _ _ _ _ => none
  | .writeCrcError _ => none
  | .lbPostExpiry => none
  | .lbDumpSegment => none
  | .ladderSample _ => none
  | .sunlitEvaluation _ => none
  | .provisionalEntry _ => none
  | .provisionalRecordEnqueue _ => none
  | .channelShotFinal _ _ => none
  | .weatherClassify _ _ => none
  | .foreignCheck _ => none
  | .decisionTimeout _ => none
  | .verdictEnqueue => none
  | .collectorDrain => none
  | .foreignStamp => none
  | .trainGateExpiry _ => none
  | .trainReport _ => none
  | .mirrorLoopInstant => none
  | .spinLoopInstant => none
  | .handoverRetryExpiry => none
  | .motorLinkResponse _ => none
  | .encoderEdge _ => none
  | .encoderIndex => none
  | .injectionEnd => none
  | .safeStopCommand => none
  | .brakeReleasedReport => none
  | .islandSelfTestComplete _ => none
  | .islandChannelCompare _ => none
  | .safetyInputSample _ _ => none
  | .discrepancyFault _ => none
  | .inhibitWithdraw => none
  | .testPulse _ _ => none
  | .outputReadbackFault _ => none
  | .islandEncoderEdge _ => none
  | .islandSpeedEvaluation => none
  | .safeStopTimeLimit => none
  | .subPulseEnergy _ _ _ => none
  | .strayPulse _ _ => none
  | .energyBucketBoundary => none
  | .subPulseCountCompare => none
  | .stateRequest => none
  | .restReportArrival => none
  | .brakeReleaseDelay => none
  | .brakeFeedbackChange _ _ => none
  | .brakeFeedbackFault _ => none
  | .brakeTestPhaseEnd => none
  | .brakeTestDue => none
  | .stopReportArrival => none
  | .statusMessagePeriodic => none
  | .statusMessageOnChange => none
  | .statusNotTaken => none
  | .messageTimeout => none
  | .unmatchedCopyExpiry => none
  | .enumerationTimeout => none
  | .enumOutBurst => none
  | .enumInBurst _ => none
  | .triggerWordSend => none
  | .triggerWordReceive _ _ _ => none
  | .alignmentStep => none
  | .frameStartMissing => none
  | .syncMeasureHop _ _ _ => none
  | .laneMarker _ _ _ _ _ _ _ => none
  | .linkLoss _ => none
  | .linkDownTimeout _ => none
  | .stateReportSend => none
  | .stateReportReceive _ _ => none
  | .memberTimeout _ => none
  | .forwardedDatagram _ => none
  | .forwardedVehicleMsg _ _ _ _ _ _ => none
  | .ethFrameReceive _ _ => none
  | .addressResolution _ => none
  | .datagramFlush _ => none
  | .portTransmitComplete _ => none
  | .portLinkUp _ => none
  | .portLinkDown _ => none
  | .hkCycleStart => none
  | .hkSyncEdge => none
  | .hkSlotSettled => none
  | .openInputTrip => none
  | .hkConversionEnd _ _ => none
  | .caSample _ => none
  | .caReset => none
  | .caOverrangeReset => none
  | .temperatureReading _ => none
  | .thermalOffTimeout => none
  | .thermalReport => none
  | .calPartStart => none
  | .calPassComplete _ _ => none
  | .calValuesInUse => none
  | .calNoReference => none
  | .calHkPartComplete _ => none
  | .calStaleHours _ => none
  | .journalPageProgrammed _ => none
  | .snapshotPage _ => none
  | .blockEraseComplete _ => none
  | .wearTransaction => none
  | .patrolScrub _ _ _ => none
  | .sramScrub _ _ => none
  | .regionMemoryScrub _ _ _ => none
  | .fuseShadowCompare _ _ _ _ => none
  | .sramSingleBit _ => none
  | .blockError _ _ => none
  | .blockRestartComplete _ => none
  | .regionError _ _ => none
  | .regionWatchdog _ => none
  | .regionRestartComplete _ _ => none
  | .regionRestartTimeout _ => none
  | .fabricFatalError => none
  | .pinReset => none
  | .devResetStart => none
  | .warmResetAssert => none
  | .resetRelease _ => none
  | .bootSlotCheck => none
  | .firmwareStart => none
  | .bootReady => none
  | .watchdogExpiry _ _ => none
  | .firmwareRestart => none
  | .railRampDownComplete => none
  | .gptpTransmitInterval _ _ => none
  | .routerLifetimeExpiry _ _ => none
  | .chainRefInClock => none
  | .mapperCopyReceive _ _ _ _ _ _ _ _ => none
  | .bankImageCheckComplete => none
  | .fuseProgramComplete _ _ _ => none

/-- Mailbox m holds a placed message with this opcode, and its turn has come: no earlier change of its subject waits
(R471), the safe state does not turn it away (R624), and its role may issue it (R463). -/
def State.turn (s : State) (m : Fin 64) (op : Nat) : Prop :=
  s.holds m op = true ∧ (isQuery op = false → s.behind m = false ∧ (s.pwr.safe = true → op = 0x0107)) ∧
    (serviceOnly op = true → (s.mbx m).service = true)

/-- The turn of a change that writes class P: no journal transaction is in progress (R581). -/
def State.turnP (s : State) (m : Fin 64) (op : Nat) : Prop := s.turn m op ∧ s.jnl.txn = none

/-- An arriving datagram comes where the device reads its ports, passes steps 1 to 6 of R453, is for this device, and its header is that of a command. -/
def State.arrives (s : State) (d : Arrival) : Prop :=
  let ws := bytesWords d.bytes
  let n := (wd ws 2).fld 3 0
  s.pwr.dev ≠ .sleep ∧ s.pwr.dev ≠ .off ∧ s.boot.phase ≠ 2 ∧ s.boot.stage = 4 ∧ leNat (d.bytes.take 2) ≠ 0x0A20 ∧ (wd ws 0).fld 15 0 ≠ 0x0A20 ∧
    16 ≤ d.bytes.length ∧ d.bytes.length ≤ 4096 ∧ d.bytes.length = wantedBytes ws false ∧
    (n ≠ 0 → n ≤ 8 ∧ (s.sess n).st ≠ 0 ∧ s.sesDue n = false) ∧ macOk (s.keyOf ws false) ws = true ∧ s.seqOk ws false = true ∧
    (n = 0 → session0Ok ((wd ws 0).fld 15 0) false = true) ∧ (wd ws 0).fld 24 22 = s.addr ∧ headerOk ws = true

/-- Every entry of a stopped converter-queue capture that fills up goes on being filled (R146, R149). -/
def State.cqAlive (s : State) : Prop :=
  ∀ h ∈ s.cq.closing, s.muted h.e.ch = false ∧ s.blockUp (h.e.ch / 16) = true

/-- A change of the mapper made now takes effect at this tick: no change waits for a later one, and no device downstream has to
get it first (R89, R500). -/
def State.mapsHere (s : State) : Prop := s.tb.copies = [] ∧ (s.enum.cond = true → s.ch.down.st ≠ 2)

/-- A count of the reference cross-check that is within 2 % of the nominal 5,000 (R86). -/
def RefCountOk (n : Nat) : Prop := 4900 ≤ n ∧ n ≤ 5100

/-- Every domain that is on in the mask has its parent on in it (R41): block analogue under block digital, block digital under
its region controller, region controller under the point collector, look-back recorder under some memory channel. -/
def Parented (m : BitVec 96) : Prop :=
  (∀ b, b < 32 → m.getLsbD b = true → m.getLsbD (32 + b) = true) ∧
  (∀ b, b < 32 → m.getLsbD (32 + b) = true → m.getLsbD (64 + b / 4) = true) ∧
  (∀ r, r < 8 → m.getLsbD (64 + r) = true → m.getLsbD 95 = true) ∧
  (m.getLsbD 94 = true → ∃ n, n < 8 ∧ m.getLsbD (72 + n) = true)

/-- Records of the domain configuration hold only configurations with every parent on (R41). -/
def RecsParented (recs : List JItem) : Prop := ∀ d, JItem.dom d ∈ recs → Parented d

/-- What every step keeps: a domain is on, or configured on, only with its parent (R41), in the working copy, in what the
journal holds and in its records, those of the transaction and the snapshot in progress too; and an island with a fault holds
its six outputs low and emission inhibited (R368). -/
structure State.Inv (s : State) : Prop where
  on : Parented s.pwr.on
  dom : Parented s.p.dom
  held : Parented s.jnl.held.dom
  log : ∀ e ∈ s.jnl.log, RecsParented e.recs
  txn : ∀ x, s.jnl.txn = some x → RecsParented x.recs
  comp : ∀ c, s.jnl.comp = some c → RecsParented c.recs
  island : s.isl.fault = true → s.isl.out = 0 ∧ s.isl.inhibit = true

end Sys2Proof.Machine
end

