-- ==== Sys2Proof/Certificates/Slice0/Obligations.lean ====
section
/-! DEFINITION. The statements about the CR-9620 model for the provers. Each docstring names the rules of spec/ that its
statement rests on; "log n" names the row of notes/assumptions for a clause that is the model's choice. A clause that
answers a next state says on which state and operands the command completes, and with what effect. -/

open Sys2Proof Sys2Proof.Machine

/-- Errors of a block and of a region (R22 to R25, R29 to R32, R594). A block error in a powered block that is not held off,
whose region neither restarts nor is disabled, and outside the safe state: the block restarts, its undelivered returns and
histograms are gone, the returns it delivered toward the region stay, no other block changes; the fourth within 1 s holds it
off. A condition of the region table starts a region restart: returns of its engine that have not entered the collector, with
those on their way to it, are marked for RETRACT cause 5 (one retracted before keeps its cause), and the ones that have no
record and will have none are settled; those that entered stay; after two failed restarts in a row the region is disabled. At
the completion the region resumes, without segment capture when its channel did not train; a restart that reaches 250 µs
fails. -/
def Obligations.BlockAndRegionRestartsRun : Prop :=
  ∀ (s : State),
    (∀ b : Fin 32, ∃ t : State, exec (.sramSingleBit b) s = .next t ∧ (t.blk b).corr = (s.blk b).corr + 1 ∧
      (t.blk b).restart = (s.blk b).restart ∧ (∀ k, k ≠ b.val → t.blk k = s.blk k) ∧
      t = { s with blocks := t.blocks, obs := t.obs }) ∧
    (∀ (b : Fin 32) (parity : Bool), s.dom (32 + b) = true → (s.reg (b / 4)).restart = false →
      (s.reg (b / 4)).disabled = false → s.pwr.safe = false → (s.blk b).held = false →
      ∃ t : State, exec (.blockError b parity) s = .next t ∧ (t.blk b).errs = (s.blk b).errs + 1 ∧ (t.blk b).rets = [] ∧
        (t.blk b).acc = [] ∧ (t.blk b).rd = [] ∧ (t.blk b).out = (s.blk b).out ∧
        (∀ k, k ≠ b.val → t.blk k = s.blk k) ∧
        (((s.blk b).starts.filter (fun x => decide (s.tb.tick < x + 1600000000))).length < 3 →
          (t.blk b).restart = true ∧ (t.blk b).held = false) ∧
        (3 ≤ ((s.blk b).starts.filter (fun x => decide (s.tb.tick < x + 1600000000))).length →
          (t.blk b).restart = false ∧ (t.blk b).held = true)) ∧
    (∀ b : Fin 32, (s.blk b).restart = true → ∃ t : State, exec (.blockRestartComplete b) s = .next t ∧
      (t.blk b).restart = false ∧ (∀ k, k ≠ b.val → t.blk k = s.blk k) ∧ t = { s with blocks := t.blocks }) ∧
    (∀ (r : Fin 8) (c : Instr), (∃ tree, c = .regionError r tree) ∨ c = .regionWatchdog r ∨
        (∃ corrected, c = .regionMemoryScrub r corrected true) →
      s.dom (64 + r) = true → (s.reg r).disabled = false → s.pwr.safe = false → (s.reg r).restart = false →
      (s.reg r).fails = 0 → ∃ t : State, exec c s = .next t ∧ (t.reg r).restart = true ∧ (t.reg r).disabled = false ∧
        (t.reg r).errs = (s.reg r).errs + 1 ∧ (t.reg r).fifo = [] ∧ t.isl = s.isl ∧
        (t.reg r).eng = ((s.reg r).eng ++ (s.underway r).map (fun x => ({ r := x, entry := s.tb.tick, conf := x.conf } : Prov))).map
          (fun p => if p.col || p.sent then p
            else
              let d := if p.decided.isNone || p.decided = some 0 then some 5 else p.decided
              if p.rec_ = 2 then { p with decided := d, sent := true } else { p with decided := d }) ∧
        ∀ k, k < 4 → (t.blk (4 * r + k)).rets = [] ∧ (t.blk (4 * r + k)).out = [] ∧
          (t.blk (4 * r + k)).restart = false ∧ (t.blk (4 * r + k)).held = false) ∧
    (∀ (r : Fin 8) (tree : Bool) (n : Nat), s.dom (64 + r) = true → (s.reg r).disabled = false →
      s.pwr.safe = false → (s.reg r).restart = false → (s.reg r).resumed = some n → s.tb.tick ≤ n + 1600000 →
      1 ≤ (s.reg r).fails → ∃ t : State, exec (.regionError r tree) s = .next t ∧ (t.reg r).disabled = true ∧
        (t.reg r).restart = false) ∧
    (∀ (r : Fin 8) (trained : Bool), (s.reg r).restart = true → ∃ t,
      exec (.regionRestartComplete r trained) s = .next t ∧ (t.reg r).restart = false ∧
        (t.reg r).resumed = some s.tb.tick ∧ (t.reg r).noSeg = !trained ∧
        (s.dom (72 + r) = true → (t.memCh r).st = if trained then 0 else 2) ∧ ∀ k, k ≠ r.val → t.reg k = s.reg k) ∧
    (∀ r : Fin 8, (s.reg r).restart = true → ∃ t : State, exec (.regionRestartTimeout r) s = .next t ∧
      (t.reg r).fails = (s.reg r).fails + 1 ∧ (t.reg r).restart = decide ((s.reg r).fails = 0) ∧
      ((s.reg r).fails ≠ 0 → (t.reg r).disabled = true)) ∧
    (∀ corrected, ∃ t : State, exec (.sramScrub corrected false) s = .next t ∧ t = { s with obs := t.obs } ∧
      t.obs.corrections = if corrected then wrap 32 (s.obs.corrections + 1) else s.obs.corrections)

/-- R624, over every Skeic command of the table: in the safe state PWR_STATE_GET reports PARK, a placed change other than
DEV_RESET that waits behind no earlier one is answered with status 02h and nothing but the Skeic state changes, DEV_RESET is
executed, and a placed query is executed as outside the safe state (the safe state is no condition of a query's turn). A
transition that completes in the safe state leaves the device in PARK. -/
def Obligations.SafeStateIsEnteredAndRefusesChanges : Prop :=
  ∀ (s : State), s.pwr.safe = true →
    (∀ (i : Instr) (m : Fin 64) (op : Nat), cmdOp i = some (m, op) → s.holds m op = true → isQuery op = false →
      op ≠ 0x0107 → s.behind m = false → exec i s = .next (s.respond m 2 []) ∧
        s.respond m 2 [] = { s with ske := (s.respond m 2 []).ske }) ∧
    (∀ m : Fin 64, s.holds m 0x0107 = true → s.behind m = false →
      exec (.devReset m) s = .next (({ s with ske := { s.ske with resetDue := true } } : State).respond m 0 [])) ∧
    (∀ (m : Fin 64) (mv ma : Nat), s.holds m 0x0201 = true → exec (.pwrStateGet m mv ma) s = .next (s.respond m 0
      [pack [(2, 3), (match s.pwr.trans with | some t => t.target.code | none => 2, 3), (b2n s.pwr.trans.isSome, 1),
        (b2n s.warm, 1), (b2n s.pwr.failSeen, 1)], pack [(mv, 16), (ma, 16)]])) ∧
    (∀ (m : Fin 64) (op : Nat), isQuery op = true → s.holds m op = true → s.turn m op)

/-- Entry into the safe state (R35, R594, R622, R623): a fabric fatal error, or an uncorrectable error of the chip-level
SRAMs, on a powered device in RUN, QUIET or PARK that is not in the safe state yet. Afterwards the safe state stands with its
cause, no shot may fire, no restart is in progress, FAULT_N is low, the emission enables and the torque-off outputs are low,
and a device that was not at rest in PARK is on its way there. A second chip fault changes nothing. -/
def Obligations.ChipFaultEntersSafeState : Prop :=
  ∀ (s : State) (c : Instr), c = .fabricFatalError ∨ (∃ corrected, c = .sramScrub corrected true) →
    (s.pwr.safe = false → s.pwr.alive = true → s.pwr.good = true → s.boot.phase ≠ 2 → s.pwr.dev ≠ .off →
      s.pwr.dev ≠ .sleep → ∃ t : State, exec c s = .next t ∧ t.pwr.safe = true ∧ t.pwr.safeCause = 1 ∧ t.running = false ∧ t.faultLow = true ∧
        t.pwr.queue = [] ∧ (∀ k, (t.blk k).restart = false) ∧ (∀ k, (t.reg k).restart = false) ∧
        (s.isl.fault = false → t.isl.out &&& 0b110011#6 = 0) ∧
        (s.pwr.dev ≠ .park → t.pwr.dev = s.pwr.dev ∧
          t.pwr.trans = some { next := .park, target := .park, mbx := none })) ∧
    (s.pwr.safe = true → exec .fabricFatalError s = .next s)

/-- Warm resets of chip scope (R486, R606 to R608, R614, R617, R628). The trigger withdraws RUN and puts the memory into
self-refresh; from SLEEP or OFF a pin reset starts the power-up sequence. At the assertion class S, the island (but for a
brake test in progress and the device-event condition), the fuse values in use, the always-on chain state, the firmware
slots, the segment rings and what waits for a power-up sequence (R73) are kept (the frame sequence goes on after a frame that
the reset ends, R209), while cells, blocks, sessions, mailboxes, queues, trains, motion, housekeeping, counters, time base
and run state are at their defaults and every domain but 93 is off. The release starts the boot; a supply fault still present
leads to the safe state again. -/
def Obligations.WarmResetsKeepWhatTheTableSays : Prop :=
  ∀ (s : State),
    (s.pwr.alive = true → s.pwr.failing = false → s.pwr.powerUp = false → s.pwr.good = true →
      s.pwr.dev ≠ .sleep → s.pwr.dev ≠ .off → ∃ t : State, exec .pinReset s = .next t ∧ t.boot.phase = 1 ∧ t.boot.kind = 3 ∧
        t.boot.resetN = true ∧ t.running = false ∧ t.kept = s.kept ∧ t.p = s.p ∧
        ∀ k, k < 8 → (tget {} t.mem k).st = 3) ∧
    (s.pwr.alive = true → s.pwr.failing = false → s.pwr.powerUp = false → (s.pwr.dev = .sleep ∨ s.pwr.dev = .off) →
      ∃ t : State, exec .pinReset s = .next t ∧ t.pwr.powerUp = true ∧ t.boot.kind = 3 ∧ t.boot.stage = 0 ∧
        t.boot.before = s.pwr.dev.code ∧ (s.inFrame = false → t.kept = s.kept)) ∧
    (s.ske.resetDue = true → s.pwr.good = true → s.pwr.failing = false → ∃ t : State, exec .devResetStart s = .next t ∧
      t.boot.phase = 1 ∧ t.boot.kind = 4 ∧ t.running = false ∧ t.kept = s.kept ∧ t.ske.resetDue = false) ∧
    (s.boot.phase = 1 → ∃ t : State, exec .warmResetAssert s = .next t ∧ t.boot.phase = 2 ∧ t.boot.stage = 0 ∧
      t.kept = (if s.inFrame then { s.kept with frame := wrap 32 (s.kept.frame + 1) } else s.kept) ∧ t.enum = s.enum ∧ t.slot = s.slot ∧ t.fuse.shadow = s.fuse.shadow ∧
      t.isl = { s.isl.endTest with event := false } ∧ t.pwr.failSeen = s.pwr.failSeen ∧ t.pwr.warm = s.pwr.warm ∧
      (∀ d, d < 96 → t.dom d = (s.dom d && decide (d = 93))) ∧ t.pwr.dev = .park ∧ t.pwr.safe = false ∧
      t.cells = [] ∧ t.blocks = [] ∧ t.ske = {} ∧ t.eth = {} ∧ t.ch = {} ∧ t.tb = { ppsIn := s.tb.ppsIn } ∧ t.lag = s.railLag ∧ t.est = {} ∧ t.rej = {} ∧
      t.lad = {} ∧ t.look = {} ∧ t.cq = {} ∧ t.hk = {} ∧ t.mc = {} ∧ t.obs = {} ∧
      (s.cal.run.bind (·.part) = none → t.cal = {}) ∧
      (∀ p, s.cal.run.bind (·.part) = some p → t.cal = { res := tset 4 [] p 3 } ∧ (p < 8 → ∀ c : Fin 512, c.val / 64 = p → tget 0 t.p.calSt c = 4)) ∧
      t.seq = { inhibit := s.isl.inhibit } ∧ t.therm = { max_ := s.therm.max_ } ∧ t.memCfg = s.memCfg ∧
      (Tab.sorted s.regions = true → ∀ r, (t.reg r).ring.map (fun g => (g.ch, g.first, g.smp)) = (s.reg r).ring.map (fun g => (g.ch, g.first, g.smp)))) ∧
    (s.boot.phase = 2 → ∃ t : State, exec (.resetRelease false) s = .next t ∧
      t = { s with boot := { s.boot with phase := 0, resetN := false }, fuse := t.fuse, pwr := { s.pwr with band := 0, falling := 0 } } ∧
      t.fuse.gens = s.fuse.gens) ∧
    (s.boot.phase = 2 → s.pwr.alive = true → s.pwr.good = true → s.pwr.safe = false → s.pwr.dev = .park → ∃ t,
      exec (.resetRelease true) s = .next t ∧ t.boot.phase = 0 ∧ t.pwr.safe = true ∧ t.pwr.safeCause = 4)

/-- Boot (R479, R480, R586, R613): the first slot is the trial one of the journal, whose trial is cleared first, or the
preferred one; its check begins, and at the check's end a valid image is loaded, else the other slot is checked, else the
stage is failed. At the firmware's start the class P parameters are those of the journal's replay; only the rails' values
wait for a power-up sequence (R73). Stage 4 serves messages, and the device goes on to PWR_BOOT_STATE. Watchdog (R606, R610
to R612, R620): the cores restart with no session and only the commands placed and not applied, while the device state,
sequencer run state, cells, regions, motion, time base and island outputs stay and a calibration run ends; a bad copy or the
third within 10 s becomes a Skeic device reset; a pending device reset goes first. The restarted firmware serves again. -/
def Obligations.BootAndWatchdogRun : Prop :=
  ∀ (s : State),
    (s.pwr.good = true → s.boot.phase = 0 → s.pwr.failing = false → s.boot.stage = 0 →
      let b := s.jnl.held.boot
      ∃ t : State, exec .bootSlotCheck s = .next t ∧ t.boot.stage = 1 ∧ t.slot = s.slot ∧ t.boot.trying = b.trial ∧
        t.boot.second = false ∧ t.boot.slot = (if b.trial then b.slot else b.pref.getD 0) ∧
        (b.trial = true → t.p.boot.trial = false ∧ (s.jnl.readOnly = false → t.jnl.held.boot = { b with trial := false })) ∧
        (b.trial = false → t = { s with boot := t.boot })) ∧
    (s.pwr.good = true → s.boot.phase = 0 → s.pwr.failing = false → s.boot.stage = 1 →
      let k := s.boot.slot
      ∃ t : State, exec .bootSlotCheck s = .next t ∧ t = { s with boot := t.boot } ∧
        (s.imageCheck k = 0 → t.boot.stage = 2 ∧ t.boot.slot = k ∧ t.boot.fellBack = s.boot.second ∧
          t.boot.trial = (s.boot.trying && !s.boot.second) ∧ t.boot.version = s.slotWord k 3) ∧
        (s.imageCheck k ≠ 0 → s.boot.second = false → t.boot.stage = 1 ∧ t.boot.slot = 1 - k ∧ t.boot.second = true) ∧
        (s.imageCheck k ≠ 0 → s.boot.second = true → t.boot.stage = 5)) ∧
    (s.boot.stage = 2 → ∃ t : State, exec .firmwareStart s = .next t ∧ t.boot.stage = 3 ∧ t.p.par = s.jnl.replay.1.par ∧
      t.lag = s.railLag ∧ t.slot = s.slot) ∧
    (s.boot.stage = 3 → ∃ t : State, exec .bootReady s = .next t ∧ t.boot.stage = 4 ∧ t.ske.serving = true ∧
      t.boot.hold = false ∧ t.boot.held = [] ∧
      (s.val PWR_BOOT_STATE ≠ 1 → t.pwr = s.pwr ∧ t.jnl.held = s.jnl.held ∧ t.jnl.log = s.jnl.log) ∧
      (s.val PWR_BOOT_STATE = 1 → s.pwr.safe = false → s.therm.st ≠ 3 → s.pwr.dev = .park → s.dom 88 = false →
        s.dom 90 = false → s.pwr.leaving = 0 → ∃ x, t.pwr.trans = some x ∧ x.target = .quiet)) ∧
    (∀ core : Fin 4, s.boot.stage = 4 → s.boot.phase = 0 → s.ske.resetDue = false → s.pwr.dev ≠ .sleep →
      s.pwr.dev ≠ .off → (s.boot.dogs.filter (fun x => decide (s.tb.tick < x + 16000000000))).length < 2 →
      ∃ t : State, exec (.watchdogExpiry core true) s = .next t ∧ t.ske.sess = [] ∧ t.ske.serving = false ∧
        t.ske.mbx = s.ske.mbx.filter (fun e => e.2.st == 2) ∧ t.pwr.dev = s.pwr.dev ∧ t.seq.run = s.seq.run ∧
        t.seq.shots = s.seq.shots ∧ t.cells = s.cells ∧ t.blocks = s.blocks ∧ t.regions = s.regions ∧ t.mc = s.mc ∧
        t.tb = s.tb ∧ t.isl.out = s.isl.out ∧ t.cal.run = none ∧ (s.cal.run = none → t.eth = s.eth) ∧ t.boot.phase = 0) ∧
    (∀ core : Fin 4, s.boot.stage = 4 → s.boot.phase = 0 → s.ske.resetDue = false → s.pwr.dev ≠ .sleep →
      s.pwr.dev ≠ .off → s.pwr.good = true → s.pwr.failing = false →
      ∃ t : State, exec (.watchdogExpiry core false) s = .next t ∧ t.boot.phase = 1 ∧ t.boot.kind = 4 ∧ t.boot.detail = 1) ∧
    (∀ (core : Fin 4) (ok : Bool), s.ske.resetDue = true → exec (.watchdogExpiry core ok) s = .next s) ∧
    (s.ske.serving = false → s.boot.stage = 4 → s.boot.dogMask ≠ 0 → ∃ t : State, exec .firmwareRestart s = .next t ∧
      t.ske.serving = true ∧ t.ske.notExecuted = [] ∧ t.boot.dogMask = 0)

/-- The 02xxh commands (R67, R72, R74, R642). PWR_STATE_GET, PWR_DOMAIN_GET and PWR_RAIL_READ answer their tables.
PWR_STATE_SET waits behind a transition in progress, is answered at once in the state it names, and otherwise starts the
transition with its next adjacent state (in thermal state 3 RUN and QUIET are carried out only as far as PARK, R552).
PWR_STATE_SET to SLEEP in a chain is no such command (R503). PWR_DOMAIN_SET applies R42 to the configuration in ascending
domain number and commits it; at the commit the domains follow in the same order in RUN and QUIET, so that domains that
equalled the configuration still equal it (a follower keeps domain 88 off), and in PARK only 80, 81, 89 and 93 may switch;
the response follows. With a read-only journal all this is one step (R587). -/
def Obligations.PowerCommandsComplete : Prop :=
  ∀ (s : State) (m : Fin 64),
    (∀ mv ma, s.turn m 0x0201 → exec (.pwrStateGet m mv ma) s =
      .next (s.respond m 0 [s.stateWord, pack [(mv, 16), (ma, 16)]])) ∧
    (s.turn m 0x0204 → exec (.pwrDomainGet m) s = .next (s.respond m 0
      [w32 s.pwr.on.toNat, w32 (s.pwr.on.toNat >>> 32), w32 (s.pwr.on.toNat >>> 64),
       w32 s.p.dom.toNat, w32 (s.p.dom.toNat >>> 32), w32 (s.p.dom.toNat >>> 64)])) ∧
    (∀ v0 c0 v1 c1 v2 c2 v3 c3 v4 c4 power : Nat, s.turn m 0x0205 →
      exec (.pwrRailRead m [(v0, c0), (v1, c1), (v2, c2), (v3, c3), (v4, c4)] power) s = .next (s.respond m 0
        [pack [(v0, 16), (c0, 16)], pack [(v1, 16), (c1, 16)], pack [(v2, 16), (c2, 16)], pack [(v3, 16), (c3, 16)],
         pack [(v4, 16), (c4, 16)], pack [(power, 16)]])) ∧
    (s.turn m 0x0202 → (s.mbx m).wakeWait = false → (s.pw m 0).toNat ≤ 4 →
      ((s.pw m 0).toNat = 3 → s.follower = false ∧ ∀ e ∈ s.ch.mems, e.2.reach = false) →
      let d := s.allowed (devOf (s.pw m 0).toNat)
      (s.pwr.trans.isSome = true → ∃ t : State, exec (.pwrStateSet m) s = .next t ∧ (t.mbx m).st = 3 ∧
        t = { s with ske := t.ske, pwr := { s.pwr with queue := s.pwr.queue ++ [(d, m.val)] } }) ∧
      (s.pwr.trans = none → s.pwr.dev = d → exec (.pwrStateSet m) s = .next (s.respond m 0 [s.stateWord])) ∧
      (s.pwr.trans = none → s.pwr.dev ≠ d →
        (s.pwr.dev = .park ∨ s.pwr.dev = .sleep → s.dom 88 = false ∧ s.dom 90 = false ∧ s.pwr.leaving = 0) → ∃ t : State, exec (.pwrStateSet m) s = .next t ∧ t.pwr.dev = s.pwr.dev ∧
        ∃ x, t.pwr.trans = some x ∧ x.next = s.pwr.dev.step d ∧ x.target = d)) ∧
    (s.turnP m 0x0203 → (s.pw m 3).fld 31 1 = 0 →
      let ds := (List.range 96).filter (fun d => (s.pw m (d / 32)).bit (d % 32))
      let on := (s.pw m 3).bit 0
      (on = true ∨ ds.contains 84 = false) →
      (on = true ∨ ∀ r, r < 8 → ds.contains (72 + r) = true → s.dom (72 + r) = true →
        ((ds.filter (· < 72)).foldl (fun k d => switchMask k d on) s.pwr.on).getLsbD (64 + r) = false) →
      let dom := ds.foldl (fun k d => switchMask k d on) s.p.dom
      (s.jnl.readOnly = false → ∃ t : State, exec (.pwrDomainSet m) s = .next t ∧ t.p.dom = dom ∧ t.pwr = s.pwr ∧
        (t.mbx m).st = 3 ∧ ∃ x : Txn, t.jnl.txn = some x ∧ x.waiter = .domains m (domMask ds) on s.p.dom) ∧
      (s.jnl.readOnly = true → ∃ t : State, exec (.pwrDomainSet m) s = .next (t.respond m 0 t.domResponse) ∧ t.p.dom = dom ∧
        t = ({ s with p := { s.p with dom := dom } } : State).switchDomains (domMask ds) on s.p.dom)) ∧
    (∀ (x : Txn) (ds : BitVec 96) (on : Bool) (old : BitVec 96), s.jnl.txn = some x → x.left ≤ 1 → x.waiter = .domains m ds on old → ∃ t : State,
      exec (.journalPageProgrammed true) s = .next (((t.respond m 0 t.domResponse).exitAfter x.wear.isSome).nextWake) ∧
        t.p.dom = s.p.dom ∧
        (x.recs = [.dom s.p.dom] → (∀ e ∈ s.jnl.log, e.snap = true ∨ e.seq ≤ x.seq) → t.jnl.held.dom = s.p.dom) ∧
        (s.pwr.dev = .run ∨ s.pwr.dev = .quiet → s.follower = false → t.pwr.on =
          ((List.range 96).filter (fun d => ds.getLsbD d)).foldl (fun k d => switchMask k d on) s.pwr.on) ∧
        (s.pwr.dev = .park → ∀ d, d ≠ 80 → d ≠ 81 → d ≠ 89 → d ≠ 93 → t.dom d = s.dom d))

/-- Supply and state events (R55 to R64, R67, R69, R70, R75, R606, R644; for the clock faults R82, R84, R87): each event that
applies takes its stated effect. Power-on release starts the power-up sequence; each rail is counted and the fifth raises
PWR_GOOD with the heater on. The power-fail warning stops shots, drops enables and torque, switches off domains 0 to 71, 88
and 94 and starts the wear transaction; it ends in a brownout reset. Supply faults enter the safe state. A completed step of
a transition reaches its state and goes on toward the target; SLEEP and OFF leave every safety output low, no domain on and
class V at its defaults. A wake frame on the wake port starts PARK; a message that fails authentication leads back to SLEEP,
a good one is placed, and one with a host error in its header is one (R474). -/
def Obligations.SupplyAndTransitionEventsRun : Prop :=
  ∀ (s : State),
    (s.pwr.alive = false → ∃ t : State, exec .powerOnRelease s = .next t ∧ t.pwr = { s.pwr with alive := true, powerUp := true } ∧
      t = { s with pwr := t.pwr, lag := t.lag }) ∧
    (s.pwr.alive = true → s.pwr.powerUp = true → s.pwr.rails < 4 →
      exec .railSoftStartComplete s = .next { s with pwr := { s.pwr with rails := s.pwr.rails + 1 } }) ∧
    (s.pwr.alive = true → s.pwr.powerUp = true → s.pwr.rails = 4 → ∃ t : State, exec .railSoftStartComplete s = .next t ∧
      t.pwr.good = true ∧ t.pwr.powerUp = false ∧ t.pwr.dev = .park ∧ (∀ d, d < 96 → t.dom d = decide (d = 93)) ∧
      t = { s with pwr := t.pwr, fuse := t.fuse }) ∧
    (s.pwr.alive = true → s.pwr.failing = false → ∃ t : State, exec .powerFailWarning s = .next t ∧ t.pwr.failing = true ∧
      t.pwr.failSeen = true ∧ t.running = false ∧ t.faultLow = true ∧ t.pwr.falling = max 1 s.pwr.falling ∧
      (s.isl.fault = false → t.isl.out &&& 0b110011#6 = 0) ∧
      (∀ d, d < 72 ∨ d = 88 ∨ d = 94 → t.dom d = false) ∧ (∀ k, k < 8 → (tget {} t.mem k).st = 3) ∧
      (s.jnl.readOnly = false → ∃ x, t.jnl.txn = some x ∧ x.powerFail = true ∧ x.wear.isSome = true)) ∧
    (s.pwr.failing = true → ∃ t : State, exec (.powerFailCommitDone true) s = .next t ∧ t.boot.kind = 2 ∧ t.pwr.alive = false ∧
      t.pwrGood = false ∧ t.isl = {} ∧ t.kept = {} ∧ t.cells = [] ∧ t.ske = {} ∧ t.p = t.jnl.held) ∧
    (s.pwr.alive = true → ∃ t : State, exec .brownoutReset s = .next t ∧ t.boot.kind = 2 ∧ t.pwr.alive = false ∧
      t.pwrGood = false ∧ t.isl = {} ∧ t.kept = {} ∧ t.cells = [] ∧ t.ske = {} ∧ t.p = t.jnl.held ∧ t.slot = s.slot) ∧
    (s.pwr.safe = false → s.pwr.alive = true → s.pwr.good = true → s.boot.phase ≠ 2 → s.pwr.dev ≠ .off →
      (∀ c, c = .overvoltage ∨ c = .senseMismatch ∨ (∃ rail, c = .railOutOfBand rail) → ∃ t : State, exec c s = .next t ∧
        t.pwr.safe = true ∧ t.pwr.safeCause = 4 ∧ t.running = false) ∧
      (∀ rail, ∃ t : State, exec (.railOutOfBand rail) s = .next t ∧ t.pwrGood = false) ∧
      (s.tb.locked = true → ∃ t : State, exec .timingPllLoss s = .next t ∧ t.tb.locked = false ∧ t.pwr.safe = true ∧
        t.pwr.safeCause = 3) ∧
      (∀ a b : Nat × Nat, ¬ (RefCountOk a.1 ∧ RefCountOk b.1 ∧ (s.follower = true → RefCountOk a.2 ∧ RefCountOk b.2)) →
        ∃ t : State, exec (.referenceCheckWindow a b) s = .next t ∧ t.pwr.safe = true ∧ t.pwr.safeCause = 2)) ∧
    (∀ a b : Nat × Nat, RefCountOk a.1 → RefCountOk b.1 → (s.follower = true → RefCountOk a.2 ∧ RefCountOk b.2) →
      exec (.referenceCheckWindow a b) s = .next s) ∧
    (∀ r : Fin 8, s.dom (64 + r) = true → (s.reg r).disabled = false → s.pwr.safe = false →
      (s.reg r).restart = false → (s.reg r).resumed = none → ∃ t : State, exec (.regionTreeLost r) s = .next t ∧
        (t.reg r).restart = true ∧ (t.reg r).cause = 3) ∧
    (1 ≤ s.pwr.falling → s.pwr.falling < 4 →
      exec .railRampDownComplete s = .next { s with pwr := { s.pwr with falling := s.pwr.falling + 1 } }) ∧
    (∀ d : Fin 96, ∃ t : State, exec (.domainSettled d) s = .next t ∧ t.pwr.on = s.pwr.on ∧
      (∀ k, k < 96 → t.pwr.settling.getLsbD k = (s.pwr.settling.getLsbD k && decide (k ≠ d.val))) ∧
      (s.pwr.leaving = 0 ∨ (s.pwr.leaving.getLsbD 90 = false ∧ ∃ x ∈ s.seq.shots, x.fired = true ∧ x.placed = false) →
        t = { s with pwr := { s.pwr with settling := t.pwr.settling }, seq := { s.seq with frames := t.seq.frames } }) ∧
      (s.pwr.leaving.getLsbD d = true → s.dom d = false → (∀ x ∈ s.seq.shots, x.fired = true → x.placed = true) →
        t.works d = false)) ∧
    (∀ x, s.pwr.trans = some x → s.stepDone x = true → s.pwr.wake = none → ∃ t : State, exec .stateTransitionComplete s = .next t ∧
      (x.next = x.target → s.pwr.queue = [] → t.pwr.dev = x.next ∧ t.pwr.trans = none) ∧
      (x.next ≠ x.target → x.next ≠ .sleep → x.next ≠ .off → t.pwr.dev = x.next ∧
        ∃ y, t.pwr.trans = some y ∧ y.next = x.next.step x.target ∧ y.target = x.target)) ∧
    (∀ x, s.pwr.trans = some x → s.stepDone x = true → s.pwr.queue = [] →
      (x.next = .sleep → ∃ t : State, exec .stateTransitionComplete s = .next t ∧ t.pwr.dev = .sleep ∧ t.pwr.trans = none ∧
        t.pwr.on = 0 ∧ t.pwr.warm = false ∧ t.isl.out = 0 ∧ t.cells = [] ∧ t.ske.sess = [] ∧
        (s.inFrame = false → t.kept = s.kept)) ∧
      (x.next = .off → ∃ t : State, exec .stateTransitionComplete s = .next t ∧ t.pwr.dev = .off ∧ t.pwr.trans = none ∧
        t.pwrGood = false ∧ t.isl.out = 0 ∧ t.cells = [] ∧ t.regions = [] ∧ t.kept = {})) ∧
    (∀ x, s.pwr.trans = some x → s.pwr.dev = .park → x.next = .quiet → s.isl.released = true →
      (s.seq.run = 0 ∨ s.mc.halt = true) → 2500 ≤ s.mc.okRun → ∃ t : State, exec .parkQuietSettle s = .next t ∧
        t.pwr.dev = .quiet) ∧
    (∀ mac dport d, s.pwr.dev = .sleep → s.pwr.trans = none → s.pwr.safe = false → s.pwr.on = 0 → s.pwr.leaving = 0 →
      d.port.n = s.val PWR_WAKE_PORT → mac = s.macOf d.port.n →
      dport = s.skeicAt d.port.n → (wd (bytesWords d.bytes) 0).fld 15 0 = 0x0202 → (wd (bytesWords d.bytes) 4).fld 2 0 ≤ 2 →
      ∃ t : State, exec (.wakeFrame mac dport d) s = .next t ∧ t.pwr.wake = some d ∧
        ∃ x, t.pwr.trans = some x ∧ x.next = .park ∧ x.target = devOf ((wd (bytesWords d.bytes) 4).fld 2 0)) ∧
    (∀ d, s.pwr.wake = some d → s.wakeOk d = false → ∃ t : State, exec .wakeAuthentication s = .next t ∧ t.pwr.dev = .sleep ∧
      t.pwr.wake = none ∧ t.pwr.on = 0) ∧
    (∀ d, s.pwr.wake = some d → s.wakeOk d = true → headerOk (bytesWords d.bytes) = true →
      (wd (bytesWords d.bytes) 0).fld 15 0 = 0x0202 →
      (s.mbx ((wd (bytesWords d.bytes) 0).fld 21 16)).st = 0 → ∃ t : State, exec .wakeAuthentication s = .next t ∧
        t.pwr.dev = .park ∧ t.pwr.wake = none ∧ (t.mbx ((wd (bytesWords d.bytes) 0).fld 21 16)).st = 2 ∧
        (t.mbx ((wd (bytesWords d.bytes) 0).fld 21 16)).wakeWait = true ∧
        t.work SKE_WAKE_SEQ 0 = (wd (bytesWords d.bytes) 1).toNat) ∧
    (∀ d, s.pwr.wake = some d → s.wakeOk d = true → headerOk (bytesWords d.bytes) = false →
      (wd (bytesWords d.bytes) 0).fld 15 0 = 0x0202 →
      (s.mbx ((wd (bytesWords d.bytes) 0).fld 21 16)).st = 0 → exec .wakeAuthentication s = .fault (.hostError "header"))

/-- R41, through the switching of R42: starting from a mask of domains in which every domain that is on has its parent on,
after each single switch on the way of switching domain d on or off the same holds; at the end d is as commanded, switching
on switches nothing off, and switching off switches nothing on. -/
def Obligations.DomainIsOnOnlyWhileItsParentIs : Prop :=
  ∀ (m : BitVec 96) (d : Nat) (on : Bool), d < 96 → Parented m →
    (∀ n, Parented (((switchList m d on).take n).foldl (fun k x => setDom k x on) m)) ∧
    switchMask m d on = (switchList m d on).foldl (fun k x => setDom k x on) m ∧
    (switchMask m d on).getLsbD d = on ∧
    (on = true → ∀ k, m.getLsbD k = true → (switchMask m d on).getLsbD k = true) ∧
    (on = false → ∀ k, (switchMask m d on).getLsbD k = true → m.getLsbD k = true)

/-- The 03xxh queries and TB_TIME_SET (R97, R98, R105, R110, R500). On a device that is no follower TB_STATUS_GET and
TB_FIT_GET answer their tables (the roundings of TB_FIT_GET are not stated: log 10; what exceeds a field: log 85), on a
follower the conductor's values; TB_TIME_GET answers the tick count and the mapped time at that instant. TB_TIME_SET with
free run and the sequencer stopped makes the mapped time of this tick the named second, at once where the difference exceeds
TB_STEP_NS, by slewing otherwise, in place of a difference that was still to be slewed or stepped; while the sequencer runs
the second is that of the next frame boundary, where a larger difference waits as a step (for a change that takes effect at
this tick: log 85); with PPS_IN it names the second of the next edge; with 802.1AS it is ignored and answered. -/
def Obligations.TimeBaseCommandsComplete : Prop :=
  ∀ (s : State) (m : Fin 64),
    (∀ e : Int, s.turn m 0x0301 → s.follower = false → exec (.tbStatusGet m e) s = .next (s.respond m 0
      [pack [(s.tb.state, 2), (b2n s.warm, 1), (s.val TB_SOURCE, 2), (b2n s.tb.step.isSome, 1), (b2n s.tb.isGm, 1),
        (s.tb.slave, 2), (b2n s.tb.locked, 1)],
       pack [(unsgn 16 e, 16), (min 65535 ((s.tb.tick - s.tb.stampAt) / 1600000), 16)], w32 s.tb.discards])) ∧
    (∀ e : Int, s.turn m 0x0301 → s.follower = true → exec (.tbStatusGet m e) s = .next (s.respond m 0
      ((wd s.ch.tbStatus 0 &&& ~~~(4 : Word) ||| pack [(0, 2), (b2n s.ch.condWarm, 1)]) :: s.ch.tbStatus.drop 1))) ∧
    (s.turn m 0x0302 → exec (.tbTimeGet m) s = .next (s.respond m 0
      ([w32 s.tb.tick, w32 (s.tb.tick / 2 ^ 32)] ++ lohi (timeOf s.tb.map (256 * s.tb.tick : Nat)).1 ++
        [pack [((timeOf s.tb.map (256 * s.tb.tick : Nat)).2, 9)]]))) ∧
    (s.turn m 0x0303 → s.follower = true → exec (.tbFitGet m) s = .next (s.respond m 0 s.ch.tbFit)) ∧
    (∀ f, s.turn m 0x0303 → s.follower = false → s.tb.fit = some f → exec (.tbFitGet m) s = .next (s.respond m 0
      [w32 (unsgn 32 (roundOpen 0x0303 ((f.b / 1600000000 - 1) * 1000000000 * 65536))),
       pack [(min 65535 (sqrtOpen 0x0305 (f.msq * 390625)), 16), (f.n, 7)],
       w32 (unsgn 32 (roundOpen 0x0304 s.offsetLeft))])) ∧
    (s.turn m 0x0303 → s.follower = false → s.tb.fit = none → exec (.tbFitGet m) s = .next (s.respond m 0
      [0, 0, w32 (unsgn 32 (roundOpen 0x0304 s.offsetLeft))])) ∧
    (s.turn m 0x0304 → s.pw m 2 = 0 →
      let sec : Nat := (s.pw m 0).toNat + 2 ^ 32 * (s.pw m 1).toNat
      let now : Rat := s.tb.map.at s.fineNow
      let d : Rat := sec * 1000000000 - now
      let b : Rat := sec * 1000000000 - ({ s.tb.map.rebase s.fineNow with slew := 0 } : Mapper).at (256 * s.seq.bound : Nat)
      (s.val TB_SOURCE = 1 ∨ s.follower = true → exec (.tbTimeSet m) s = .next (s.respond m 0 [])) ∧
      (s.follower = false → s.val TB_SOURCE = 2 → exec (.tbTimeSet m) s =
        .next (({ s with tb := { s.tb with ppsIn := some sec } } : State).respond m 0 [])) ∧
      (s.follower = false → s.mapsHere → s.val TB_SOURCE = 0 → s.seq.run = 0 → ∃ t : State, exec (.tbTimeSet m) s = .next (t.respond m 0 []) ∧
        t.tb.tick = s.tb.tick ∧ t.seq = s.seq ∧ t.isl = s.isl ∧
        (d.abs ≤ (s.val TB_STEP_NS : Rat) → t.tb.map.at s.fineNow = now ∧ t.tb.map.slew = d ∧
          t.tb.map.ppb = s.val TB_SLEW_PPB) ∧ t.tb.step = none ∧
        ((s.val TB_STEP_NS : Rat) < d.abs → t.tb.map.at s.fineNow = sec * 1000000000 ∧ t.tb.map.slew = 0)) ∧
      (s.follower = false → s.mapsHere → s.val TB_SOURCE = 0 → s.seq.run ≠ 0 → ∃ t : State, exec (.tbTimeSet m) s = .next (t.respond m 0 []) ∧
        t.tb.tick = s.tb.tick ∧ t.seq = s.seq ∧ t.isl = s.isl ∧ t.tb.map.at s.fineNow = now ∧
        (b.abs ≤ (s.val TB_STEP_NS : Rat) → t.tb.map.slew = b ∧ t.tb.step = none) ∧
        ((s.val TB_STEP_NS : Rat) < b.abs → t.tb.map.slew = 0 ∧ t.tb.step = some b)))

/-- Clock and time-source events (R77, R81, R83, R85, R91 to R95, R100, R103, R104, R616). Lock starts the tick counter from
zero without a fit, and with a fresh mapper unless a grandmaster's role or port comes with it. A deskew step moves a delay
line by 1 ps. The warm flag follows its comparator. A two-step Sync waits for its Follow_Up; a Pdelay_Req is answered with
its arrival time; a Pdelay_Req and a Sync are stamped as they leave, the one for the delay, the other for its Follow_Up; an
Announce carries the own priority vector; peer delay is half the round trip less the turn-round time; an Announce is held for
its port. A PPS_IN edge gives the pair of the second it stands for, its time less the path delay; a pair more than 1 µs off
is discarded and the fourth in a row clears the history. PPS_OUT rises in the tick into which a whole second falls that has
had no edge, and not with width zero; it falls after its width, or 10 µs before the next edge. The timeout gives HOLDOVER
with the mapper as it was. -/
def Obligations.ClockAndTimeSourceEventsRun : Prop :=
  ∀ (s : State),
    (s.tb.locked = false → 2 ≤ s.pwr.rails → s.boot.phase ≠ 2 → (s.follower = false ∨ s.enum.clock = true) →
      ∃ t : State, exec .timingPllLock s = .next t ∧ t.tb.locked = true ∧ t.tb.tick = 0 ∧ t.tb.pairs = [] ∧ t.tb.fit = none ∧
        (s.tb.isGm = false → s.work TB_GM_PRIORITY1 0 = 255 → t.tb.map = {} ∧
          t.tb.state = (if s.work TB_SOURCE 0 = 0 then 0 else 1))) ∧
    (∀ (r : Fin 8) later, s.tb.locked = true → ∃ t : State, exec (.treeDeskewStep r later) s = .next t ∧
      t = { s with tb := { s.tb with trees := t.tb.trees } } ∧
      tget 0 t.tb.trees r = tget 0 s.tb.trees r + (if later then 1 else -1) ∧
      ∀ k, k ≠ r.val → tget 0 t.tb.trees k = tget 0 s.tb.trees k) ∧
    (s.dom 93 = true → ∃ t : State, exec .cloveWarmSet s = .next t ∧ t.pwr.warm = true) ∧
    (∃ t : State, exec .cloveWarmClear s = .next t ∧ t.pwr.warm = false ∧ t.pwr.dev = s.pwr.dev) ∧
    (∀ p : Port, s.tb.locked = true → s.asOn p.n = true → (s.port p.n).up = true →
      (∀ q origin corr rx, s.follower = false → exec (.gptpMessage p (.sync q true origin corr rx)) s =
        .next (s.setAsp p.n (fun a => { a with sync := some (q, rx) }))) ∧
      (∀ q x, exec (.gptpMessage p (.pdelayReq q x)) s = .next (s.toCtl p.n (.ptp 3 q [s.tb.map.at (256 * x)]))) ∧
      (∀ q t2 rx, exec (.gptpMessage p (.pdelayResp q t2 rx)) s =
        .next (s.setAsp p.n (fun a => { a with respAt := some (q, t2, rx) }))) ∧
      (∀ q t1 t2 t3 t4, (s.asp p.n).reqAt = some (q, t1) → (s.asp p.n).respAt = some (q, t2, t4) → s.tb.fit = none →
        ∃ t : State, exec (.gptpMessage p (.pdelayRespFollowUp q t3)) s = .next t ∧
          (t.asp p.n).pdelay = ((t4 - t1) / 1600000000 * 1000000000 - (t3 - t2)) / 2 ∧ (t.asp p.n).reqAt = none) ∧
      (∀ prio rest gm, s.follower = false → ∃ t : State, exec (.gptpMessage p (.announce prio rest gm)) s = .next t ∧
        (t.asp p.n).ann = some (prio, rest, gm)) ∧
      (let q := (s.asp p.n).seq
       let u := s.setAsp p.n (fun a => { a with seq := wrap 16 (a.seq + 1) })
       let idle := (s.port p.n).wire = none ∧ (s.port p.n).ctl = [] ∧ (s.port p.n).wait = []
       exec (.gptpTransmitInterval p .pdelay) s = .next (u.toCtl p.n (.ptp 2 q [])) ∧
        (idle → ((u.toCtl p.n (.ptp 2 q [])).asp p.n).reqAt = some (q, ((s.tb.tick : Nat) : Rat))) ∧
        (s.tb.isGm = true → exec (.gptpTransmitInterval p .sync) s = .next (u.toCtl p.n (.ptp 0 q [])) ∧
          (idle → ((u.toCtl p.n (.ptp 0 q [])).port p.n).ctl = [.ptp 8 q [s.tb.map.at s.fineNow]]) ∧
          exec (.gptpTransmitInterval p .announce) s = .next (u.toCtl p.n
            (.ptp 11 q [(s.ownVector.1 : Nat), (s.ownVector.2.1 : Nat), (s.ownVector.2.2 : Nat)])))) ∧
      (∃ t : State, exec (.gptpTransmitInterval p .announceReceipt) s = .next t ∧ (t.asp p.n).ann = none)) ∧
    (s.tb.locked = true → s.follower = false → s.lag = [] → s.plan.slew = 0 → s.work TB_SOURCE 0 = 2 → 4 ≤ s.work TB_FIT_COUNT 0 →
      let y : Rat := (s.tb.tick : Nat) - (s.valI TB_PPS_IN_DELAY_NS 0 : Rat) * (16 / 10)
      (∀ n, s.tb.ppsIn = some n → s.tb.state ≠ 2 → ∃ t : State, exec .ppsInEdge s = .next t ∧ t.tb.ppsIn = some (n + 1) ∧
        t.tb.pairs.head? = some (((n : Int) : Rat) * 1000000000, y)) ∧
      (s.tb.ppsIn = none → s.tb.state ≠ 2 → ∃ t : State, exec .ppsInEdge s = .next t ∧
        t.tb.pairs.head? = some ((roundNear 0x0091 (s.tb.map.at (256 * y) / 1000000000) : Rat) * 1000000000, y)) ∧
      (∀ n f, s.tb.ppsIn = some n → s.tb.state = 2 → s.tb.fit = some f →
        1000 < (f.time y - (((n : Int) * 1000000000 : Int) : Rat)).abs →
        ∃ t : State, exec .ppsInEdge s = .next t ∧ t.tb.discards = wrap 32 (s.tb.discards + 1) ∧
          (s.tb.bad < 3 → t.tb.pairs = s.tb.pairs ∧ t.tb.state = 2 ∧ t.tb.bad = s.tb.bad + 1) ∧
          (3 ≤ s.tb.bad → t.tb.pairs = [] ∧ t.tb.state = 1 ∧ t.tb.fit = none))) ∧
    (s.tb.locked = true → s.val TB_PPS_OUT_WIDTH_US ≠ 0 →
      (∀ sec a, s.ppsSecond = some (sec, a) →
        (s.tb.map.at s.fineNow ≤ (sec : Rat) * 1000000000 ∧ (sec : Rat) * 1000000000 < s.tb.map.at (s.fineNow + 256) ∧
          16 * s.tb.tick ≤ a ∧ a ≤ 16 * s.tb.tick + 16) ∧
        ((∀ l, s.tb.ppsLast = some l → l < sec) → exec .ppsOutEdge s =
          .next { s with tb := { s.tb with ppsOut := true, ppsAt := a, ppsLast := some sec } }) ∧
        (∀ l, s.tb.ppsLast = some l → sec ≤ l → exec .ppsOutEdge s = .next s)) ∧
      (s.ppsSecond = none → exec .ppsOutEdge s = .next s)) ∧
    (s.val TB_PPS_OUT_WIDTH_US = 0 → exec .ppsOutEdge s = .next s) ∧
    (let low : State := { s with tb := { s.tb with ppsOut := false } }
     let stop := s.tb.ppsAt + 16 * usTicks (s.val TB_PPS_OUT_WIDTH_US)
     let t := s.tb.map.at s.fineNow
     let next : Int := max ((t / 1000000000).floor + 1) (s.tb.ppsLast.getD 0 + 1)
     let edge : Rat := 16 * (s.tb.tick : Nat) + (next * 1000000000 - t) / (256 * s.tb.map.b) * 16
     (stop ≤ 16 * s.tb.tick → exec .ppsOutWidthEnd s = .next low) ∧
     (edge ≤ (stop : Nat) → edge ≤ (16 * s.tb.tick + 16 * usTicks 10 : Nat) → exec .ppsOutWidthEnd s = .next low)) ∧
    (s.follower = false → s.tb.locked = true → s.val TB_SOURCE ≠ 0 → s.tb.state = 1 ∨ s.tb.state = 2 →
      s.tb.stampAt + usTicks (1000 * s.val TB_FIT_TIMEOUT_MS) ≤ s.tb.tick → ∃ t : State, exec .fitTimeout s = .next t ∧ t.tb.state = 3 ∧ t.tb.map = s.tb.map ∧ t.tb.pairs = [])

/-- R88 and R89. For a mapper with a positive rate and a slew of at most 50,000 ppb the mapped time is strictly increasing
and changes by at most twice the rate per fine-time unit (so it is continuous), and within each tick from its origin it is
linear: the rate changes at ticks alone. Re-basing at a tick after the origin changes no later mapped time. A change of rate,
or an offset that is slewed, leaves the mapped time of its tick as it was, and that tick is the new origin; it is this tick,
or one to come where other devices have to get it first (log 85). A step is the only exception: it adds its amount at its
tick. -/
def Obligations.MappedTimeIsContinuousAndIncreasing : Prop :=
  (∀ (m : Mapper) (g h : Rat), 0 < m.b → m.ppb ≤ 50000 → g < h →
    m.at g < m.at h ∧ m.at h - m.at g ≤ 2 * m.b * (h - g)) ∧
  (∀ (m : Mapper) (k : Nat) (x : Rat), 0 < m.b → 0 ≤ x → x ≤ 1 →
    m.at (m.f0 + 256 * (k + x)) = m.at (m.f0 + 256 * k) + x * (m.at (m.f0 + 256 * (k + 1)) - m.at (m.f0 + 256 * k))) ∧
  (∀ (m : Mapper) (k : Nat) (g : Rat), 0 < m.b → m.f0 + 256 * k ≤ g →
    (m.rebase (m.f0 + 256 * k)).at g = m.at g ∧ (m.slewEdge (m.f0 + 256 * k)).at g = m.at g) ∧
  (∀ (s : State) (b : Rat), s.mapsHere → (s.setRate b).tb.map.at s.fineNow = s.tb.map.at s.fineNow ∧
    (s.setRate b).tb.map.f0 = s.fineNow ∧ (s.setRate b).tb.map.b = b) ∧
  (∀ (s : State) (b : Rat), s.tb.tick < s.mapEdge → (s.setRate b).tb.map = s.tb.map ∧
    ∃ m : Mapper, (s.setRate b).tb.copies = s.tb.copies ++ [(s.mapEdge, m)] ∧ m.f0 = (256 * s.mapEdge : Nat) ∧ m.b = b ∧
      m.at (256 * s.mapEdge : Nat) = s.plan.at (256 * s.mapEdge : Nat)) ∧
  (∀ (s : State) (d : Rat), s.mapsHere → d.abs ≤ (s.val TB_STEP_NS : Rat) →
    (s.applyOffset d none).tb.map.at s.fineNow = s.tb.map.at s.fineNow ∧ (s.applyOffset d none).tb.map.f0 = s.fineNow) ∧
  (∀ (s : State) (d : Rat), (s.doStep true d).tb.map.at s.fineNow = s.tb.map.at s.fineNow + d ∧
    (s.doStep true d).tb.map.f0 = s.fineNow ∧ (s.doStep true d).tb.map.b = s.tb.map.b)

/-- The 04xxh commands (R144, R150, R151, R154 to R157). FE_STATUS_GET answers two words a channel, FE_INTERLEAVE_GET the
corrections and residuals, FE_CQ_STATUS the counts. FE_BIAS_TEST makes a measurement due on each named channel and no other;
its response follows once the capacitance of each has been measured and its servo current evaluated, at the latest with the
timeout: it counts what the test itself has found. FE_QUARANTINE_CLEAR ends the quarantine of the named channels only.
FE_INTERLEAVE_SAVE saves the corrections of channels whose analogue domain is on and keeps those of the others. FE_CQ_START
on bound queues counts the capture number up, keeps the entries captured before, starts the counts anew (log 49), takes
nothing of a channel that is silenced then, and is armed or captures at once; FE_CQ_STOP answers the entries captured, a
channel that has all its samples closing its entry at once. At the named tick an armed capture begins; it ends with partly
filled entries closed early, those of an earlier capture first; the oldest closed entry, which waits for those of earlier
captures, is delivered whole where the write port and the converter-queue area are free and its queue takes it, with the gap
counted before it, or dropped whole. -/
def Obligations.FrontEndCommandsComplete : Prop :=
  ∀ (s : State) (m : Fin 64),
    (let first := (s.pw m 0).fld 8 0
     let n := (s.pw m 0).fld 15 9
     s.turn m 0x0401 → (s.pw m 0).fld 31 16 = 0 → n ≤ 64 → first + n ≤ 512 →
      exec (.feStatusGet m) s = .next (s.respond m 0 ((span first n).flatMap s.feWords))) ∧
    (let first := (s.pw m 0).fld 8 0
     let n := (s.pw m 0).fld 18 9
     s.turn m 0x0404 → (s.pw m 0).fld 31 19 = 0 → first + n ≤ 512 → s.biasTest = none → n ≠ 0 →
      let b : BiasTest := { mbx := m, all := maskOf (fun c => first ≤ c && c < first + n), early := maskOf (fun c => (s.cell c).measuring) }
      ∃ t : State, exec (.feBiasTest m) s = .next t ∧
        t = { s with cells := t.cells, ske := t.ske, biasTest := some b } ∧
        (t.mbx m).st = 3 ∧ ∀ c, t.cell c =
          if first ≤ c ∧ c < first + n then { s.cell c with due := true } else s.cell c) ∧
    (∀ b, s.biasTest = some b → exec .biasTestTimeout s = .next (({ s with biasTest := none } : State).respond b.mbx 0
      [pack [(popcount b.cap, 10), (popcount b.all - popcount b.cap, 10)],
       pack [(popcount b.open_, 10), (popcount b.short, 10)]])) ∧
    (∀ b (c : Fin 512) v, s.biasTest = some b → (s.cell c).measuring = true → b.all.getLsbD c = true →
      b.cap ||| chBit c = b.all → b.dc = b.all → b.early.getLsbD c = false →
      ∃ t : State, exec (.capacitanceMeasurementEnd c v) s = .next (t.respond b.mbx 0 [pack [(popcount b.all, 10), (0, 10)],
          pack [(popcount (if v < s.val FE_OPEN_PF then b.open_ ||| chBit c else b.open_), 10), (popcount b.short, 10)]]) ∧
        t.biasTest = none ∧ (t.cell c).cap = min 255 v) ∧
    (let first := (s.pw m 0).fld 8 0
     let n := (s.pw m 0).fld 18 9
     s.turn m 0x0405 → (s.pw m 0).fld 31 19 = 0 → first + n ≤ 512 →
      ∃ t : State, exec (.feQuarantineClear m) s = .next (t.respond m 0 []) ∧ t = { s with cells := t.cells } ∧
        ∀ c, (first ≤ c → c < first + n → (t.cell c).silenced = false ∧ (t.cell c).mism = false) ∧
          (c < first ∨ first + n ≤ c → t.cell c = s.cell c)) ∧
    (s.turn m 0x0406 → (s.pw m 0).fld 31 9 = 0 →
      let x := s.cell ((s.pw m 0).fld 8 0)
      exec (.feInterleaveGet m) s = .next (s.respond m 0
        [pack [(unsgn 16 x.offA, 16), (unsgn 16 x.offB, 16)], pack [(unsgn 16 x.gainA, 16), (unsgn 16 x.gainB, 16)],
         pack [(unsgn 16 x.skew, 16)],
         pack [(min 255 x.resO, 8), (min 255 x.resG, 8), (min 255 x.resS, 8), (b2n x.conv, 1)]])) ∧
    (s.turnP m 0x0407 → ∃ t : State, exec (.feInterleaveSave m) s = .next (t.commitAnswer 4 (recordBytes 1536) m []) ∧
      t = { s with p := { s.p with inter := t.p.inter } } ∧
      ∀ c, c < 512 → let x := s.cell c
        (s.dom (c / 16) = true → tget [0, 0, 0, 0, 0] t.p.inter c = [x.offA, x.offB, x.gainA, x.gainB, x.skew]) ∧
        (s.dom (c / 16) = false → tget [0, 0, 0, 0, 0] t.p.inter c = tget [0, 0, 0, 0, 0] s.p.inter c)) ∧
    (let n := (s.pw m 0).fld 4 0
     let k := (s.pw m 1).fld 23 0
     let start := (s.pw m 3).toNat + 2 ^ 32 * (s.pw m 4).toNat
     s.turn m 0x0408 → (s.pw m 0).fld 31 6 = 0 → n ≤ 16 → k ≤ 8388608 → (s.pw m 1).fld 31 24 = 0 →
      (s.pw m 2).fld 31 15 = 0 → (∀ i, 5 ≤ i → i ≤ 12 → (s.pw m i).fld 15 9 = 0 ∧ (s.pw m i).fld 31 25 = 0) →
      (s.cqChannels m n).Nodup → s.bound ((s.pw m 2).fld 14 0) = true →
      ∃ t : State, exec (.feCqStart m) s = .next (t.respond m 0 []) ∧ t = { s with cq := t.cq, cells := t.cells } ∧
        (∀ c, t.cell c = if k ≠ 0 ∧ c ∈ s.cqChannels m n then { s.cell c with mute := s.silent c, tag := (s.cell c).flagged } else s.cell c) ∧
        t.cq.num = wrap 16 (s.cq.num + 1) ∧ t.cq.captured = 0 ∧ t.cq.delivered = 0 ∧ t.cq.dropped = 0 ∧
        t.cq.dest = (s.pw m 2).fld 14 0 ∧ t.cq.fmt = s.work FE_CODE_FORMAT 0 ∧ t.cq.full = s.cq.stop.full ∧
        t.cq.closing = s.cq.stop.closing ∧ (k ≠ 0 → t.cq.chs = (s.cqChannels m n).map (fun c => { ch := c, left := k })) ∧
        (n ≠ 0 → k ≠ 0 → t.cq.st = if (s.pw m 0).bit 5 = true ∧ s.tb.tick < start then 1 else 2)) ∧
    (s.turn m 0x0409 → ∃ t : State, exec (.feCqStop m) s = .next (t.respond m 0
        [w32 (t.cq.captured + (t.cq.closing.filter (fun h => h.num == s.cq.num)).length)]) ∧
      t = { s with cq := s.cq.stop } ∧ t.cq.chs = [] ∧
      (let es : List CqHeld := s.cq.chs.filterMap (fun x => x.cur.map (fun e =>
         { e := e, num := s.cq.num, dest := s.cq.dest, left := x.left }))
       t.cq.full = s.cq.full ++ es.filter (fun h => h.left == 0) ∧
       t.cq.closing = s.cq.closing ++ es.filter (fun h => h.left ≠ 0) ∧
       t.cq.captured % 2 ^ 32 = (s.cq.captured + (es.filter (fun h => h.left == 0)).length) % 2 ^ 32)) ∧
    (s.turn m 0x040A → exec (.feCqStatus m) s = .next (s.respond m 0
      [pack [(s.cq.st, 2)], w32 s.cq.captured, w32 s.cq.delivered, w32 s.cq.dropped])) ∧
    (s.cq.st = 1 → s.cq.start ≤ s.tb.tick → exec .cqCaptureStart s = .next { s with cq := { s.cq with st := 2 } }) ∧
    ((s.cq.st ≠ 1 ∨ s.tb.tick < s.cq.start) → exec .cqCaptureStart s = .next s) ∧
    (2 ≤ s.cq.st →
      (∀ x ∈ s.cq.chs, x.left = 0 ∨ s.muted x.ch = true ∨ s.blockUp (x.ch / 16) = false) →
      (∀ h ∈ s.cq.closing, s.muted h.e.ch = true ∨ s.blockUp (h.e.ch / 16) = false) →
      ∃ t : State, exec .cqCaptureEnd s = .next t ∧ t = { s with cq := t.cq } ∧ t.cq.chs = [] ∧ t.cq.closing = [] ∧
        (let hs := s.cq.closing ++ s.cq.chs.filterMap (fun x => x.cur.map (fun e =>
           ({ e := e, num := s.cq.num, dest := s.cq.dest, left := x.left } : CqHeld)))
         ((∀ h ∈ s.cq.closing, h.num = s.cq.num) → t.cq.full = s.cq.full ++ hs) ∧
         (s.cq.full = [] → t.cq.full = hs.filter (fun h => h.num ≠ s.cq.num) ++ hs.filter (fun h => h.num == s.cq.num))) ∧
        t.cq.st = (if t.cq.full.isEmpty then 0 else 3) ∧ t.cq.delivered = s.cq.delivered ∧ t.cq.dropped = s.cq.dropped) ∧
    (∀ taken, s.cq.full = [] → s.cqAlive → exec (.cqEntryClose taken) s = .next s) ∧
    (∀ taken h r o, s.cq.full = h :: r → h.num = s.cq.num → s.cq.closing = [o] → o.num ≠ s.cq.num → s.muted o.e.ch = true →
      exec (.cqEntryClose taken) s = exec (.cqEntryClose taken) { s with cq := { s.cq with full := o :: h :: r, closing := [] } }) ∧
    (∀ h r o, s.cq.full = h :: r → h.num = s.cq.num → s.cqAlive → o ∈ s.cq.closing → o.num ≠ h.num →
      ∀ taken, exec (.cqEntryClose taken) s = .next s) ∧
    (∀ h r, s.cq.full = h :: r → s.cqAlive → (∀ o ∈ s.cq.closing, o.num = h.num ∨ h.num ≠ s.cq.num) →
      let c := h.e.ch
      let own := if h.num = s.cq.num then 1 else 0
      let q : Cq := { s.cq with full := r, st := if s.cq.st = 3 ∧ r = [] ∧ s.cq.closing = [] then 0 else s.cq.st }
      let record := s.cqRecord h.e h.num (tget 0 s.cq.drops c)
      let a := ({ s with cq := q } : State).enqueue h.dest record
      (s.portFree (c / 64) = true → s.stages record = true →
        (a.1 = true → exec (.cqEntryClose true) s = .next { a.2.trimSpill (c / 64) with cq := { q with
          delivered := wrap 32 (q.delivered + own), drops := tset 0 q.drops c 0 } }) ∧
        (a.1 = false → exec (.cqEntryClose true) s = .next (a.2.trimSpill (c / 64)))) ∧
      exec (.cqEntryClose false) s = .next { s with cq := { q with
        dropped := wrap 32 (q.dropped + own), drops := tset 0 q.drops c (sat 16 (tget 0 s.cq.drops c + 1)) } })

/-- Front-end events (R117, R119, R122, R125, R130 to R137, R153). Settling makes a measurement due on the 16 channels of its
block. The DC evaluation shorts a channel above FE_SHORT_UA or at the servo limit. A capacitance measurement starts where it
is due, no action goes ahead of it and the gap is long enough; its value opens the channel below FE_OPEN_PF. An interval
without a measurement is recorded as untested, unless one is under way that began in it. A converter with 4,096 identical
codes while its partner gave four in that time is stuck, unless both stand at one end code. The estimator moves each
correction by at most one step, and not while frozen. A mismatch is flagged after convergence only. At a permitted instant
the waiting parameters come into force and a pending target starts a range change, which ends in the new range; while the
region calibrates the target goes on waiting, and the range before it is kept for the return (R561); at any other instant
nothing happens. -/
def Obligations.CellEventsRun : Prop :=
  ∀ (s : State),
    (∀ b : Fin 32, s.dom b = true → ∃ t : State, exec (.frontEndSettled b) s = .next t ∧ t = { s with cells := t.cells } ∧
      ∀ c, t.cell c = if c / 16 = b.val then { s.cell c with settled := true, due := true } else s.cell c) ∧
    (∀ (c : Fin 512) avg limit, s.dom (c / 16) = true → s.biasTest = none → ∃ t : State, exec (.biasDcEvaluation c avg limit) s = .next t ∧
      t = { s with cells := t.cells, seq := t.seq } ∧ (t.cell c).servo = satI 16 avg ∧
      (t.cell c).short = ((s.cell c).short || limit || decide ((10 * s.val FE_SHORT_UA : Nat) < avg)) ∧
      ∀ k, k ≠ c.val → t.cell k = s.cell k) ∧
    (∀ c : Fin 512, s.dom (c / 16) = true → (s.cell c).settled = true → (s.cell c).due = true →
      s.pendingRange c = none → s.biasPending c = false → s.mayAct c = true → s.longGap c = true →
      exec (.capacitanceMeasurementStart c) s = .next
        (s.setCell c (fun x => { x with due := false, measuring := true, gapUsed := true }))) ∧
    (∀ (c : Fin 512) v, (s.cell c).measuring = true → s.biasTest = none →
      ∃ t : State, exec (.capacitanceMeasurementEnd c v) s = .next t ∧ t = { s with cells := t.cells, seq := t.seq } ∧
        (t.cell c).cap = min 255 v ∧ (t.cell c).measuring = false ∧ (t.cell c).measured = ((s.cell c).measured || !(s.cell c).older) ∧
        (t.cell c).untested = false ∧ (t.cell c).open_ = ((s.cell c).open_ || decide (v < s.val FE_OPEN_PF)) ∧
        ∀ k, k ≠ c.val → t.cell k = s.cell k) ∧
    (∀ c : Fin 512, s.val FE_BIAS_TEST_INTERVAL_MS ≠ 0 → s.dom (c / 16) = true → exec (.biasTestInterval c) s =
      .next (s.setCell c (fun x => { x with
        untested := !x.measured && (!x.measuring || x.older), measured := false, older := x.measuring, due := true }))) ∧
    (∀ c : Fin 512, let x := s.cell c
      let four (l : List (Nat × Nat)) : Prop := 4 ≤ (l.filter (fun e => decide (s.tb.tick ≤ e.2 + 8192))).length
      ((4096 ≤ x.runA ∧ four x.seenB ∨ 4096 ≤ x.runB ∧ four x.seenA) →
        ¬ (x.codeA = x.codeB ∧ (x.codeA = 0 ∨ x.codeA = 1023)) →
        ∃ t : State, exec (.stuckConverter c) s = .next t ∧ (t.cell c).stuck = true ∧ t.silent c = true ∧
          ∀ k, k ≠ c.val → t.cell k = s.cell k) ∧
      (x.codeA = x.codeB ∧ (x.codeA = 0 ∨ x.codeA = 1023) → exec (.stuckConverter c) s = .next s)) ∧
    (∀ (c : Fin 512) a b g h k o r q, s.dom (c / 16) = true →
      (s.val FE_INTERLEAVE_TRACK = 0 → exec (.interleaveEstimatorStep c a b g h k o r q) s = .next s) ∧
      (s.val FE_INTERLEAVE_TRACK ≠ 0 → ∃ t : State, exec (.interleaveEstimatorStep c a b g h k o r q) s = .next t ∧
        t = { s with cells := t.cells } ∧ (∀ j, j ≠ c.val → t.cell j = s.cell j) ∧
        (∀ (f : Cell → Int) (lim : Int), (f, lim) ∈ ([(Cell.offA, 512), (Cell.offB, 512), (Cell.gainA, 983),
            (Cell.gainB, 983), (Cell.skew, 240)] : List ((Cell → Int) × Int)) → -lim ≤ f (s.cell c) → f (s.cell c) ≤ lim →
          f (s.cell c) - 1 ≤ f (t.cell c) ∧ f (t.cell c) ≤ f (s.cell c) + 1 ∧ -lim ≤ f (t.cell c) ∧ f (t.cell c) ≤ lim) ∧
        (t.cell c).conv = ((s.cell c).conv || (decide (o ≤ 16) && decide (r ≤ 10) && decide (q ≤ 5))))) ∧
    (∀ c : Fin 512, let x := s.cell c
      (x.conv = true → (x.offA = 512 ∨ x.gainB = -983 ∨ x.skew = 240 ∨ 64 < x.resO ∨ 40 < x.resG ∨ 20 < x.resS) →
        exec (.interleaveMismatch c) s = .next (s.setCell c (fun x => { x with mism := true }))) ∧
      (x.conv = false → exec (.interleaveMismatch c) s = .next s)) ∧
    (∀ c : Fin 512, (s.cell c).recover ≤ s.tb.tick →
      exec (.overloadRecoveryEnd c) s = .next (s.setCell c (fun x => { x with recover := 0 }))) ∧
    (∀ c : Fin 512, s.permitted c = false → exec (.permittedInstant c) s = .next s) ∧
    (∀ c : Fin 512, s.permitted c = true → ∃ t : State, exec (.permittedInstant c) s = .next t ∧ t.p = s.p ∧ t.tb = s.tb ∧
      (tfind s.ready (parKey 4 0 c) = none → t.cur FE_GAIN_MODE c = s.work FE_GAIN_MODE c) ∧
      (tfind s.ready (parKey 4 3 c) = none → t.cur FE_POLARITY c = s.work FE_POLARITY c) ∧
      (t.cell c).low = (s.cell c).low ∧ (∀ k, k ≠ c.val → t.cell k = s.cell k) ∧
      (∀ low, s.pendingRange c = some low → s.mayAct c = true → s.calibrating (c / 64) = false →
        (t.cell c).changing = true ∧ (t.cell c).newLow = low ∧ (t.cell c).target = none) ∧
      (s.pendingRange c = none → s.calibrating (c / 64) = false →
        (t.cell c).changing = (s.cell c).changing ∧ (t.cell c).target = none ∧ (t.cell c).back = none) ∧
      (s.calibrating (c / 64) = true → (t.cell c).target = s.dueRange c ∧
        (t.cell c).back = some ((s.cell c).back.getD (s.cell c).low))) ∧
    (∀ c : Fin 512, (s.cell c).changing = true → ∃ t : State, exec (.gainChangeComplete c) s = .next t ∧
      t = { s with cells := t.cells } ∧ (t.cell c).low = (s.cell c).newLow ∧ (t.cell c).changing = false ∧
      ∀ k, k ≠ c.val → t.cell k = s.cell k) ∧
    (∀ c : Fin 512, s.permitted c = true → s.biasPending c = true → s.pendingRange c = none → s.mayAct c = true → s.longGap c = true →
      ∃ t : State, exec (.inputBiasChange c) s = .next t ∧ t = { s with cells := t.cells, lag := t.lag } ∧
        t.cur FE_INPUT_BIAS_MV c = s.work FE_INPUT_BIAS_MV c ∧ (t.cell c).gapUsed = true)

/-- R121. The close of a window is decided once, and changes no range by itself. In mode 0 and high gain, a saturated window
makes low the target and clears the quiet count. In mode 0 and low gain, a window whose peak is below 59 LSB (236
quarter-LSB) counts as quiet and any other clears the count; at FE_GAIN_UP_WINDOWS quiet windows high becomes the target and
the count is cleared. The change is pending where the target differs from the range. In modes 1 and 2 the cell decides
nothing: a waiting change to mode 1 makes high the pending target and one to mode 2 low, where that is not the range. -/
def Obligations.GainRangeIsDecidedAtWindowClose : Prop :=
  (∀ (s : State) (c : Fin 512) (fire : Nat) (x : Shot), s.shot fire = some x → x.opensOn c = true → x.winEnd ≤ s.tb.tick →
    x.closed.getLsbD c = false →
    let k := s.cell c
    let quiet := if tget 0 x.peaks c < 236 then k.quiet + 1 else 0
    ∃ t : State, exec (.listenWindowClose c fire) s = .next t ∧ t = { s with cells := t.cells, seq := t.seq } ∧
      (t.cell c).low = k.low ∧ (∀ j, j ≠ c.val → t.cell j = s.cell j) ∧
      (∀ y, t.shot fire = some y → y.closed.getLsbD c = true) ∧
      (s.cur FE_GAIN_MODE c ≠ 0 → t.cell c = k) ∧
      (s.cur FE_GAIN_MODE c = 0 → k.low = false → x.sats.getLsbD c = true →
        t.cell c = { k with target := some true, quiet := 0 }) ∧
      (s.cur FE_GAIN_MODE c = 0 → k.low = false → x.sats.getLsbD c = false → t.cell c = k) ∧
      (s.cur FE_GAIN_MODE c = 0 → k.low = true → s.val FE_GAIN_UP_WINDOWS ≤ quiet →
        t.cell c = { k with target := some false, quiet := 0 }) ∧
      (s.cur FE_GAIN_MODE c = 0 → k.low = true → quiet < s.val FE_GAIN_UP_WINDOWS →
        t.cell c = { k with quiet := quiet })) ∧
  (∀ (s : State) (c : Nat),
    (tfind s.lag (parKey 4 0 c) = none → (s.cell c).back = none → s.pendingRange c =
      if (s.cell c).target = some (s.cell c).low then none else (s.cell c).target) ∧
    (∀ v, tfind s.lag (parKey 4 0 c) = some v → s.work FE_GAIN_MODE c = 1 →
      s.pendingRange c = if (s.cell c).low then some false else none) ∧
    (∀ v, tfind s.lag (parKey 4 0 c) = some v → s.work FE_GAIN_MODE c = 2 →
      s.pendingRange c = if (s.cell c).low then none else some true))

/-- The 05xxh commands (R165, R166, R199 to R201, R643). DET_STATUS_GET answers three words a channel. DET_COEF_LOAD holds
the set in class P for each named channel and puts it in the waiting place of their cells, the set in use unchanged;
DET_COEF_GET answers the set in use and the one that fades out. DET_COINC_SET writes one pattern of each named block and
leaves the pattern in force as it was; DET_COINC_GET answers it with a block count of 1. DET_TIMING_TABLE_LOAD writes one
table, while the table in effect stays until a permitted instant; DET_TIMING_TABLE_GET answers the stored table, for table 7
the values in use, after the echoed first word (log 12). -/
def Obligations.DetectionCommandsComplete : Prop :=
  ∀ (s : State) (m : Fin 64),
    (let first := (s.pw m 0).fld 8 0
     let n := (s.pw m 0).fld 15 9
     s.turn m 0x0501 → (s.pw m 0).fld 31 16 = 0 → n ≤ 64 → first + n ≤ 512 →
      exec (.detStatusGet m) s = .next (s.respond m 0 ((span first n).flatMap s.detWords))) ∧
    (let first := (s.pw m 0).fld 8 0
     let n := (s.pw m 0).fld 18 9
     let taps := (s.pw m 0).fld 22 19
     let h := coefOf taps ((span 1 6).map (s.pw m))
     s.turnP m 0x0504 → (s.pw m 0).fld 31 24 = 0 → 1 ≤ taps → taps ≤ 12 → first + n ≤ 512 →
      (∀ i, taps ≤ i → i < 12 → entry ((span 1 6).map (s.pw m)) i = 0) →
      ∃ t : State, exec (.detCoefLoad m) s = .next (t.commitAnswer 5 (recordBytes 7) m []) ∧
        t = { s with cells := t.cells, p := { s.p with coef := t.p.coef } } ∧
        ∀ c, (first ≤ c ∧ c < first + n → tget Coef.builtIn t.p.coef c = h ∧
            t.cell c = { s.cell c with next := some (h, (s.pw m 0).bit 23) }) ∧
          (c < first ∨ first + n ≤ c → tget Coef.builtIn t.p.coef c = tget Coef.builtIn s.p.coef c ∧ t.cell c = s.cell c)) ∧
    (s.turn m 0x0505 → (s.pw m 0).fld 31 9 = 0 →
      let x := s.cell ((s.pw m 0).fld 8 0)
      exec (.detCoefGet m) s = .next (s.respond m 0
        (pack [(x.coef.length, 4), (x.fade, 2), (min 64 x.j, 7)] :: coefWords x.coef ++ coefWords (x.old.getD [])))) ∧
    (let first := (s.pw m 0).fld 4 0
     let n := (s.pw m 0).fld 10 5
     let p := (s.pw m 0).fld 14 11
     s.turnP m 0x0506 → (s.pw m 0).fld 31 18 = 0 → first + n ≤ 32 →
      (s.pw m 1).fld 15 0 &&& (s.pw m 1).fld 31 16 = 0 →
      ∃ t : State, exec (.detCoincSet m) s = .next (t.commitAnswer 5 (recordBytes 2) m []) ∧
        t = { s with coincNow := t.coincNow, p := { s.p with coinc := t.p.coinc } } ∧
        (∀ b, first ≤ b → b < first + n → tget [0, 0] t.p.coinc (b * 16 + p) =
          [pack [(0, 5), (1, 6), (p, 4), ((s.pw m 0).fld 17 15, 3)], s.pw m 1]) ∧
        (∀ b q, q < 16 → (b < first ∨ first + n ≤ b ∨ q ≠ p) →
          tget [0, 0] t.p.coinc (b * 16 + q) = tget [0, 0] s.p.coinc (b * 16 + q)) ∧
        ∀ (x : Shot) b q, b < 32 → q < 16 → t.coincFor x b q = s.coincFor x b q) ∧
    (s.turn m 0x0507 → (s.pw m 0).fld 31 9 = 0 →
      let b := (s.pw m 0).fld 4 0
      let p := (s.pw m 0).fld 8 5
      let w := tget [0, 0] s.p.coinc (b * 16 + p)
      exec (.detCoincGet m) s = .next (s.respond m 0 [pack [(b, 5), (1, 6), (p, 4), ((wd w 0).fld 17 15, 3)], wd w 1])) ∧
    (let c := (s.pw m 0).fld 8 0
     let t := (s.pw m 0).fld 11 9
     let ws := (span 1 (tableLen t)).map (s.pw m)
     s.turnP m 0x0508 → (s.pw m 0).fld 31 12 = 0 → (t = 6 → (wd ws 1).fld 31 16 = 0) →
      (t = 7 → (wd ws 0).fld 31 16 ≠ 0) →
      ∃ u : State, exec (.detTimingTableLoad m) s = .next (u.commitAnswer 5 (recordBytes (tableLen t)) m []) ∧
        u = { s with cells := u.cells, p := { s.p with timing := u.p.timing, calSt := u.p.calSt },
                     wear := { s.wear with calAt := u.wear.calAt } } ∧
        u.tableW c t = ws ∧ u.table c t = s.table c t ∧
        (∀ k j, k < 512 → j < 8 → (k ≠ c ∨ j ≠ t) → u.tableW k j = s.tableW k j ∧ u.table k j = s.table k j) ∧
        (t = 6 → tget 0 u.p.calSt c = 2) ∧ (t ≠ 6 → u.p.calSt = s.p.calSt ∧ u.wear = s.wear)) ∧
    (s.turn m 0x0509 → (s.pw m 0).fld 31 12 = 0 →
      let c := (s.pw m 0).fld 8 0
      let t := (s.pw m 0).fld 11 9
      exec (.detTimingTableGet m) s = .next (s.respond m 0 (s.pw m 0 ::
        (if t = 7 then [pack [((s.q0S c).1, 16), ((s.q0S c).2, 16)]] else s.tableW c t))))

/-- The tick and the events of one cell (R85, R159 to R162, R165, R168, R175, R177). With the sample clock locked a tick
advances the tick counter by one, whatever its samples; class P, island and motion stay, and a cell without a sample stays.
The tracker follows a used sample by its shift, and an excluded one not at all but for the override after 1,024. The noise
tracker moves by its shift. An open detection is closed 64 tk after its crossing and the detector re-armed. The hold of 2,048
ticks ends once it is over, in the present gain range; windows open again once the ticks since the first used sample after a
restart are, in whichever range. A comparator crossing with a free capacitor stores a stamp of the next edge, and without one
none; whether the comparator has re-armed since the last one is a free value (log 5). After 65,536 stamps the converter
values are refined (a free function of the histogram, log 5). At the 64th counted shot the old coefficient bank is released.
-/
def Obligations.SampleTickAndCellEventsRun : Prop :=
  (∀ (s : State) (xs : List SampleIn), s.tb.locked = true → ∃ t : State, exec (.sampleTick xs) s = .next t ∧
    t.tb.tick = s.tb.tick + 1 ∧ t.p = s.p ∧ t.isl = s.isl ∧ t.mc = s.mc ∧ t.ske = s.ske ∧
    ∀ c, (∀ z ∈ xs, z.ch.val ≠ c) → t.cell c = s.cell c) ∧
  (∀ (x : Cell) (k : TrkSet) (n code : Nat) (t : Trk), x.trk = some t → t.held n = false → x.inDet n = false →
    (((4 * code : Nat) : Rat) - t.b) * (((4 * code : Nat) : Rat) - t.b) ≤ (k.clip * k.clip : Nat) * t.ms →
    ∃ u, (x.track k n code false).1.trk = some u ∧ (x.track k n code false).2 = true ∧
      u.b = t.b + (((4 * code : Nat) : Rat) - t.b) / (2 ^ k.bl : Nat) ∧ u.v = t.v ∧
      (x.track k n code false).1.excluded = 0) ∧
  (∀ (x : Cell) (k : TrkSet) (n code : Nat), (x.track k n code true).1.trk = x.trk ∧ (x.track k n code true).2 = false ∧
    (x.track k n code true).1.excluded = x.excluded + 1) ∧
  (∀ (x : Cell) (k : TrkSet) (n taps : Nat) (y : Int) (t : Trk), x.trk = some t → t.held n = false →
    (x.hist.take taps).length = taps → (∀ m ∈ x.hist.take taps, m.ex = false) →
    (x.trackNoise k n taps y).trk = some { t with v := t.v + ((y * y : Int) - t.v) / (2 ^ k.noise : Nat) }) ∧
  (∀ (s : State) (c : Fin 512),
    (∀ d, (s.cell c).det = some d → d.nd + 64 ≤ s.tb.tick → ∃ t : State, exec (.detectionForcedClose c) s = .next t ∧
      t = { s with cells := t.cells } ∧ (t.cell c).det = none ∧ (t.cell c).armed = true ∧
      (t.cell c).dets = (s.cell c).dets ++ [{ d with closed := true, forced := true }] ∧
      ∀ k, k ≠ c.val → t.cell k = s.cell k) ∧
    (∀ q t0, (s.cell c).override = some q → (s.cell c).trk = some t0 → t0.hold = none →
      ∃ t : State, exec (.baselineOverride c) s = .next t ∧ t = { s with cells := t.cells } ∧
        (t.cell c).trk = some { t0 with b := t0.b + (q - t0.b) / (2 ^ (s.trkSet c).bl : Nat) } ∧
        (t.cell c).override = none) ∧
    (∀ t0 a, (s.cell c).trk = some t0 → t0.hold = some a → a + 2048 < s.tb.tick →
      ∃ t : State, exec (.trackerHoldEnd c) s = .next t ∧ t = { s with cells := t.cells } ∧
        (t.cell c).trk = some { t0 with hold := none }) ∧
    (∃ t : State, exec (.trackerHoldEnd c) s = .next t ∧
      (∀ a, (s.cell c).firstUsed = some a → a + 2048 < s.tb.tick → (t.cell c).blind = false) ∧
      (∀ a, (s.cell c).firstUsed = some a → s.tb.tick ≤ a + 2048 → (t.cell c).blind = (s.cell c).blind) ∧
      ((s.cell c).firstUsed = none → (t.cell c).blind = (s.cell c).blind)) ∧
    (∀ q, s.blockWorks (c / 16) = true → (s.cell c).changing = false → (s.cell c).cmpArmed = true →
      (min (s.cell c).capA (s.cell c).capB ≤ s.tb.tick → ∃ t : State, exec (.timingComparatorCrossing c q) s = .next t ∧
        t = { s with cells := t.cells } ∧ (s.tb.tick + 1, q.toNat) ∈ (t.cell c).stamps ∧
        (t.cell c).stampN = (s.cell c).stampN + 1 ∧ ∀ k, k ≠ c.val → t.cell k = s.cell k) ∧
      (s.tb.tick < min (s.cell c).capA (s.cell c).capB → exec (.timingComparatorCrossing c q) s =
        .next (s.setCell c (fun x => { x with cmpArmed := false })))) ∧
    (∀ q, s.blockWorks (c / 16) = true → (s.cell c).changing = false → (s.cell c).cmpArmed = false →
      ∃ t : State, exec (.timingComparatorCrossing c q) s = .next t ∧ t = { s with free := s.free + 1, cells := t.cells } ∧
        (Config.freeNat s.free % 2 = 1 → t.cells = s.cells) ∧
        (Config.freeNat s.free % 2 = 0 → min (s.cell c).capA (s.cell c).capB ≤ s.tb.tick →
          (s.tb.tick + 1, q.toNat) ∈ (t.cell c).stamps)) ∧
    (65536 ≤ (s.cell c).stampN → exec (.tacRefinement c) s = .next (s.setCell c (fun x =>
      { x with q0S := some (Config.refine x.codes), stampN := 0, codes := [] }))) ∧
    ((s.cell c).old.isSome = true → 64 ≤ (s.cell c).j → exec (.fadeComplete c) s = .next (s.setCell c (fun x =>
      { x with old := none, j := 0 }))))

/-- The path of a return (R19, R26, R170, R172, R187 to R192). Correlation of the oldest detection that is decidable (log 21)
adds the return of its one unambiguous candidate at the end of its block, and a detection without one adds none. The
coincidence test takes the due return with the earliest crossing: one that fails is removed; under first four one that passes
takes the next of four slots, and a fifth is removed. When the search of a channel-shot under strongest four has ended, every
return it holds is passed on or removed and no other return changes. The merger grants the next waiting cell in cyclic order
and moves one return. The region goes on with the block it serves while its weight lasts, and then takes the next block that
has one waiting. -/
def Obligations.ReturnsFlowFromCellToRegion : Prop :=
  ∀ (s : State),
    (∀ (c : Fin 512) d, (s.cell c).dets.find? (fun d => !d.done) = some d → s.correlable c d.nd = true →
      d.masked = false →
      let mine := (s.cands c).filter (fun x => (x.2.headD default).nd == d.nd)
      let amb (x : Nat × List Det) : Bool := (s.cands c).any (fun y => y.1 ≠ x.1 && shares x.2 y.2)
      (∀ fire ds sh, mine.find? (fun x => !amb x) = some (fire, ds) → s.shot fire = some sh →
        ∃ t : State, exec (.codeCorrelation c) s = .next t ∧
          (t.blk (c / 16)).rets = (s.blk (c / 16)).rets ++ [s.mkRet c sh ds false] ∧
          (∀ b, b ≠ c.val / 16 → t.blk b = s.blk b) ∧ (∀ k, k ≠ c.val → t.cell k = s.cell k) ∧
          (∀ e ∈ (t.cell c).dets, e.nd = d.nd → e.done = true)) ∧
      (mine = [] → ∃ t : State, exec (.codeCorrelation c) s = .next t ∧ t.blocks = s.blocks ∧
        (∀ e ∈ (t.cell c).dets, e.nd = d.nd → e.done = true))) ∧
    (∀ (b : Fin 32) (r : Ret) l sh, ((s.blk b).rets.filter (fun r => !r.tested && (match s.shot r.shot with
        | some sh => decide (r.born + s.valFor sh DET_COINC_WINDOW_TK b + 2 ≤ s.tb.tick)
        | none => true))).mergeSort (fun x y => x.nd ≤ y.nd) = r :: l → s.shot r.shot = some sh → r.ch / 16 = b.val →
      let same (x : Ret) : Bool := x.ch == r.ch && x.nd == r.nd && x.shot == r.shot
      (s.coincides sh r = false → ∃ t : State, exec (.coincidenceTest b) s = .next t ∧
        (t.blk b).rets = (s.blk b).rets.filter (fun x => !same x)) ∧
      (s.coincides sh r = true → s.valFor sh DET_ECHO_POLICY r.ch = 0 → 4 ≤ tget 0 sh.slots r.ch →
        ∃ t : State, exec (.coincidenceTest b) s = .next t ∧ (t.blk b).rets = (s.blk b).rets.filter (fun x => !same x) ∧
          (t.cell r.ch).ovr = wrap 16 ((s.cell r.ch).ovr + 1)) ∧
      (s.coincides sh r = true → s.valFor sh DET_ECHO_POLICY r.ch = 0 → tget 0 sh.slots r.ch < 4 → sh.lad = 0 →
        ((s.blk b).rets.filter (fun x => x.ch == r.ch && x.passed)).length < 8 →
        ∃ t : State, exec (.coincidenceTest b) s = .next t ∧ (t.blk b).rets = (s.blk b).rets.map (fun x =>
          if same x then { x with tested := true, passed := true, echo := tget 0 sh.slots r.ch } else x))) ∧
    (∀ (c : Fin 512) fire sh, s.shot fire = some sh → sh.took c = true →
      (s.valFor sh DET_ECHO_POLICY c = 0 → exec (.subPulseSearchEnd c fire) s = .next s) ∧
      (s.valFor sh DET_ECHO_POLICY c ≠ 0 → sh.searchEnd ≤ s.tb.tick → s.slotsReady c sh = true →
        ∃ t : State, exec (.subPulseSearchEnd c fire) s = .next t ∧
          (∀ r ∈ (t.blk (c / 16)).rets, r.ch = c.val → r.shot = fire → r.tested = true → r.passed = true) ∧
          (t.blk (c / 16)).rets.filter (fun r => !(r.ch == c.val && r.shot == fire)) =
            (s.blk (c / 16)).rets.filter (fun r => !(r.ch == c.val && r.shot == fire)))) ∧
    (∀ (b : Fin 32) (d : Nat) (r : Ret), d < 16 →
      let i := ((s.blk b).last + 1 + d) % 16
      (∀ e, e < d → ∀ x ∈ (s.blk b).rets, x.passed = true → x.ch % 16 ≠ ((s.blk b).last + 1 + e) % 16) →
      (s.blk b).rets.find? (fun x => x.passed && x.ch % 16 == i) = some r →
      exec (.blockMergerGrant b) s = .next (s.setBlk b (fun k =>
        { k with rets := k.rets.erase r, out := k.out ++ [r], last := i }))) ∧
    (∀ (r : Fin 8) x rest, s.regionWorks r = true →
      let g := s.reg r
      (s.weight (4 * r + g.rr) ≠ 0 → g.rrLeft ≠ 0 → (s.blk (4 * r + g.rr)).out = x :: rest →
        exec (.regionFifoGrant r) s = .next ((s.setBlk (4 * r + g.rr) (fun b => { b with out := rest })).setReg r
          (fun g => { g with fifo := g.fifo ++ [x], rr := g.rr, rrLeft := g.rrLeft - 1 }))) ∧
      (∀ d, g.rrLeft = 0 → d < 4 → (∀ e, e < d → (s.blk (4 * r + (g.rr + 1 + e) % 4)).out = []) →
        s.weight (4 * r + (g.rr + 1 + d) % 4) ≠ 0 → (s.blk (4 * r + (g.rr + 1 + d) % 4)).out = x :: rest →
        exec (.regionFifoGrant r) s = .next ((s.setBlk (4 * r + (g.rr + 1 + d) % 4) (fun b => { b with out := rest })).setReg
          r (fun g => { g with fifo := g.fifo ++ [x], rr := (g.rr + 1 + d) % 4,
                               rrLeft := s.weight (4 * r + (g.rr + 1 + d) % 4) - 1 }))))

/-- R186, with the decision of R187. In absolute mode position j is cell j of the block, and the pattern applies only to
returns whose own cell is in its must mask. In relative mode position j is cell c + j − 8, and a position outside 0 to 15
satisfies either mask. A return is kept exactly when no enabled reject pattern applies and matches, and, where a pass pattern
is enabled, some enabled pass pattern applies and matches. -/
def Obligations.CoincidencePatternsDecide : Prop :=
  ∀ (s : State) (sh : Shot) (r : Ret),
    let b := r.ch / 16
    let c := r.ch % 16
    let w := s.valFor sh DET_COINC_WINDOW_TK b
    let present (k : Nat) : Prop := k = c ∨ ∃ e ∈ sh.rets, e.1 = 16 * b + k ∧ e.2 ≤ r.nd + w ∧ r.nd ≤ e.2 + w
    let pat (p : Nat) : List Word := s.coincFor sh b p
    let relative (p : Nat) : Prop := (wd (pat p) 0).bit 17 = true
    let position (p j k : Nat) : Prop := (relative p → k + 8 = c + j) ∧ (¬ relative p → k = j)
    let applies (p : Nat) : Prop := relative p ∨ (wd (pat p) 1).bit c = true
    let matches_ (p : Nat) : Prop := ∀ j k, j < 16 → k < 16 → position p j k →
      ((wd (pat p) 1).bit j = true → present k) ∧ ((wd (pat p) 1).bit (16 + j) = true → ¬ present k)
    let on (a : Bool) (p : Nat) : Prop := p < 16 ∧ (wd (pat p) 0).bit 15 = true ∧ (wd (pat p) 0).bit 16 = a
    (s.coincides sh r = true ↔
      (∀ p, on true p → ¬ (applies p ∧ matches_ p)) ∧
        ((∃ p, on false p) → ∃ p, on false p ∧ applies p ∧ matches_ p))

/-- The 06xxh commands (R215, R216, R231, R237, R248 to R251), while no image check is being computed. A bank write changes
only its words of the inactive bank (at the instant of a swap the one inactive after it) and disarms it. An arm is answered
when the check of the bank that was inactive at the command is computed: equal to W7 it arms the bank, unless that has become
the active one (log 66), else nothing but the answer changes. A disarm after the latch waits for the boundary. A start while
running, with domain 90 off or not settled, before PLL lock, in a device that is no conductor or with nothing to run changes
nothing (one during CH_SYNC_MEASURE waits: log 87); otherwise the sequencer runs and the first frame starts no sooner than
4,096 tk. A stop in mode 1 leaves no shot that has not fired, truncates the frame in progress with the entries it ran, and
keeps an armed bank; in mode 0 it is answered at the boundary, the start of a first frame being one (log 19). Actions 0 and 1
set the health of the masked emitters of one string, which is disabled with all 16 forced and returns where only that had
disabled it (log 67), while its shots that are blanked already keep what they have; action 2 waits for the boundary and is
for a disabled string. A proof becomes pending for each named string that is not disabled. -/
def Obligations.ShotSequencerCommandsComplete : Prop :=
  ∀ (s : State) (m : Fin 64),
    (s.turn m 0x0601 → exec (.shotStatusGet m) s = .next (s.respond m 0
      [pack [(s.seq.run, 2), (s.kept.active, 1), (b2n s.kept.armed, 1),
         (min 4 (s.seq.shots.filter (fun x => x.fired && x.fire ≤ s.tb.tick && s.tb.tick < x.winEnd)).length, 3),
         (b2n (!(s.bank s.kept.active).image), 1),
         (((s.seq.frames.find? (fun f => f.seq == s.kept.frame && !f.ovr)).map (·.s)).getD 256, 9)],
       w32 s.kept.frame, pack [(s.seq.rdNext, 18)], pack [(s.stringBits, 16)]])) ∧
    (let sec := (s.pw m 0).fld 2 0
     let first := (s.pw m 0).fld 31 8
     let n := (s.pw m 1).fld 9 0
     s.turn m 0x0604 → (s.pw m 0).fld 7 3 = 0 → (s.pw m 1).fld 31 10 = 0 → sec ≤ 4 → n ≤ 960 →
      first + n ≤ sectionWords sec → (∀ i, i < n → bankReserved sec (first + i) (s.pw m (2 + i)) = true) →
      s.seq.check = none → ∃ t : State, exec (.shotBankWrite m) s = .next (t.respond m 0 []) ∧ t = { s with kept := t.kept } ∧
        t.kept.active = s.kept.active ∧ t.kept.armed = (s.kept.armed && s.swapping) ∧ t.kept.frame = s.kept.frame ∧
        t.bank (1 - s.inactive) = s.bank (1 - s.inactive) ∧ (s.swapping = false → s.inactive = 1 - s.kept.active) ∧
        (∀ i, i < n → (t.bank s.inactive).at_ sec (first + i) = s.pw m (2 + i)) ∧
        ∀ q j, q ≤ 4 → j < 2 ^ 20 → (q ≠ sec ∨ j < first ∨ first + n ≤ j) →
          (t.bank s.inactive).at_ q j = (s.bank s.inactive).at_ q j) ∧
    (s.turn m 0x0605 → s.seq.check = none → ∃ t : State, exec (.shotBankArm m) s = .next t ∧
      t = { s with seq := { s.seq with check := some (m.val, s.inactive) }, ske := t.ske } ∧ (t.mbx m).st = 3) ∧
    (∀ k n, s.seq.check = some (k, n) → let b := s.bank n
      ∃ t : State, exec .bankImageCheckComplete s = .next (t.respond k 0
          [pack [(if b.check = (b.at_ 0 7).toNat then 0 else 1, 2)], w32 b.check]) ∧
        t = { s with seq := { s.seq with check := none, disarmAt := t.seq.disarmAt }, kept := t.kept } ∧
        (b.check = (b.at_ 0 7).toNat → t.kept.active = s.kept.active ∧ t.bank n = { b with image := true } ∧
          (n ≠ s.kept.active → t.kept.armed = true ∧ t.seq.disarmAt = false) ∧
          (n = s.kept.active → t.kept.armed = s.kept.armed ∧ t.seq.disarmAt = s.seq.disarmAt)) ∧
        (b.check ≠ (b.at_ 0 7).toNat → t.kept = s.kept ∧ t.seq.disarmAt = s.seq.disarmAt)) ∧
    (s.turn m 0x0606 → s.seq.check = none →
      let late : Prop := s.seq.latch ≠ [] ∨ (s.seq.run = 2 ∧ s.seq.bound ≤ s.tb.tick + 4096)
      (¬ late → exec (.shotBankDisarm m) s =
        .next (({ s with kept := { s.kept with armed := false } } : State).respond m 0 [])) ∧
      (late → exec (.shotBankDisarm m) s =
        .next (({ s with seq := { s.seq with disarmAt := true } } : State).respond m 0 []))) ∧
    (s.turn m 0x0607 → (s.pw m 0).fld 31 1 = 0 → s.seq.check = none → s.ch.measuring = none →
      let f := if (s.pw m 0).bit 0 then max (s.tb.tick + 4096) ((s.pw m 1).toNat + 2 ^ 32 * (s.pw m 2).toNat)
        else s.tb.tick + 4096
      (s.seq.run ≠ 0 ∨ s.dom 90 = false ∨ s.pwr.settling.getLsbD 90 = true ∨ s.tb.locked = false ∨ s.enum.cond = false ∨
          s.kept.armed = false ∧ (s.bank s.kept.active).image = false →
        exec (.shotSeqStart m) s = .next (s.respond m 0 [])) ∧
      (s.seq.run = 0 → s.dom 90 = true → s.pwr.settling.getLsbD 90 = false → s.tb.locked = true → s.enum.cond = true →
        (s.kept.armed = true ∨ (s.bank s.kept.active).image = true) →
        (f = s.tb.tick + 4096 → (s.bank s.bankNext).headerOk = true) →
        ∃ t : State, exec (.shotSeqStart m) s = .next (t.respond m 0 []) ∧ t.seq.run = 1 ∧ t.seq.first = some f ∧
          t.seq.bound = f ∧ t.kept = s.kept ∧ (f = s.tb.tick + 4096 → t.seq.latch ≠ []))) ∧
    (s.turn m 0x0608 → (s.pw m 0).fld 31 1 = 0 → s.seq.check = none →
      (s.seq.run = 0 → exec (.shotSeqStop m) s = .next (s.respond m 0 [])) ∧
      (s.seq.run ≠ 0 → (s.pw m 0).bit 0 = false → ∃ t : State, exec (.shotSeqStop m) s = .next t ∧ t.seq.run = 2 ∧
        t.seq.latch = [] ∧ t.seq.first = s.seq.first ∧ t.seq.stopMbx = s.seq.stopMbx ++ [m.val] ∧ t.kept = s.kept ∧ (t.mbx m).st = 3) ∧
      (s.inFrame = true → (s.pw m 0).bit 0 = true → ∃ t : State, exec (.shotSeqStop m) s = .next (t.respond m 0 []) ∧
        t.seq.run = 0 ∧ (∀ x ∈ t.seq.shots, x.fired = true) ∧ t.kept.frame = wrap 32 (s.kept.frame + 1) ∧
        (s.seq.disarmAt = false → t.kept.armed = s.kept.armed) ∧
        ∀ f ∈ s.seq.frames, f.seq = s.kept.frame →
          ∃ g ∈ t.seq.frames, g.seq = f.seq ∧ g.trunc = true ∧ g.ovr = true ∧ g.ran = f.ran)) ∧
    (s.turn m 0x0609 → (s.pw m 0).fld 31 3 = 0 →
      let k := (s.pw m 0).fld 2 0
      exec (.shotEmitterGet m) s = .next (s.respond m 0
        (pack [((s.string k).1, 2), ((s.string k).2.1, 2), ((s.string k).2.2, 4), (0, 8), (s.forced k, 16)] ::
          (List.range 16).flatMap (fun j =>
            let e := emKey k j
            [pack [(s.health k j, 2), (tget 0 s.p.proof e, 3), (0, 3), (sat 24 (tget 0 s.seq.heat e), 24)],
             w32 (tget 0 s.wear.pulses e), pack [(tget 0 s.wear.pulses e / 2 ^ 32, 16)],
             w32 (tget 0 s.wear.onTime e), pack [(tget 0 s.wear.onTime e / 2 ^ 32, 16)], 0])))) ∧
    (s.turnP m 0x060A → (s.pw m 0).fld 15 5 = 0 → (s.pw m 0).fld 4 3 ≠ 3 → s.seq.check = none →
      let k := (s.pw m 0).fld 2 0
      let act := (s.pw m 0).fld 4 3
      (act = 2 → exec (.shotEmitterSet m) s = .next
        (({ s with p := { s.p with enable := if (s.string k).1 = 3 then s.p.enable ||| 2 ^ k else s.p.enable } } : State).commitAnswer 6 (recordBytes 8) m [])) ∧
      (act ≠ 2 → ∃ t : State, exec (.shotEmitterSet m) s = .next (t.commitAnswer 6 (recordBytes 8) m []) ∧
        (∀ j, j < 16 → t.health k j = if (s.pw m 0).bit (16 + j) then (if act = 0 then 0 else 3) else s.health k j) ∧
        (∀ q j, q < 8 → j < 16 → q ≠ k → t.health q j = s.health q j ∧ t.string q = s.string q) ∧
        ((s.string k).1 ≠ 2 → s.seq.proofRun = [] →
          t = { s with p := { s.p with health := t.p.health, strings := t.p.strings },
                       seq := { s.seq with proofChg := t.seq.proofChg, proofAt := t.seq.proofAt, shots := t.seq.shots } } ∧
          t.seq.shots.map (fun x => { x with wasOff := none }) = s.seq.shots.map (fun x => { x with wasOff := none }) ∧
          (∀ x ∈ t.seq.shots, x.string = k → x.blanked = true → x.fired = false → (t.string k).1 ≠ (s.string k).1 →
            x.wasOff.isSome = true) ∧
          (t.forced k = 65535 → (t.string k).1 = 3 ∧ ((s.string k).1 ≠ 3 → (t.string k).2.1 = 3)) ∧
          (t.forced k ≠ 65535 → (s.string k).1 = 3 → (s.string k).2.1 = 3 → t.string k = (0, 0, 0)) ∧
          (t.forced k ≠ 65535 → ((s.string k).1 ≠ 3 ∨ (s.string k).2.1 ≠ 3) → t.string k = s.string k)))) ∧
    (s.turn m 0x060B → (s.pw m 0).fld 31 8 = 0 → s.seq.check = none →
      ((∀ k, k < 8 → (s.pw m 0).bit k = true → (s.string k).1 = 3) →
        exec (.shotProofRun m) s = .next (s.respond m 0 [0])) ∧
      (∀ k, k < 8 → (s.pw m 0).bit k = true → (s.string k).1 ≠ 3 → ∃ t : State, exec (.shotProofRun m) s = .next t ∧
        (t.mbx m).st = 3 ∧ (t.string k).1 = 2 ∧
        ∀ q, q < 8 → (s.pw m 0).bit q = false → t.string q = s.string q)) ∧
    (∀ e rest, s.seq.proofRun = e :: rest → exec .proofRunTimeout s = .next
      (({ s with seq := { s.seq with proofRun := rest } } : State).respond e.1 0
        [pack [(e.2.2, 8), (e.2.1 - e.2.2, 8)]]))

/-- Frames (R208 to R211, R215 to R217, R441, R445). At 4,096 tk before the boundary the next frame's bank is chosen: the
armed one where one is armed (and, with a chain, its reachable aligned members are), else the active one; its scale is at
least 64 and its RUN decision is taken; where the frame period is shorter than that, several frames are latched at once; a
bank whose header is a host error of the chapter is none to run from (R475). At its tick the first frame starts from the
latched bank with the sequence as it is; at each boundary the sequence counts up, the banks swap where so latched, and the
next boundary lies one frame period on. A sequencer stopping in mode 0 stops there, or where its first frame was to start
(log 19). A parameter set with more corroborating members than a group has is a host error of chapter 08, so it is excluded
here. The shot record is enqueued once for each shot in fire order when its angles are known, the frame record once every
shot of its frame is placed and recorded. -/
def Obligations.FramesRunFromTheLatchedBank : Prop :=
  ∀ (s : State),
    (s.follower = false → s.seq.run = 1 →
      (s.seq.latch = [] → s.seq.first = none → s.nextFrame = (wrap 32 (s.kept.frame + 1), s.seq.bound)) ∧
      (∀ l r, s.seq.latch = r ++ [l] → s.nextFrame = (wrap 32 (l.seq + 1), l.start + (s.bank l.bank).period)) ∧
      (s.tb.tick + 4096 < s.nextFrame.2 → exec .frameLatchTick s = .next s) ∧
      (s.nextFrame.2 ≤ s.tb.tick + 4096 →
        ((s.bank s.bankNext).headerOk = false → exec .frameLatchTick s = .fault (.hostError "bank header")) ∧
        ((s.bank s.bankNext).headerOk = true → ∃ (t : State) (l : Latch), exec .frameLatchTick s = .next t ∧
          t.seq.latch = s.seq.latch ++ [l] ∧ l.seq = s.nextFrame.1 ∧ l.start = s.nextFrame.2 ∧ 64 ≤ l.s ∧
          l.run = s.wantsRun ∧ t.kept = s.kept ∧ t.seq.run = 1 ∧ l.bank = s.bankNext ∧
          (s.seq.latch = [] → l.swap = (s.kept.armed && s.membersArmed) ∧
            l.bank = (if s.kept.armed && s.membersArmed then 1 - s.kept.active else s.kept.active))))) ∧
    ((s.work REJ_GROUP_SHOTS 0 = 0 ∨ s.work REJ_GROUP_MIN 0 ≤ s.work REJ_GROUP_SHOTS 0) →
      (∀ l later, s.seq.latch = l :: later →
        let bound := (later.head?.map (fun (l : Latch) => l.start)).getD (l.start + (s.bank l.bank).period)
        (∀ f, s.seq.first = some f → s.seq.run = 1 → f ≤ s.tb.tick → ∃ t : State, exec .firstFrameStart s = .next t ∧
          t.seq.first = none ∧ t.seq.latch = later ∧ t.seq.start = l.start ∧ t.kept.active = l.bank ∧
          t.kept.frame = s.kept.frame ∧ t.seq.bound = bound) ∧
        (s.inFrame = true → s.seq.bound ≤ s.tb.tick → s.seq.run = 1 →
          ∃ t : State, exec .frameBoundary s = .next t ∧ t.seq.latch = later ∧ t.seq.start = l.start ∧ t.kept.active = l.bank ∧
            t.kept.frame = l.seq ∧ t.seq.bound = bound ∧
            (l.swap = true → t.kept.armed = false) ∧ (l.swap = false → s.seq.disarmAt = false → t.kept.armed = s.kept.armed))) ∧
      (s.seq.latch = [] → s.inFrame = true → s.seq.bound ≤ s.tb.tick → s.seq.run = 2 →
        ∃ t : State, exec .frameBoundary s = .next t ∧ t.seq.run = 0 ∧ t.kept.active = s.kept.active ∧
          t.kept.frame = wrap 32 (s.kept.frame + 1) ∧ t.seq.stopMbx = []) ∧
      (∀ f, s.seq.first = some f → f ≤ s.tb.tick → s.seq.run = 2 → ∃ t : State, exec .firstFrameStart s = .next t ∧
        t.seq.run = 0 ∧ t.kept.frame = s.kept.frame ∧ t.seq.stopMbx = [])) ∧
    (∀ x, s.seq.shots.find? (fun x => x.fired && !x.recorded) = some x → x.angles = none → exec .shotRecordEnqueue s = .next s) ∧
    (∀ x, s.seq.shots.find? (fun x => x.fired && !x.recorded) = some x → x.angles.isSome = true → ∃ t : State, exec .shotRecordEnqueue s = .next t ∧
      t.eth = (s.enqueueAll 2 (fun _ => true) (fun _ => s.shotRecord x)).eth ∧
      ∀ y ∈ t.seq.shots, y.fire = x.fire → y.recorded = true) ∧
    (∀ f rest, s.seq.frames = f :: rest → f.ovr = true →
      (∀ x ∈ s.seq.shots, x.frame = f.seq → x.fired = true ∧ x.placed = true ∧ x.recorded = true) →
      ∃ t : State, exec .frameRecordEnqueue s = .next t ∧ t.seq = { s.seq with frames := rest } ∧
        t.eth = (s.enqueueAll 7 (fun _ => true) (fun _ => s.frameRecord f)).eth)

/-- R245: the sequencer reads the next entry; the accumulator starts at 0 with the frame's first entry. An entry other than a
diagnose entry adds the rate scale, and runs where the accumulator reaches 256, which is then taken off, or is dropped. A
diagnose entry always runs and leaves the accumulator. A dropped entry joins no list of shots, so it fires nothing, opens no
window, has no shot record and no part in attribution; its fire tick and set-point still go to the engine (R213). An entry
that holds a host error of the chapter (a field outside its range, less than 1,600 tk after the one before, more shots in
flight than the limit) stops the block (R475). -/
def Obligations.RateScaleRunsAndDropsEntries : Prop :=
  (∀ (s : State) bank i frame start sc run acc, s.nextEntry = some (bank, i, frame, start, sc, run, acc) →
    let x := (s.bank bank).shot i frame start sc run
    let kept : List Shot := s.seq.shots ++ [{ x with readAt := s.tb.tick }]
    let fits : Prop := (s.bank bank).entryOk i = true ∧ s.spaced x = true
    (fits → s.flightOk bank x = true ∨ (x.diag = false ∧ acc + sc < 256) →
      ∃ t : State, exec .scheduleReadAhead s = .next t ∧ t.seq.rdBank = bank ∧ t.seq.rdNext = i + 1 ∧ t.seq.rdFrame = frame ∧
        t.mc.marks = (if s.works 88 then s.mc.marks ++ [(x.fire, x.mirror)] else []) ∧
        (x.diag = true → t.seq.rdAcc = acc ∧ t.seq.shots = kept) ∧
        (x.diag = false → 256 ≤ acc + sc → t.seq.rdAcc = acc + sc - 256 ∧ t.seq.shots = kept) ∧
        (x.diag = false → acc + sc < 256 → t.seq.rdAcc = acc + sc ∧ t.seq.shots = s.seq.shots)) ∧
    ((¬ fits ∨ (s.flightOk bank x = false ∧ (x.diag = true ∨ 256 ≤ acc + sc))) →
      ∃ why, exec .scheduleReadAhead s = .fault (.hostError why))) ∧
  (∀ (s : State) bank frame start sc run acc, s.nextEntry = some (bank, 0, frame, start, sc, run, acc) →
    s.seq.rdNext ≠ 0 → acc = 0) ∧
  (∀ (s : State) bank i frame start sc run acc, s.nextEntry = some (bank, i, frame, start, sc, run, acc) → i ≠ 0 →
    acc = s.seq.rdAcc ∧ sc = s.seq.rdS ∧ frame = s.seq.rdFrame ∧ i = s.seq.rdNext) ∧
  (∀ (s : State), s.nextEntry = none → exec .scheduleReadAhead s = .next s)

/-- Firing (R214, R218, R222, R228 to R231, R238, R240, R242, R243). In blanking the applied pattern is the entry's ORed with
the string's forced mask, and the thresholds are those of its emitters in series that are not shorted. A transfer is made
only where string or pattern differ from the last emitting shot's; its 24 bits leave most significant first at the rising
edges of its clock, and the latch pulse follows one period after the last (R221). At its fire tick a shot outside RUN is
taken out; one with a dark cause is fired with that cause and leaves heat, ageing counts and outputs as they are; any other
raises and lowers the output of its string once for each sub-pulse, at its edge, unless the blanking interval before it is
shorter than the gap (a host error, R475). A strobe comes half the width and SHOT_DIAG_DELAY after its sub-pulse's rise
(R227); it compares with the limits in the order over-current, no current, low, high; the last strobe of a shot judges it: a
pass clears the failures, over-current disables the string, and enough failures make a proof pending. A heat estimate loses
its part of 2 to the shift. -/
def Obligations.ShotsFireOrRunDark : Prop :=
  ∀ (s : State),
    (∀ x, s.nextShot = some x → x.blanked = false → ∃ t : State, exec .blankingStart s = .next t ∧
      t = { s with seq := t.seq } ∧ t.seq.heat = s.seq.heat ∧
      ∀ y, t.shot x.fire = some y → y.blanked = true ∧ (x.diag = false → x.proof = none →
        let a := ((inSeries (x.mask ||| s.forced x.string)).filter (fun j => s.health x.string j ≠ 2)).length
        y.applied = x.mask ||| s.forced x.string ∧
          (1 ≤ a → y.vlo = (2 * a - 1) * s.cur SHOT_VF_MV x.string + 2 * s.cur SHOT_V0_MV x.string) ∧
          y.vhi = (2 * a + 1) * s.cur SHOT_VF_MV x.string + 2 * s.cur SHOT_V0_MV x.string)) ∧
    (∀ x, s.nextShot = some x → x.blanked = true → x.shifted = false → s.emits x = true →
      ∃ t : State, exec .patternTransfer s = .next t ∧ t = { s with seq := t.seq } ∧
        (s.seq.lastPat = some (x.string, x.applied) → t.seq.ems = s.seq.ems) ∧
        (s.seq.lastPat ≠ some (x.string, x.applied) → t.seq.ems = some
          { word := packNat [(x.applied, 16), (x.string, 3)], period := 10 * 2 ^ s.val SHOT_EMS_CLK
            first := (x.fire : Int) - ceilDiv (8 * (25 * (10 * 2 ^ s.val SHOT_EMS_CLK) + s.val SHOT_EMS_SETTLE_NS)) 5 }) ∧
        t.seq.lastPat = s.seq.lastPat) ∧
    (∀ (e : Ems) (k : Nat) (x : Rat), k < 24 → 0 < e.period → 0 ≤ x → x < (e.period : Nat) →
      let p : Rat := (e.period : Nat)
      e.clk (k * p) = true ∧ e.clk (k * p + p / 2) = false ∧ e.lat (k * p) = false ∧
        e.dat (k * p) = some (e.word >>> (23 - k) % 2 == 1) ∧ e.clk (24 * p + x) = false ∧ e.lat (24 * p + x) = true ∧
        e.lat (25 * p + x) = false) ∧
    (∀ x, s.nextShot = some x → s.shot x.fire = some x → x.fire ≤ s.tb.tick → x.blanked = true → x.proof = none →
      s.enum.cond = true → s.follower = false →
      (s.live x = false → exec .shotFire s = .next
        { s with seq := { s.seq with shots := s.seq.shots.filter (fun y => y.fire ≠ x.fire) } }) ∧
      (s.live x = true → (x.hist = false ∨ ∀ b g, g ∈ (s.blk b).acc → g.ending = true) →
        let dark := if s.darkCause x ≠ 0 then s.darkCause x else if x.hot then 2 else 0
        (dark = 0 → s.gapOk x = false →
          exec .shotFire s = .fault (.hostError "blanking interval shorter than the gap")) ∧
        ((dark = 0 → s.gapOk x = true) → ∃ (t : State) (y : Shot), exec .shotFire s = .next t ∧ t.shot x.fire = some y ∧ y.fired = true ∧ y.dark = dark ∧
          (dark ≠ 0 → t.seq.subs = s.seq.subs ∧ t.seq.ems = s.seq.ems ∧ t.seq.heat = s.seq.heat ∧ t.wear = s.wear ∧
            t.seq.pulses = s.seq.pulses) ∧
          (dark = 0 → t.seq.subs = x.offs.map (fun d => (x.string, 16 * (x.fire + d) + x.edge,
              16 * (x.fire + d) + x.edge + x.width)) ∧ t.seq.pulses = s.seq.pulses + x.pulses ∧
            t.seq.lastPat = some (x.string, x.applied) ∧
            (∀ j, j ∈ inSeries x.applied → tget 0 t.wear.pulses (emKey x.string j) =
              wrap 48 (tget 0 s.wear.pulses (emKey x.string j) + x.pulses)) ∧
            ∀ j, j ∈ inSeries x.applied → tget 0 t.seq.heat (emKey x.string j) =
              tget 0 s.seq.heat (emKey x.string j) + x.pulses * s.heatOf x.pulseWidth)))) ∧
    (∀ n k, (s.running = false → s.emf n = none) ∧
      (s.emf n = some k → ∃ e ∈ s.seq.subs, e.1 = k ∧ e.2.1 ≤ n ∧ n < e.2.2)) ∧
    (∀ (x : Shot) (sns emv : Rat), s.strobe x sns emv =
      if ((s.val SHOT_IMAX_MV : Nat) : Rat) < sns then 1 else if sns < ((s.val SHOT_IOPEN_MV : Nat) : Rat) then 2
      else if emv < ((x.vlo : Nat) : Rat) / 2 then 3 else if ((x.vhi : Nat) : Rat) / 2 < emv then 4 else 0) ∧
    (∀ x sns emv, s.seq.shots.reverse.find? (fun x => x.fired && x.dark == 0) = some x → s.follower = false → x.judged < x.pulses →
      (16 * (s.tb.tick + 1) ≤ (s.strobes x).getD x.judged 0 → exec (.diagnosisStrobe sns emv) s = .next s) ∧
      ((s.strobes x).getD x.judged 0 < 16 * (s.tb.tick + 1) →
      let cause := firstCause x.cause (s.strobe x sns emv)
      let k := x.string
      let n := (s.string k).2.2
      (x.judged + 1 < x.pulses → exec (.diagnosisStrobe sns emv) s = .next
        (s.setShot x.fire (fun y => { y with judged := y.judged + 1, cause := cause }))) ∧
      (x.judged + 1 = x.pulses → x.proof = none → (s.string k).1 ≠ 3 → ∃ t : State, exec (.diagnosisStrobe sns emv) s = .next t ∧
        (∀ q, q ≠ k → t.string q = s.string q) ∧
        (cause = 0 → t.string k = (if (s.string k).1 = 1 then 0 else (s.string k).1, (s.string k).2.1, 0)) ∧
        (cause = 1 → (t.string k).1 = 3 ∧ (t.string k).2.1 = 1) ∧
        (2 ≤ cause → n + 1 < s.val SHOT_DIAG_CONFIRM →
          t.string k = (if (s.string k).1 = 0 then 1 else (s.string k).1, (s.string k).2.1, min 15 (n + 1))) ∧
        (2 ≤ cause → s.val SHOT_DIAG_CONFIRM ≤ n + 1 → (s.string k).1 ≠ 2 →
          (t.string k).1 = 2)))) ∧
    (∀ (x : Shot) i, i < x.offs.length → x.proof = none → (s.strobes x).getD i 0 =
      16 * (x.fire + x.offs.getD i 0) + x.edge + x.width / 2 + s.val SHOT_DIAG_DELAY) ∧
    (Tab.sorted s.seq.heat = true → ∃ t : State, exec .heatDecay s = .next t ∧
      t = { s with seq := { s.seq with heat := t.seq.heat } } ∧
      ∀ k, tget 0 t.seq.heat k = tget 0 s.seq.heat k - tget 0 s.seq.heat k / 2 ^ s.val SHOT_HEAT_SHIFT)

/-- R205: bit c mod 32 of word c/32 of receive set i puts channel c in the set, and a shot with a set of all zeros fires and
listens on nothing: it opens no window and no channel counts as one that does not listen. R207: pattern p is the low half of
word p/2 of section 4 when p is even and the high half when p is odd, and emitter j is in series exactly where bit j is
clear. -/
def Obligations.ReceiveSetsAndPatternsAreReadAsLaidOut : Prop :=
  (∀ (k : Bank) (i c : Nat), c < 512 → (k.rset i).getLsbD c = (k.at_ 2 (16 * i + c / 32)).bit (c % 32)) ∧
  (∀ (s : State) (x : Shot), x.rset = 0 →
    s.openers x = 0 ∧ (s.withWindows x (s.openers x)).opened = 0 ∧ (s.withWindows x (s.openers x)).part = 0 ∧
      (s.withWindows x (s.openers x)).deaf = 0) ∧
  (∀ (k : Bank) (p j : Nat), j < 16 →
    (k.pattern (2 * p) = (k.at_ 4 p).fld 15 0) ∧ (k.pattern (2 * p + 1) = (k.at_ 4 p).fld 31 16) ∧
    (k.pattern p >>> j % 2 = 1 ↔ j ∉ inSeries (k.pattern p)))

/-- The 07xxh commands (R253, R275, R280 to R283, R289, R290). CAP_STATUS_GET and MEM_STATUS_GET answer their tables.
CAP_PROFILE_SET stores a profile in its ranges for the next frame, the profile in force and the other profiles unchanged;
CAP_PROFILE_GET answers the stored words. LB_FREEZE moves a live recorder to post, or to frozen where CAP_LB_POST_MS is 0,
answers 1 in any other state, and answers 1 where domain 94 does not act (log 23). LB_RELEASE ends a dump and the freeze and
protects no segment any more. LB_DUMP of a recorder that is not frozen answers 1; of a frozen one it starts a dump of exactly
the protected released segments of the channels and first ticks named, in order of first tick. -/
def Obligations.CaptureCommandsComplete : Prop :=
  ∀ (s : State) (m : Fin 64),
    (s.turn m 0x0701 → exec (.capStatusGet m) s = .next (s.respond m 0
      [pack [(s.lad.step, 2), (s.lad.sL, 9), (s.look.st, 2), (b2n s.look.dump.isSome, 1)],
       pack [(s.lad.fills.1, 8), (s.lad.fills.2.1, 8), (s.lad.fills.2.2, 8)],
       w32 (sat 32 (((List.range 8).map (fun r => ringDepth (s.reg r).ring)).min?.getD 0)), w32 s.look.missed,
       w32 s.look.ovr])) ∧
    (s.turnP m 0x0704 → (s.pw m 0).fld 31 2 = 0 → profileOk (s.pw m 1) (s.pw m 2) (s.pw m 3) = true →
      let p := (s.pw m 0).fld 1 0
      ∃ t : State, exec (.capProfileSet m) s = .next (t.commitAnswer 7 (recordBytes 3) m []) ∧
        t = { s with profNow := t.profNow, p := { s.p with profs := t.p.profs } } ∧
        t.profile p = [s.pw m 1, s.pw m 2, s.pw m 3] ∧ (∀ q, q ≠ p → t.profile q = s.profile q) ∧
        ∀ q, t.profileNow q = s.profileNow q) ∧
    (s.turn m 0x0705 → (s.pw m 0).fld 31 2 = 0 →
      exec (.capProfileGet m) s = .next (s.respond m 0 (s.profile ((s.pw m 0).fld 1 0)))) ∧
    (s.turn m 0x0706 → (s.pw m 0).fld 31 3 = 0 →
      let x := s.memCh ((s.pw m 0).fld 2 0)
      let k := s.memCfg
      exec (.memStatusGet m) s = .next (s.respond m 0
        [pack [(x.st, 2), (k.fld 18 14, 5), (k.fld 20 19, 2), (k.fld 13 0, 14)], w32 x.corr, w32 x.uncorr,
         pack [(x.mult, 3), (x.retrains, 16)]])) ∧
    (s.turn m 0x0707 → s.acts 94 = false → exec (.lbFreeze m) s = .next (s.respond m 0 [1])) ∧
    (s.turn m 0x0707 → s.acts 94 = true →
      (s.look.st = 0 → ∃ t : State, exec (.lbFreeze m) s = .next (t.respond m 0 [w32 0]) ∧
        t.look.st = (if s.work CAP_LB_POST_MS 0 = 0 then 2 else 1) ∧ t.look.since = s.tb.tick ∧ t.p = s.p) ∧
      (s.look.st ≠ 0 → ∃ t : State, exec (.lbFreeze m) s = .next (t.respond m 0 [w32 1]) ∧ t.look.st = s.look.st ∧
        t.look.ignored = s.look.ignored + 1 ∧ t.regions = s.regions)) ∧
    (s.turn m 0x0708 → ∃ t : State, exec (.lbRelease m) s = .next (t.respond m 0 []) ∧ t.look.st = 0 ∧ t.look.dump = none ∧
      t.p = s.p ∧ t.cells = s.cells ∧
      (Tab.sorted s.regions = true → ∀ r, ∀ g ∈ (t.reg r).ring, g.prot = false)) ∧
    (let first := (s.pw m 0).fld 8 0
     let n := (s.pw m 0).fld 18 9
     let lo := (s.pw m 2).toNat + 2 ^ 32 * (s.pw m 3).toNat
     let hi := (s.pw m 4).toNat + 2 ^ 32 * (s.pw m 5).toNat
     let named (g : Seg) : Prop := g.prot = true ∧ g.fate = 2 ∧ first ≤ g.ch ∧ g.ch < first + n ∧ lo ≤ g.first ∧ g.first ≤ hi
     s.turn m 0x0709 → (s.pw m 0).fld 31 19 = 0 → (s.pw m 1).fld 31 15 = 0 → (s.pw m 6).fld 31 13 = 0 → n ≤ 512 →
      first + n ≤ 512 → 1 ≤ (s.pw m 6).fld 12 0 → (s.pw m 6).fld 12 0 ≤ 6250 →
      (s.bindOf ((s.pw m 1).fld 14 0)).port ≠ 0 →
      (s.look.st ≠ 2 → exec (.lbDump m) s = .next (s.respond m 0 [1])) ∧
      (s.look.st = 2 → ∃ (t : State) (d : Dump), exec (.lbDump m) s = .next (t.respond m 0 [0]) ∧ t.look.dump = some d ∧
        t.look.st = 2 ∧ d.dest = (s.pw m 1).fld 14 0 ∧ d.rate = (s.pw m 6).fld 12 0 ∧ d.sent = 0 ∧
        (∀ r g, (r, g) ∈ d.left ↔ r < 8 ∧ g ∈ (s.reg r).ring ∧ named g) ∧
        d.left.Pairwise (fun a b => a.2.first ≤ b.2.first)))

/-- Capture and memory events (R255, R256, R258, R263, R266, R270 to R272, R274, R275, R280, R282). A segment with its last
sample is marked so; drained, it leaves its cell, freed ones for good, the others into their region's write queue, whose port
writes them into the ring, or the spill area while the home channel is away, once no histogram readout waits. The banks of a
block swap exactly when the accumulating one is complete and the readout one empty; a completed readout that the staging can
take empties its bank. A group whose windows are over closes. A trained channel is in use or in self-refresh, a failed one
takes its region's segments away; a retraining needs 15 °C and no other one running, and lasts until its training completes,
or fails. Errors in one symbol are corrected and counted; in more they drop what was read, and in the application core area
bring the safe state. A write-CRC error whose retry fails is the region's fault. Post expiry freezes. Each dump step sends
one segment, the last one ends the dump. A ladder sample moves the step as R285 says. -/
def Obligations.CaptureAndMemoryEventsRun : Prop :=
  ∀ (s : State),
    (∀ (c : Fin 512) g, (s.cell c).segs.find? (fun g => !g.ended && decide (g.len ≤ g.smp.length)) = some g →
      ∃ t : State, exec (.segmentCaptureEnd c) s = .next t ∧ t.cells =
        (s.setCell c (fun x =>
          { x with segs := firstSeg (fun g => !g.ended && decide (g.len ≤ g.smp.length)) (fun g => { g with ended := true }) x.segs })).cells ∧
        t.regions = s.regions ∧ t.p = s.p) ∧
    (∀ (c : Fin 512) g, (s.cell c).segs.find? (·.ended) = some g →
      let u := s.setCell c (fun x => { x with segs := x.segs.erase g })
      (g.fate = 3 → exec (.segmentDrained c) s = .next u) ∧
      (g.fate ≠ 3 → s.regionWorks (c / 64) = true → 262144 < (s.reg (c / 64)).queued + g.bytes →
        exec (.segmentDrained c) s = .next s) ∧
      (g.fate ≠ 3 → s.regionWorks (c / 64) = true → (s.reg (c / 64)).queued + g.bytes ≤ 262144 →
        let r := c.val / 64
        (s.portBusy r = true → exec (.segmentDrained c) s = .next (u.setReg r (fun x => { x with wq := x.wq ++ [g] }))) ∧
        (∀ spill, s.portBusy r = false → (s.reg r).noSeg = false → s.writesTo r = some spill →
          ∃ t : State, exec (.segmentDrained c) s = .next t ∧ t.cells = u.cells ∧ (t.reg r).wq = [] ∧
            ((s.reg r).wq = [] → ∃ gen, let ring := (s.reg r).ring ++ [{ g with spill := spill, gen := gen }]
              (t.reg r).ring = (trimRing spill (areaBytes spill ring) (s.liveBytes r spill) ring).1)))) ∧
    (∀ b : Fin 32, ((s.blk b).rd ≠ [] → s.bankFits b (s.blk b).rd = true → ∃ t : State, exec (.histogramReadoutComplete b) s = .next t ∧
        t.blocks = (s.setBlk b (fun k => { k with rd := [] })).blocks ∧ t.cells = s.cells) ∧
      exec (.histogramBankSwap b) s = .next (s.setBlk b Block.swap)) ∧
    (∀ b : Block, (b.complete = true → b.rd = [] → b.swap.rd = b.acc.filter (fun g => g.acc ≠ 0) ∧
        b.swap.acc = b.acc.filter (fun g => g.acc == 0)) ∧
      (b.complete = false ∨ b.rd ≠ [] → b.swap = b)) ∧
    (∀ (c : Fin 512) g, (s.blk (c / 16)).acc.find? (fun g => g.ch == c.val && g.ending && !g.closed && g.opens.isEmpty &&
        decide (g.endAt ≤ s.tb.tick)) = some g →
      (g.acc = 0 → ∃ t : State, exec (.histogramGroupClose c) s = .next t ∧
        t.blocks = (s.setBlk (c / 16) (fun b => { b with acc := b.acc.erase g })).blocks) ∧
      (g.acc ≠ 0 → ∃ t : State, exec (.histogramGroupClose c) s = .next t ∧
        (t.blk (c / 16)).acc = (s.blk (c / 16)).acc.map (fun h => if h = g then { h with closed := true } else h))) ∧
    (∀ (ch : Fin 8) temp, (s.memCh ch).st ≠ 0 → s.pwr.good = true →
      (∃ t : State, exec (.memoryTrainingComplete ch true temp) s = .next t ∧ (t.reg ch).noSeg = false ∧
        t.memCh ch = { s.memCh ch with st := if s.dom (72 + ch) then 0 else 3, temp := temp }) ∧
      (∃ t : State, exec (.memoryTrainingComplete ch false temp) s = .next t ∧ (t.memCh ch).st = 2 ∧ (t.reg ch).noSeg = true)) ∧
    (∀ (ch : Fin 8) temp, (s.memCh ch).st = 1 → s.pwr.good = true →
      (∃ t : State, exec (.memoryRetrain ch temp true) s = .next t ∧ (t.reg ch).noSeg = false ∧
        t.memCh ch = { s.memCh ch with st := if s.dom (72 + ch) then 0 else 3, temp := temp }) ∧
      (∃ t : State, exec (.memoryRetrain ch temp false) s = .next t ∧ (t.memCh ch).st = 2 ∧ (t.reg ch).noSeg = true)) ∧
    (∀ ch : Fin 8, (s.memCh ch).st = 0 →
      exec (.strobeDriftTrack ch) s = .next (s.setMem ch (fun x => { x with tracks := x.tracks + 1 })) ∧
      (∀ temp ok, 240 ≤ (temp - (s.memCh ch).temp).natAbs → (∀ e ∈ s.mem, e.2.st ≠ 1) →
        ∃ t : State, exec (.memoryRetrain ch temp ok) s = .next t ∧
          t.memCh ch = { s.memCh ch with st := 1, retrains := sat 16 ((s.memCh ch).retrains + 1) } ∧
          ∀ k, k ≠ ch.val → t.memCh k = s.memCh k) ∧
      (∀ temp ok, (temp - (s.memCh ch).temp).natAbs < 240 → exec (.memoryRetrain ch temp ok) s = .next s) ∧
      (∀ (mult : Fin 4) hot, ∃ t : State, exec (.refreshRateRead ch mult hot) s = .next t ∧
        t.memCh ch = { s.memCh ch with mult := mult.val + 1 })) ∧
    (∀ (ch area : Fin 8) i, exec (.memoryReadError ch 0 area i) s = .next s ∧
      (∃ t : State, exec (.memoryReadError ch 1 area i) s = .next t ∧ t.regions = s.regions ∧
        t.memCh ch = { s.memCh ch with corr := wrap 32 ((s.memCh ch).corr + 1), scrub := (s.memCh ch).scrub + 1 }) ∧
      ∀ n, 2 ≤ n → ∃ t : State, exec (.memoryReadError ch n area i) s = .next t ∧
        (t.memCh ch).uncorr = wrap 32 ((s.memCh ch).uncorr + 1) ∧ (t.memCh ch).corr = (s.memCh ch).corr ∧
        (area.val = 1 → s.pwr.alive = true → s.chipRuns = true → s.restarting = false → t.pwr.safe = true) ∧
        (area.val ≠ 1 → t.pwr = s.pwr ∧ (t.memCh ch).st = (s.memCh ch).st) ∧
        (area.val = 6 → ∀ g, ((s.reg ch).ring.filter (fun g => g.spill == false))[i]? = some g →
          (t.reg ch).ring = (s.reg ch).ring.erase g)) ∧
    (∀ ch : Fin 8,
      exec (.writeCrcError ⟨ch, false⟩) s = .next (s.setMem ch (fun x => { x with crc := x.crc + 1 })) ∧
      ((s.reg ch).disabled = false → s.dom (64 + ch) = true → s.pwr.safe = false →
        ∃ t : State, exec (.writeCrcError ⟨ch, true⟩) s = .next t ∧ ((t.reg ch).restart = true ∨ (t.reg ch).disabled = true))) ∧
    (s.look.st = 1 → ∃ t : State, exec .lbPostExpiry s = .next t ∧ t.look = { s.look with st := 2 } ∧ t.cells = s.cells) ∧
    (∀ d, s.look.dump = some d →
      let left := d.left.filter (fun e => (s.reg e.1).ring.any (fun g => g.ch == e.2.ch && g.first == e.2.first))
      (left = [] → ∃ t : State, exec .lbDumpSegment s = .next t ∧ t.look.dump = none) ∧
      (∀ r g rest, left = (r, g) :: rest → ∃ t : State, exec .lbDumpSegment s = .next t ∧
        (rest = [] → t.look.dump = none) ∧
        (rest ≠ [] → t.look.dump = some { d with left := rest, sent := wrap 32 (d.sent + 1) } ∧
          t.eth = (s.enqueue d.dest (s.segWords g true)).2.eth))) ∧
    (∀ w : Nat, let u := s.force .ladder
      let p := 100 * max (u.fills w).1 (max (u.fills w).2.1 (u.fills w).2.2)
      ∃ t : State, exec (.ladderSample w) s = .next t ∧ t.cells = s.cells ∧
        t.lad.step = (s.lad.sample (s.work CAP_LADDER_MAX_STEP 0) s.tb.tick
          (decide (((s.work CAP_LADDER_HI_PCT 0 : Nat) : Rat) ≤ p)) (decide (p < ((s.work CAP_LADDER_LO_PCT 0 : Nat) : Rat)))).step)

/-- R287. A ladder whose scale is 256 outside step 3 keeps it so at every sample and latch. Entering step 3 sets the scale to
224, which the first latch takes as it is (the chapter's example). At a later latch in step 3 it falls by 32, to no less than
64, where a sample since the latch before reached the high limit; rises by 32 where every sample stayed below the low one;
else it is unchanged; at 256 the ladder returns to step 2. The samples since a latch are remembered by two bits that a latch
clears. -/
def Obligations.LadderScaleFollowsThePressure : Prop :=
  ∀ (l : Ladder) (max_ tick : Nat) (hi lo : Bool), max_ ≤ 3 →
    ((l.step ≠ 3 → l.sL = 256) →
      ((l.sample max_ tick hi lo).step ≠ 3 → (l.sample max_ tick hi lo).sL = 256) ∧
      ((l.latch tick).step ≠ 3 → (l.latch tick).sL = 256)) ∧
    (l.step = 3 → (l.sample max_ tick hi lo).step = 3 ∧ (l.sample max_ tick hi lo).sL = l.sL) ∧
    (l.step ≠ 3 → (l.sample max_ tick hi lo).step = 3 →
      (l.sample max_ tick hi lo).sL = 224 ∧ (l.sample max_ tick hi lo).entered = true ∧
      ((l.sample max_ tick hi lo).latch tick).sL = 224 ∧ ((l.sample max_ tick hi lo).latch tick).step = 3) ∧
    ((l.sample max_ tick hi lo).hiSeen = (l.hiSeen || hi) ∧ (l.sample max_ tick hi lo).loAll = (l.loAll && lo)) ∧
    ((l.latch tick).hiSeen = false ∧ (l.latch tick).loAll = true ∧ (l.latch tick).entered = (l.entered && l.step ≠ 3)) ∧
    (l.step = 3 → l.entered = false →
      (l.latch tick).sL = (if l.hiSeen then max 64 (l.sL - 32) else if l.loAll then min 256 (l.sL + 32) else l.sL) ∧
      ((l.latch tick).step = if (l.latch tick).sL = 256 then 2 else 3)) ∧
    (l.step ≠ 3 → (l.latch tick).sL = 256 ∧ (l.latch tick).step = l.step)

/-- REJ_STATUS_GET answers the number of tracked trains, the sunlit channels with their mask and the ten counts;
REJ_TRAIN_LIST six words a tracked train. REJ_TRAIN_DROP removes exactly the named trains with their stamps, which join no
unassigned stamps, and changes no decision of the engine (R302, R314, R329). -/
def Obligations.RejectionCommandsComplete : Prop :=
  ∀ (s : State) (m : Fin 64),
    (s.turn m 0x0801 → let sun : BitVec 512 := maskOf (fun c => (s.cell c).sun)
      exec (.rejStatusGet m) s = .next (s.respond m 0 (pack [(s.est.trains.length, 6), (popcount sun, 10)] ::
        (List.range 16).map (fun i => w32 (sun.toNat >>> (32 * i))) ++ (span 17 10).map (fun w => w32 (tget 0 s.rej.n w))))) ∧
    (s.turn m 0x0804 → exec (.rejTrainList m) s = .next (s.respond m 0
      (w32 ((s.est.trains.map (fun e => 2 ^ e.1)).sum) :: s.est.trains.flatMap (fun e => s.trainWords e.1 e.2)))) ∧
    (s.turn m 0x0805 → ∃ t : State, exec (.rejTrainDrop m) s = .next (t.respond m 0 []) ∧
      t.est = { s.est with trains := s.est.trains.filter (fun e => !(s.pw m 0).bit e.1) } ∧ t.regions = s.regions ∧
      t.rej = s.rej ∧ t.p = s.p)

/-- The confirmation engine (R34, R193, R293, R297 to R299, R318 to R321, R324). The head of the point FIFO enters with its
entry tick, and no return in the engine is lost; in the safe state it enters retracted with cause 6. A return in time with a
bound queue that has room takes the next identifier, which runs 1 to 65,535 and never 0, and joins the outstanding verdicts;
without a queue it has no record. A foreign check that is due and finds an arrival decides cause 1; no decision 56 µs after
entry decides cause 4 (each channel, crossing and shot being held once). Verdicts leave in identifier order only: an
undecided oldest one holds back the rest; a decided one is sent, and confirmed enters the collector while that holds less
than 8,192 and the state is not the safe state. A final channel-shot is marked. The collector places the next shot in fire
order once every channel is done and no segment of it is pending, and waits else. -/
def Obligations.ConfirmationEngineEventsRun : Prop :=
  ∀ (s : State) (r : Fin 8),
    let same (p q : Prov) : Prop := q.r.ch = p.r.ch ∧ q.r.nd = p.r.nd ∧ q.r.shot = p.r.shot
    let once : Prop := (s.reg r).eng.Pairwise (fun p q => ¬ same p q) ∧ ∀ p ∈ (s.reg r).eng, p.r.ch / 64 = r.val
    (∀ x rest, s.regionWorks r = true → (s.reg r).fifo = x :: rest → x.ch / 64 = r.val → ∃ t : State, exec (.provisionalEntry r) s = .next t ∧
        (t.reg r).fifo = rest ∧ (∃ p ∈ (t.reg r).eng, p.r = x ∧ p.entry = s.tb.tick) ∧
        (∀ q ∈ (s.reg r).eng, ∃ p ∈ (t.reg r).eng, p.r = q.r) ∧
        (s.pwr.safe = true → (∀ q ∈ (s.reg r).eng, ¬ (q.r.ch = x.ch ∧ q.r.nd = x.nd ∧ q.r.shot = x.shot)) →
          ∃ p ∈ (t.reg r).eng, p.r = x ∧ p.decided = some 6)) ∧
    (∀ p, (s.reg r).eng.find? (fun p => p.rec_ = 0) = some p → p.decided = none →
      let qs := s.queueList.filter (fun q => (s.bindOf q).port ≠ 0 && (s.bindOf q).cls == 1 && (s.bindOf q).has p.r.ch)
      let base := if p.r.accum then p.r.born else p.r.fin
      s.tb.tick ≤ base + recordTicks →
      (qs = [] → exec (.provisionalRecordEnqueue r) s = .next (s.modProv p (fun q => { q with rec_ := 2 }))) ∧
      (qs ≠ [] → (∀ q ∈ qs, 16 ≤ s.room (s.bindOf q) ∧
          (s.queue q).held + (s.queue q).resv + 32 ≤ 1024 * (s.bindOf q).depth) →
        s.poolUsed + 32 * qs.length ≤ 16 * 2 ^ 20 →
        ∃ t : State, exec (.provisionalRecordEnqueue r) s = .next t ∧
          t.regions = (s.modProv p (fun q => { q with rec_ := 1, id := s.rej.nextId, qs := qs })).regions ∧
          t.rej.out = s.rej.out ++ [(s.rej.nextId, r.val)] ∧
          t.rej.nextId = (if s.rej.nextId = 65535 then 1 else s.rej.nextId + 1) ∧ t.rej.nextId ≠ 0)) ∧
    (∀ (c : Fin 512) fire x, s.shot fire = some x → x.took c = true → x.final.getLsbD c = false →
      s.echoesFinal c x = true → ∃ t : State, exec (.channelShotFinal c fire) s = .next t ∧
        ∀ y, t.shot fire = some y → y.final.getLsbD c = true) ∧
    (once → ∃ t : State, exec (.foreignCheck r) s = .next t ∧ ∀ p ∈ (s.reg r).eng, p.decided = none → p.foreign = false →
      (∀ x, s.shot p.r.shot = some x → p.entry + usTicks (s.valFor x REJ_FOREIGN_HOLD_US 0) ≤ s.tb.tick) →
      s.foreignPasses p = false → ∃ q ∈ (t.reg r).eng, same p q ∧ q.decided = some 1) ∧
    (once → ∃ t : State, exec (.decisionTimeout r) s = .next t ∧ ∀ p ∈ (s.reg r).eng, p.decided = none →
      (p.entry + decisionTicks ≤ s.tb.tick → ∃ q ∈ (t.reg r).eng, same p q ∧ q.decided = some 4) ∧
      (s.tb.tick < p.entry + decisionTicks → p ∈ (t.reg r).eng)) ∧
    (∀ id rest, s.rej.out = (id, r.val) :: rest →
      (∀ p, (s.reg r).eng.find? (fun p => p.rec_ = 1 && p.id == id && !p.sent) = some p →
        (p.decided = none → exec .verdictEnqueue s = .next s) ∧
        (∀ cause, p.decided = some cause → cause ≠ 0 → ∃ t : State, exec .verdictEnqueue s = .next t ∧ t.rej.out = rest ∧
          t.regions = (s.modProv p (fun q => { q with sent := true })).regions) ∧
        (p.decided = some 0 → ∃ t : State, exec .verdictEnqueue s = .next t ∧ t.rej.out = rest ∧
          (p.r.ch / 64 = r.val → ∃ q ∈ (t.reg r).eng, same p q ∧ q.sent = true ∧ (s.collected < 8192 → s.pwr.safe = false → q.col = true))))) ∧
    (∀ (c : Fin 512) fire x, s.shot fire = some x →
      (s.noReturn x c = true → x.placed = false → exec (.noReturnRecord c fire) s = .next
        (s.setShot fire (fun y => { y with nores := y.nores ||| BitVec.ofNat 512 (2 ^ c.val) }))) ∧
      (s.noReturn x c = false → exec (.noReturnRecord c fire) s = .next s)) ∧
    (∀ x, s.seq.shots.find? (fun x => x.fired && !x.placed) = some x →
      ((∀ c, c < 512 → x.took c = true → s.channelDone x c = true) → s.segsPending x = false →
        ∃ t : State, exec .collectorDrain s = .next t ∧ ∀ y ∈ t.seq.shots, y.fire = x.fire → y.placed = true) ∧
      (s.segsPending x = true → exec .collectorDrain s = .next s) ∧
      (∀ c, c < 512 → x.took c = true → s.channelDone x c = false → exec .collectorDrain s = .next s))

/-- Sun and the estimator (R302, R312 to R314, R317). A cell becomes sunlit at REJ_SUN_UA of servo average and stops below
three quarters of it; no other cell changes. A stamp that no train takes within the tolerance leaves every train as it is;
one that a train takes with the smallest residual joins that train with its rounded index, and the train is refitted. A train
without a stamp in the gate is dropped with a record, one with some keeps those, and coasts below 16. A report is a record,
and none where REJ_TRAIN_REPORT_MS is 0. -/
def Obligations.SunAndForeignTrainEventsRun : Prop :=
  ∀ (s : State),
    (∀ c : Fin 512, s.dom (c / 16) = true → ∃ t : State, exec (.sunlitEvaluation c) s = .next t ∧
      (∀ k, k ≠ c.val → t.cell k = s.cell k) ∧
      ((s.cell c).sun = false → ((t.cell c).sun = true ↔ ((10 * s.work REJ_SUN_UA 0 : Nat) : Int) ≤ (s.cell c).servo)) ∧
      ((s.cell c).sun = true →
        ((t.cell c).sun = false ↔ 4 * (s.cell c).servo < ((3 * (10 * s.work REJ_SUN_UA 0) : Nat) : Int)))) ∧
    (∀ z rest, s.est.q = z :: rest →
      let u : State := ({ s with est := { s.est with q := rest } } : State).force .estimator
      let res (t : Train) : Rat := (z.at - t.near z.at).abs
      let tol : Rat := (256 * u.val REJ_TRACK_TOL_TK : Nat)
      ((∀ e ∈ s.est.trains, tol < res e.2) → ∃ t : State, exec .foreignStamp s = .next t ∧ t.est.q = rest ∧ t.regions = s.regions ∧
        ∀ e ∈ s.est.trains, e ∈ t.est.trains) ∧
      (∀ j t0, (j, t0) ∈ s.est.trains → res t0 ≤ tol → (∀ e ∈ s.est.trains, e ≠ (j, t0) → res t0 < res e.2) →
        ∃ t : State, exec .foreignStamp s = .next t ∧ t.est.q = rest ∧ t.est.free = s.est.free ∧
          tfind t.est.trains j =
            some (u.refit { t0 with st := { z with k := roundHalfUp ((z.at - t0.phi) / t0.per) } :: t0.st }))) ∧
    (∀ (j : Fin 32) t0, tfind s.est.trains j = some t0 →
      (s.gated t0.st = [] → ∃ t : State, exec (.trainGateExpiry j) s = .next t ∧ t.est.trains = tdel s.est.trains j ∧
        t.est.free = s.est.free) ∧
      (s.gated t0.st ≠ [] → exec (.trainGateExpiry j) s = .next (s.setTrain j { t0 with
        st := s.gated t0.st, coast := t0.coast || decide ((s.gated t0.st).length < 16) })) ∧
      (s.val REJ_TRAIN_REPORT_MS = 0 → exec (.trainReport j) s = .next s) ∧
      (s.val REJ_TRAIN_REPORT_MS ≠ 0 → exec (.trainReport j) s = .next (s.telemetry (s.trainRecord 1 j t0))))

/-- R305. The classifier of a channel-shot runs where its echo set is final and those of the same shot on channels c − 1 and
c + 1 are, a neighbour outside the region or that did not listen counting as final without a return. It runs once. Each echo
that the engine has not decided gets the class of the rule, with the shot's parameters: 3 where the classifier is off or the
detection is accumulated; 0 where saturated, not near, or of solid confidence; 2 where wide; 1 where isolated and weak; else
0. (Channel, crossing and shot name one return each in the engine.) -/
def Obligations.WeatherClassifierRunsOncePerChannelShot : Prop :=
  ∀ (s : State) (c : Fin 512) (fire : Nat) (x : Shot), s.shot fire = some x → x.took c = true →
    let eng := (s.reg (c / 64)).eng
    let ready (d : Nat) : Prop := d / 64 ≠ c.val / 64 ∨ x.listened d = false ∨ x.final.getLsbD d = true
    let v (q : Par) : Nat := s.valFor x q 0
    let near (r : Ret) : Prop := r.range < 256 * v REJ_WX_RANGE_TK
    let wide (r : Ret) : Prop := v REJ_WIDE_PCT * v REJ_NOMINAL_WIDTH ≤ 100 * r.width
    let isolated (r : Ret) : Prop := ∀ q ∈ eng, q.r.shot = r.shot → (q.r.ch + 1 = r.ch ∨ q.r.ch = r.ch + 1) →
      x.listened q.r.ch = true →
      r.nd + v REJ_NEIGHBOUR_TK < q.r.nd ∨ q.r.nd + v REJ_NEIGHBOUR_TK < r.nd
    let off (r : Ret) : Prop := v REJ_WX_ENABLE = 0 ∨ r.accum = true
    let solid (r : Ret) : Prop := r.sat = true ∨ ¬ near r ∨ v REJ_SOLID_CONF ≤ r.conf
    let weak (r : Ret) : Prop := isolated r ∧ r.inten ≤ v REJ_RAIN_INT
    (x.final.getLsbD c = false ∨ x.wx.getLsbD c = true ∨ ¬ ready (c + 1) ∨ (c.val ≠ 0 ∧ ¬ ready (c - 1)) →
      exec (.weatherClassify c fire) s = .next s) ∧
    (x.final.getLsbD c = true → x.wx.getLsbD c = false → ready (c.val + 1) → (c.val ≠ 0 → ready (c.val - 1)) →
      eng.Pairwise (fun p q => ¬ (q.r.ch = p.r.ch ∧ q.r.nd = p.r.nd ∧ q.r.shot = p.r.shot)) →
      ∃ t : State, exec (.weatherClassify c fire) s = .next t ∧ (∀ y, t.shot fire = some y → y.wx.getLsbD c = true) ∧
        ∀ p ∈ eng, p.r.ch = c.val → p.r.shot = fire → p.decided = none →
          ∃ q ∈ (t.reg (c / 64)).eng, q.r = p.r ∧ q.wx = true ∧ (off p.r → q.cls = 3) ∧
            (¬ off p.r → solid p.r → q.cls = 0) ∧ (¬ off p.r → ¬ solid p.r → wide p.r → q.cls = 2) ∧
            (¬ off p.r → ¬ solid p.r → ¬ wide p.r → weak p.r → q.cls = 1) ∧
            (¬ off p.r → ¬ solid p.r → ¬ wide p.r → ¬ weak p.r → q.cls = 0))

/-- The 09xxh commands (R355, R356, R363, R364). MC_STATUS_GET answers the states, causes and aborts, the readings and the
link errors. MC_INJECT_START with every field in range replaces the signal in progress and clears the capture; while the
engine is off or stops safely it changes nothing (R358, R360). MC_INJECT_STOP ends the signal. MC_CAPTURE_READ answers the
instants held and five words for each one asked; what the buffer does not hold is free (log 5). MC_AXIS_RESTART restarts each
named axis that is off from its present position and speed (the mirror's from its last two samples) once the engine has
started, clears its cause, and leaves an axis that is on, or not named, as it is; before the engine's start, and during a
safe stop, no axis moves. -/
def Obligations.MotionCommandsComplete : Prop :=
  ∀ (s : State) (m : Fin 64),
    (s.turn m 0x0901 → exec (.mcStatusGet m) s = .next (s.respond m 0
      ([pack [(s.mc.spin, 2), (b2n s.mc.trial.isSome, 1), (b2n s.mc.mirOn, 1), (b2n s.mc.known, 1), (b2n s.mc.safeStop.isSome, 1),
        (b2n s.mc.inj.isSome, 1), (s.mc.offSpin, 3), (s.mc.offMir, 3), (s.mc.aborts, 2)]] ++ s.motionWords ++ [w32 s.mc.errs]))) ∧
    (let w := s.pw m 0
     s.turn m 0x0904 → w.fld 31 20 = 0 → w.fld 3 2 ≠ 3 → w.fld 11 4 ≠ 0 → s.pw m 2 ≠ 0 → (w.fld 3 2 = 2 → w.fld 19 12 ≠ 0) →
      (s.engineOn = false ∨ s.mc.safeStop ≠ none → exec (.mcInjectStart m) s = .next (s.respond m 0 [])) ∧
      (s.engineOn = true → s.mc.safeStop = none → ∃ (t : State) (j : Inject), exec (.mcInjectStart m) s = .next (t.respond m 0 []) ∧
        t = { s with mc := { s.mc with inj := some j, cap := [], lock := t.mc.lock } } ∧
        j.axis = w.fld 0 0 ∧ j.point = w.fld 1 1 ∧ j.signal = w.fld 3 2 ∧ j.dec = w.fld 11 4 ∧ j.bit = w.fld 19 12 ∧
        j.amp = sgn 32 (s.pw m 1).toNat ∧ j.dur = (s.pw m 2).toNat ∧ j.f0 = (s.pw m 3).fld 15 0 ∧ j.f1 = (s.pw m 3).fld 31 16 ∧
        j.n = 0 ∧ j.prbs = 0x7FFF ∧ t.mc.lock = (s.mc.lock && w.fld 0 0 ≠ 0))) ∧
    (s.turn m 0x0905 →
      exec (.mcInjectStop m) s = .next (({ s with mc := { s.mc with inj := none } } : State).respond m 0 [])) ∧
    (let first := (s.pw m 0).fld 13 0
     let n := (s.pw m 0).fld 23 14
     s.turn m 0x0906 → (s.pw m 0).fld 31 24 = 0 → n ≤ 200 → ∃ (f : Nat) (rows : List (List Word)),
      exec (.mcCaptureRead m) s =
        .next (({ s with free := f } : State).respond m 0 (w32 s.mc.cap.length :: rows.flatten)) ∧
      rows.length = n ∧ ∀ i, i < n → ∀ row, s.mc.cap[first + i]? = some row → rows[i]? = some row) ∧
    (s.turn m 0x0907 → (s.pw m 0).fld 31 2 = 0 →
      (s.mc.safeStop ≠ none → exec (.mcAxisRestart m) s = .next (s.respond m 0 [])) ∧
      (s.mc.safeStop = none → s.mc.started = false →
        exec (.mcAxisRestart m) s = .next (({ s with mc := { s.mc with
          offSpin := if (s.pw m 0).bit 0 = true then 0 else s.mc.offSpin
          offMir := if (s.pw m 0).bit 1 = true then 0 else s.mc.offMir } } : State).respond m 0 [])) ∧
      (s.mc.safeStop = none → s.mc.started = true →
        ∃ t : State, exec (.mcAxisRestart m) s = .next (t.respond m 0 []) ∧ t = { s with mc := t.mc } ∧
        ((s.pw m 0).bit 0 = true → s.mc.offSpin ≠ 0 → s.mc.axes % 2 = 1 →
          t.mc.spin = 1 ∧ t.mc.offSpin = 0 ∧ t.mc.sr = s.theta_ s.tb.tick ∧ t.mc.v = s.omega ∧ t.mc.a = 0 ∧ t.mc.iw = 0 ∧
            t.mc.ith = 0) ∧
        ((s.pw m 0).bit 0 = false ∨ s.mc.offSpin = 0 →
          t.mc.spin = s.mc.spin ∧ t.mc.offSpin = s.mc.offSpin ∧ t.mc.v = s.mc.v ∧ t.mc.known = s.mc.known) ∧
        ((s.pw m 0).bit 1 = true → s.mc.offMir ≠ 0 → s.mc.axes / 2 % 2 = 1 →
          t.mc.mirOn = true ∧ t.mc.offMir = 0 ∧ t.mc.r = s.mc.y ∧ t.mc.ma = 0 ∧ t.mc.mi = 0 ∧ t.mc.u = s.mc.u ∧
            (s.mc.mirs.length ≤ 1 → t.mc.mv = 0) ∧
            ∀ a b rest, s.mc.mirs = a :: b :: rest → t.mc.mv = (a.2.2 - b.2.2) / 32768 * 100000) ∧
        ((s.pw m 0).bit 1 = false ∨ s.mc.offMir = 0 →
          t.mc.mirOn = s.mc.mirOn ∧ t.mc.offMir = s.mc.offMir ∧ t.mc.r = s.mc.r ∧ t.mc.mi = s.mc.mi)))

/-- The loops (R331, R334, R337, R338, R340, R342, R343, R345 to R347, R358, R361, R396). The mirror's instants are multiples
of 16,000 tk, the spin's of 64,000 tk, each computed once. At a mirror instant the parameters that wait come into force (none
during a safe stop), the sample is calibrated or, during an amplifier reset, extrapolated; the target is MC_MIR_PARK while
the axis parks or stops, else the latest set-point that has come. An axis that is off ramps to 0; a broken wire takes it off
with cause 1; a parking one starts its ramp once the brake is applied; else the generator moves and the output is that of
R343, limited. The DAC codes lead from the last output to the new one. At a spin instant one frame with the next sequence is
sent: mode 2 with set-point 0 while the spin is OFF, the test's current during a brake test; the set-point never exceeds
i_avail. Staying in SPEED, the set-point is that of R345; staying LOCKED after the trial, that of R347. (Without an
injection; oscillation action 2 apart, which takes the axis off. Roundings and roots are open: log 10, 27.) A loop instant of
an engine that is off is no event. -/
def Obligations.MotionLoopsRun : Prop :=
  ∀ s : State,
    (s.engineOn = false ∨ s.mirrorDue = false → exec .mirrorLoopInstant s = .next s) ∧
    (s.engineOn = false ∨ s.spinDue = false → exec .spinLoopInstant s = .next s) ∧
    (s.engineOn = true → s.mirrorDue = true → let u := s.loopPars .mirror
      let code := s.hk.ca.1
      let h := u.mc.oscM.halved
      let parks : Bool := s.mc.parking && s.isl.out &&& brkBits == 0
      ∃ t : State, exec .mirrorLoopInstant s = .next t ∧ t.cells = s.cells ∧ t.p = s.p ∧ t.isl = s.isl ∧ t.mc.spin = s.mc.spin ∧
        t.mc.yPrev = s.mc.y ∧ t.mc.dac = dacSteps s.mc.u t.mc.u ∧ t.mc.mirs.head? = some (s.tb.tick, t.mc.r, t.mc.y) ∧
        t.mc.y = (if s.hk.ca.2.1 then 2 * s.mc.y - s.mc.yPrev
          else (code - u.valI MC_MIR_SENS_OFFSET 0 : Int) * (u.valI MC_MIR_SENS_GAIN 0 : Int) / 65536) ∧
        t.mc.target = (if s.mc.parking || s.mc.safeStop.isSome then u.valI MC_MIR_PARK 0
          else (((s.mc.marks.filter (fun (e : Nat × Option Int) => decide (e.1 ≤ s.tb.tick))).filterMap (·.2)).getLast?).getD
            s.mc.target) ∧
        (s.mc.mirOn = false → t.mc.mirOn = false ∧ t.mc.r = s.mc.r ∧
          t.mc.u = if absR s.mc.u ≤ absR s.mc.ramp then 0 else s.mc.u - s.mc.ramp) ∧
        (s.mc.mirOn = true → s.mc.offMir = 0 → s.hk.ca.2.2 = true →
          t.mc.mirOn = false ∧ t.mc.offMir = 1 ∧ t.mc.mi = 0 ∧ t.mc.r = s.mc.r) ∧
        (s.mc.mirOn = true → s.hk.ca.2.2 = false → parks = true → t.mc.mirOn = false ∧ t.mc.mi = 0 ∧ t.mc.r = s.mc.r ∧
          t.mc.u = if absR s.mc.u ≤ absR (s.mc.u / 100) then 0 else s.mc.u - s.mc.u / 100) ∧
        (s.mc.mirOn = true → s.hk.ca.2.2 = false → parks = false → s.mc.inj = none →
          let g := ({ r := s.mc.r / 32768, v := s.mc.mv, a := s.mc.ma } : Gen).move ((t.mc.target : Rat) / 32768)
            ((u.val MC_MIR_VMAX : Nat) / 100) ((10 * u.val MC_MIR_AMAX : Nat) : Rat) ((1000 * u.val MC_MIR_JMAX : Nat) : Rat)
            (1 / 100000)
          let mfs (x : Rat) : Rat := x * 1000 / 32768
          let e := g.r * 32768 - t.mc.y
          let i := if s.mc.clamped && signR e == signR s.mc.u then s.mc.mi
            else s.mc.mi + u.gain MC_MIR_KI h * mfs e * (1 / 100)
          let o := u.gain MC_MIR_KP h * mfs e + i - u.gain MC_MIR_KD h * mfs (t.mc.y - s.mc.y) / (1 / 100) +
            u.gain MC_MIR_KFF 0 * g.a / 1000
          t.mc.r = g.r * 32768 ∧ t.mc.mv = g.v ∧ t.mc.ma = g.a ∧ t.mc.u = limitR 32767 o ∧
            t.mc.clamped = decide (32767 < absR o))) ∧
    (s.engineOn = true → s.spinDue = true → let u := s.loopPars .spin
      (∀ b, s.isl.test = some b → ∃ t : State, exec .spinLoopInstant s = .next t ∧ t.mc.spin = s.mc.spin ∧
        t.mc.c = b.current (u.saf SAF_BRK_TEST_MA) ∧ t.isl.test = some { b with k := b.k + 1 } ∧
        t.mc.seq = wrap 8 (s.mc.seq + 1) ∧ ∃ i, t.mc.word = commandWord 0 s.mc.seq i) ∧
      (s.isl.test = none → s.mc.spin = 0 → ∃ t : State, exec .spinLoopInstant s = .next t ∧ t.mc.spin = 0 ∧ t.mc.c = 0 ∧
        t.mc.word = commandWord 2 s.mc.seq 0 ∧ t.mc.seq = wrap 8 (s.mc.seq + 1) ∧ t.mc.sentSeq = s.mc.seq ∧
        t.cells = s.cells ∧ t.p = s.p) ∧
      (s.isl.test = none → s.mc.spin ≠ 0 → let w := u.omega
        let avail := u.iAvail w
        let h := u.mc.oscS.halved
        ∃ t : State, exec .spinLoopInstant s = .next t ∧ absR t.mc.c ≤ avail ∧ t.mc.seq = wrap 8 (s.mc.seq + 1) ∧
          t.mc.sentSeq = s.mc.seq ∧ t.cells = s.cells ∧ t.p = s.p ∧ t.isl = s.isl ∧
          (s.mc.inj = none → u.val MC_OSC_ACTION ≠ 2 →
            (s.mc.spin = 1 → (u.noHandover || s.mc.hold || s.mc.halt || decide (s.mc.okRun < 2499)) = true →
              s.mc.safeStop = none →
              let vs := if s.mc.parking then 0 else u.wRef + s.mc.align
              let g := ({ r := s.mc.sr, v := s.mc.v, a := s.mc.a } : Gen).follow vs ((u.val MC_SPIN_VMAX : Rat) / 256)
                (u.aEff avail) ((u.val MC_SPIN_JMAX : Rat) / 256) (40 / 1000000)
              let e := g.v - w
              let i := if s.mc.limited then s.mc.iw else s.mc.iw + u.gain MC_SPIN_KI_W h * e * (40 / 1000000)
              t.mc.spin = 1 ∧ t.mc.sr = g.r - g.r.floor ∧ t.mc.v = g.v ∧ t.mc.a = g.a ∧ t.mc.iw = i ∧
                t.mc.c = limitR avail (u.gain MC_SPIN_KP_W h * e + i +
                  (u.val MC_SPIN_J : Rat) * g.a / (10 * (u.val MC_MOTOR_KT : Rat)))) ∧
            (s.mc.spin = 3 → s.mc.trial = none → u.noHandover = false →
              let e := wrapHalf (u.thetaRef - u.theta_ s.tb.tick)
              absR e ≤ (u.val MC_HANDOVER_ABORT : Rat) / 65536 →
              let i := if s.mc.limited then s.mc.ith else s.mc.ith + u.gain MC_SPIN_KI_TH h * e * (40 / 1000000)
              t.mc.spin = 3 ∧ t.mc.eth = e ∧ t.mc.ith = i ∧ t.mc.v = u.wRef ∧ t.mc.a = 0 ∧
                t.mc.c = limitR avail (u.gain MC_SPIN_KP_TH h * e + i + u.gain MC_SPIN_KD_TH h * (u.wRef - w))))))

/-- Motion events (R332, R333, R336, R350, R353, R355, R359 to R361). After 100 ms a new hand-over is allowed. A valid
response (sync, CRC, echoed sequence) gives currents and V_dc and ends a run of errors; its fault bit, or the third invalid
one in a row, takes the spin off with cause 2; an invalid one keeps the last values and is counted. Quadrature edges count up
and down, each stamped to 8 tk about its tick; the first index after enabling makes the angle known at count 0, a later one
more than one count off is an encoder fault, as are four illegal transitions within a revolution. A fired or dark entry gets
its angles once they can be told, and once, with the unknown flag. The injection ends at its duration. The safe-stop command
ends injection and hand-over; its withdrawal clears it. Brake released, the fitted axes that have not gone off start. -/
def Obligations.MotionEventsRun : Prop :=
  ∀ s : State,
    exec .handoverRetryExpiry s = .next { s with mc := { s.mc with hold := false } } ∧
    (∀ w : BitVec 80, s.engineOn = true →
      let ok := linkOk w && w.toNat / 2 ^ 64 % 256 == wrap 8 (s.mc.sentSeq + 255)
      let off (t : State) : Prop := s.mc.offSpin = 0 → t.mc.spin = 0 ∧ t.mc.offSpin = 2 ∧ t.mc.iw = 0 ∧ t.mc.ith = 0
      (ok = true → ∃ t : State, exec (.motorLinkResponse w) s = .next t ∧ t.mc.bad = 0 ∧ t.mc.errs = s.mc.errs ∧
        t.mc.ia = sgn 16 (w.toNat / 2 ^ 48 % 65536) ∧ t.mc.ib = sgn 16 (w.toNat / 2 ^ 32 % 65536) ∧
        t.mc.vdc = w.toNat / 65536 % 65536 ∧ (w.getLsbD 15 = true → off t) ∧ (w.getLsbD 15 = false → t.mc.spin = s.mc.spin)) ∧
      (ok = false → ∃ t : State, exec (.motorLinkResponse w) s = .next t ∧ t.mc.bad = s.mc.bad + 1 ∧
        t.mc.errs = wrap 32 (s.mc.errs + 1) ∧ t.mc.ia = s.mc.ia ∧ t.mc.ib = s.mc.ib ∧ t.mc.vdc = s.mc.vdc ∧
        (2 ≤ s.mc.bad → off t) ∧ (s.mc.bad < 2 → t.mc.spin = s.mc.spin))) ∧
    (∀ w : BitVec 80, s.engineOn = false → exec (.motorLinkResponse w) s = .next s) ∧
    (s.engineOn = true →
      let q := 4 * s.mc.lines
      let ill := s.mc.travel :: s.mc.illegal.filter (fun (t : Nat) => decide (s.mc.travel < t + q))
      (∀ (e : EncEdge) (d : Int), (e = .up ∧ d = 1) ∨ (e = .down ∧ d = -1) →
        ∃ (t : State) (n : Nat), exec (.encoderEdge e) s = .next t ∧ t = { s with mc := t.mc } ∧ t.mc.count = s.mc.count + d ∧
          t.mc.edges.head? = some (n, s.mc.count + d) ∧ n % 8 = 0 ∧ n < s.tb.tick + 8 ∧ s.tb.tick < n + 8) ∧
      (ill.length < 4 → exec (.encoderEdge .both) s = .next { s with mc := { s.mc with illegal := ill } }) ∧
      (4 ≤ ill.length → s.mc.offSpin = 0 → ∃ t : State, exec (.encoderEdge .both) s = .next t ∧ t.mc.spin = 0 ∧ t.mc.offSpin = 1 ∧
        t.mc.illegal = []) ∧
      (∀ i : Instr, i = .encoderIndex ∨ i = .encoderEdge .index →
        (s.mc.known = false → ∃ t : State, exec i s = .next t ∧ t = { s with mc := t.mc } ∧ t.mc.known = true ∧ t.mc.count = 0 ∧
          t.mc.spin = s.mc.spin) ∧
        (s.mc.known = true → ((∃ k e : Int, (-1 ≤ e ∧ e ≤ 1) ∧ s.mc.count = k * (q : Int) + e) → 4 < q → exec i s = .next s) ∧
          ((∀ k e : Int, -1 ≤ e → e ≤ 1 → s.mc.count ≠ k * (q : Int) + e) → 4 < q → s.mc.offSpin = 0 →
            ∃ t : State, exec i s = .next t ∧ t.mc.spin = 0 ∧ t.mc.offSpin = 1)))) ∧
    (∀ fire x, s.shot fire = some x →
      (x.fired = true → x.angles = none → s.anglesReady fire = true → ∃ t : State, exec (.shotAnglesReport fire) s = .next t ∧ t.kept = s.kept ∧ t.p = s.p ∧
        ∀ y, t.shot fire = some y → ∃ th r m, y.angles = some (th, r, m, !s.mc.known || s.mc.spin == 0)) ∧
      (x.angles ≠ none ∨ s.anglesReady fire = false → exec (.shotAnglesReport fire) s = .next s)) ∧
    (∀ j, s.mc.inj = some j → exec .injectionEnd s =
      .next (if j.dur ≤ j.n then { s with mc := { s.mc with inj := none } } else s)) ∧
    (s.engineOn = true →
      (s.isl.command = none → exec .safeStopCommand s = .next { s with mc := { s.mc with safeStop := none } }) ∧
      (∀ c, s.isl.command = some c → ∃ t : State, exec .safeStopCommand s = .next t ∧ t = { s with mc := t.mc } ∧
        t.mc.safeStop = some c ∧ t.mc.inj = none ∧ t.mc.spin = (if 2 ≤ s.mc.spin then 1 else s.mc.spin))) ∧
    (s.engineOn = true → s.isl.released = true → s.mc.started = false → s.mc.safeStop = none →
      ∃ t : State, exec .brakeReleasedReport s = .next t ∧ t = { s with mc := t.mc } ∧ t.mc.started = true ∧ t.mc.parking = false ∧
        (s.mc.offSpin ≠ 0 → t.mc.spin = s.mc.spin ∧ t.mc.offSpin = s.mc.offSpin) ∧
        (s.mc.offMir ≠ 0 → t.mc.mirOn = s.mc.mirOn ∧ t.mc.offMir = s.mc.offMir) ∧
        (s.mc.offSpin = 0 → s.mc.axes % 2 = 1 → t.mc.spin = 1 ∧ t.mc.v = s.omega) ∧
        (s.mc.offMir = 0 → s.mc.axes / 2 % 2 = 1 → t.mc.mirOn = true ∧ t.mc.target = s.valI MC_MIR_PARK 0)) ∧
    (s.isl.released = false → exec .brakeReleasedReport s = .next s)

/-- R339. With v_stop = v + a·|a|/(2J), the generator aims at +A where v_stop is below v*, at −A where it is above, at 0
where it is equal; a moves toward that by at most J·T; v and r then integrate over one loop period. An acceleration within ±A
stays within ±A, and changes by at most J·T. In speed mode the velocity followed is the target speed clamped to ±V. A speed
within ±V never leaves it (R341): a step that would is cut there (log 70). -/
def Obligations.ProfileGeneratorFollowsItsTarget : Prop :=
  (∀ (s : State) (w i : Rat), s.mc.parking = false → s.mc.safeStop = none →
    let V : Rat := (s.val MC_SPIN_VMAX : Rat) / 256
    let x := s.wRef + s.mc.align + s.injected 0 0 (40 / 1000000) / 65536
    let g := ({ r := s.mc.sr, v := s.mc.v, a := s.mc.a } : Gen).follow (if V < x then V else if x < -V then -V else x) V
      (s.aEff i) ((s.val MC_SPIN_JMAX : Rat) / 256) (40 / 1000000)
    (s.speedLoop w i).1.mc.sr = g.r - g.r.floor ∧ (s.speedLoop w i).1.mc.v = g.v ∧ (s.speedLoop w i).1.mc.a = g.a) ∧
  ∀ (g : Gen) (vs V A J T : Rat), 0 < V → 0 < A → 0 < J → 0 < T → absR vs ≤ V →
    let stop := g.v + g.a * absR g.a / (2 * J)
    let h := g.follow vs V A J T
    (stop < vs → (A - g.a ≤ J * T → -(J * T) ≤ A - g.a → h.a = A) ∧ (J * T < A - g.a → h.a = g.a + J * T)) ∧
    (vs < stop → (g.a + A ≤ J * T → -(J * T) ≤ g.a + A → h.a = -A) ∧ (J * T < g.a + A → h.a = g.a - J * T)) ∧
    (stop = vs → (absR g.a ≤ J * T → h.a = 0) ∧ (J * T < g.a → h.a = g.a - J * T)) ∧
    (absR g.a ≤ A → absR h.a ≤ A) ∧ absR (h.a - g.a) ≤ J * T ∧ h.r = g.r + h.v * T ∧
    (absR (g.v + h.a * T) ≤ V → h.v = g.v + h.a * T) ∧ (absR g.v ≤ V → absR h.v ≤ V)

/-- The 0Axxh commands (R376, R380, R381, R396, R403, R410 to R412). SAF_STATUS_GET answers S0 to S5 and the three counts.
SAF_PARAM_WRITE stages one value for its instances and nothing else; SAF_PARAM_READ answers the staged, active, fused or
effective value (the active one without a valid set and a bound that does not exist are free: log 5). SAF_PARAM_COMMIT
answers 1 on a mismatch and 2 in RUN, and else starts the journal commit, before which nothing is active. SAF_ACK clears
exactly the named latches whose cause has gone (a message fault not while its timeout stands), pairs only where free of
demand, never an island fault, and answers what it cleared. SAF_BRAKE_TEST runs in PARK with the brake applied and nothing
holding the outputs low; else result 3. SAF_ENERGY_GET answers the sums. -/
def Obligations.IslandCommandsComplete : Prop :=
  ∀ (s : State) (m : Fin 64),
    (s.turn m 0x0A01 → exec (.safStatusGet m) s =
      .next (s.respond m 0 (s.statusBlock ++ [w32 s.isl.enCount, w32 s.isl.msgBad, w32 s.isl.msgLone]))) ∧
    (let w := s.pw m 0
     let v := (s.pw m 1).toNat
     ∀ p ∈ safPars, p.idx = w.fld 7 0 → w.fld 31 17 = 0 →
      (s.turn m 0x0A02 → p.ok v = true → (p.insts = 1 ∨ w.fld 10 8 + w.fld 14 11 ≤ 8) →
        ∃ t : State, exec (.safParamWrite m) s = .next (t.respond m 0 []) ∧
          t = { s with isl := { s.isl with staged := t.isl.staged } } ∧
          ∀ q ∈ safPars, ∀ i, i < q.insts → setVal t.isl.staged q i =
            if q.idx = p.idx ∧ (p.insts = 1 ∨ (w.fld 10 8 ≤ i ∧ i < w.fld 10 8 + w.fld 14 11)) then v
            else setVal s.isl.staged q i) ∧
      (s.turn m 0x0A03 → let i := if p.insts = 1 then 0 else w.fld 10 8
        (w.fld 16 15 = 0 → exec (.safParamRead m) s = .next (s.respond m 0 [w, w32 (setVal s.isl.staged p i)])) ∧
        (w.fld 16 15 = 1 → ∀ a, s.isl.active = some a →
          exec (.safParamRead m) s = .next (s.respond m 0 [w, w32 (setVal a p i)])) ∧
        (w.fld 16 15 = 1 → s.isl.active = none → ∃ (f : Nat) (x : Word),
          exec (.safParamRead m) s = .next (({ s with free := f } : State).respond m 0 [w, x])) ∧
        (w.fld 16 15 = 2 → (safFuse p.idx).isSome = true →
          exec (.safParamRead m) s = .next (s.respond m 0 [w, w32 (s.safBound p i)])) ∧
        (w.fld 16 15 = 2 → safFuse p.idx = none → ∃ (f : Nat) (x : Word),
          exec (.safParamRead m) s = .next (({ s with free := f } : State).respond m 0 [w, x])) ∧
        (w.fld 16 15 = 3 → exec (.safParamRead m) s = .next (s.respond m 0 [w, w32 (s.safEff p i)])))) ∧
    (s.turn m 0x0A04 → let k := w32 (setCheck s.isl.staged)
      (s.pw m 0 ≠ k → exec (.safParamCommit m) s = .next (s.respond m 0 [1, k])) ∧
      (s.pw m 0 = k → s.pwr.dev = .run → exec (.safParamCommit m) s = .next (s.respond m 0 [2, k])) ∧
      (s.pw m 0 = k → s.pwr.dev ≠ .run → s.jnl.txn ≠ none → exec (.safParamCommit m) s = .next s) ∧
      (s.pw m 0 = k → s.pwr.dev ≠ .run → s.jnl.txn = none →
        (s.jnl.readOnly = false → ∃ t : State, exec (.safParamCommit m) s = .next t ∧ t.p = { s.p with saf := some s.isl.staged, safCheck := k } ∧
          t.isl = s.isl ∧ t.jnl.txn ≠ none) ∧
        (s.jnl.readOnly = true → ∃ t : State, exec (.safParamCommit m) s = .next (t.respond m 0 [0, k]) ∧
          t.isl.active = some s.isl.staged))) ∧
    (s.turn m 0x0A05 → (s.pw m 0).fld 31 14 = 0 → ∀ good : BitVec 6, let w := s.pw m 0
      let late : Prop := s.saf SAF_MSG_MODE = 1 ∧ (s.pwr.dev = .run ∨ s.pwr.dev = .quiet) ∧
        s.isl.msgAt + 1000 * s.saf SAF_MSG_TIMEOUT_MS ≤ s.isl.us
      let free (p : Nat) : Prop := s.isl.fa.getLsbD p = true ∧ s.isl.fb.getLsbD p = false
      ∃ (t : State) (c : Word), exec (.safAck m good) s = .next (t.respond m 0 [c]) ∧ t.p = s.p ∧ t.isl.fault = s.isl.fault ∧
        (∀ p, p < 8 → ((w.bit p = true ∧ free p ∧ 2 ≤ s.pair p) → t.pair p = 0 ∧ c.bit p = true) ∧
          (¬ (w.bit p = true ∧ free p ∧ 2 ≤ s.pair p) → t.pair p = s.pair p ∧ c.bit p = false)) ∧
        (late → t.isl.msgFault = s.isl.msgFault ∧ c.bit 8 = false) ∧
        (¬ late → t.isl.msgFault = (s.isl.msgFault && !w.bit 8) ∧ c.bit 8 = (s.isl.msgFault && w.bit 8)) ∧ t.isl.pulse = (s.isl.pulse && !w.bit 9) ∧
        (s.maxSum ≤ s.safEff SAF_EN_LIMIT_NJ → t.isl.enLatch = (s.isl.enLatch && !w.bit 9)) ∧
        (s.isl.fbk ≠ (s.isl.out >>> 2).setWidth 2 → t.isl.fbFault = s.isl.fbFault) ∧
        (s.isl.fbk = (s.isl.out >>> 2).setWidth 2 → t.isl.fbFault = (s.isl.fbFault && !w.bit 10)) ∧
        t.isl.outFault = (if w.bit 11 then s.isl.outFault &&& ~~~good else s.isl.outFault) ∧
        t.isl.encFault = (s.isl.encFault && !w.bit 12) ∧ t.isl.stray = (s.isl.stray && !w.bit 13) ∧
        c.bit 12 = (s.isl.encFault && w.bit 12) ∧
        c.bit 13 = (s.isl.stray && w.bit 13)) ∧
    (s.turn m 0x0A06 →
      (s.pwr.dev ≠ .park ∨ s.pwr.trans ≠ none ∨ s.mayRelease = false ∨ s.isl.out &&& brkBits ≠ 0 ∨ s.isl.fbk ≠ 0 →
        exec (.safBrakeTest m) s = .next (s.respond m 0 [3, 0])) ∧
      (s.pwr.dev = .park → s.pwr.trans = none → s.mayRelease = true → s.isl.out &&& brkBits = 0 → s.isl.fbk = 0 →
        ∃ t : State, exec (.safBrakeTest m) s = .next t ∧ t.isl.out = s.isl.out ||| tqBits ∧ (t.mbx m).st = 3 ∧
          t.isl.test = some { mbx := m, fromA := s.isl.encA.count, fromB := s.isl.encB.count })) ∧
    (s.turn m 0x0A07 → (s.pw m 0).fld 31 19 = 0 → (s.pw m 0).fld 18 10 ≤ 256 →
      (s.pw m 0).fld 9 0 + (s.pw m 0).fld 18 10 ≤ 1024 → exec (.safEnergyGet m) s = .next (s.respond m 0
        ((span ((s.pw m 0).fld 9 0) ((s.pw m 0).fld 18 10)).map (fun k => w32 (sat 32 (s.isl.sum2 k))))))

/-- Island inputs and outputs (R367, R370, R374 to R379, R381 to R384). A failed self-test, or a third disagreement in a row,
is an island fault. A sample advances island time by 10 µs and each filtered level changes once its run reaches the filter
time; a used pair is in demand where filtered A is low or B high, stays at 3 with a discrepancy fault, and becomes free or
awaits acknowledgement as SAF_SIN_RESTART says; an unused pair is not evaluated. Equal levels for the discrepancy time latch
a fault. A ball that reads wrong latches an output fault, which stops emission, or the scan for a brake or torque-off ball.
An edge counts in each channel that sees it, and the first index sets that channel's count to 0; a later one more than one
count off, or four illegal transitions within a revolution, are an encoder fault. After an event that evaluates the island
both enables are high where every condition of R382 holds and both low, with emission inhibited, where one fails; the
withdrawal follows the rise, and the sequencer gets either, an inhibit marking the shot whose blanking interval is in
progress (R243). -/
def Obligations.IslandInputsAndEnablesRun : Prop :=
  ∀ s : State,
    (∃ t : State, exec (.islandSelfTestComplete true) s = .next t ∧ t.isl.tested = true ∧ t.p = s.p) ∧
    (∃ t : State, exec (.islandSelfTestComplete false) s = .next t ∧ t.isl.fault = true ∧ t.isl.out = 0 ∧ t.isl.inhibit = true) ∧
    exec (.islandChannelCompare true) s = .next (s.setIsl (fun x => { x with differ := 0 })) ∧
    (s.isl.differ < 2 → exec (.islandChannelCompare false) s =
      .next (s.setIsl (fun x => { x with differ := x.differ + 1 }))) ∧
    (2 ≤ s.isl.differ → s.isl.fault = false → ∃ t : State, exec (.islandChannelCompare false) s = .next t ∧ t.isl.fault = true ∧
      t.isl.out = 0 ∧ t.p = s.p) ∧
    (∀ a b : BitVec 8, ∃ t : State, exec (.safetyInputSample a b) s = .next t ∧ t.isl.us = s.isl.us + 10 ∧ t.p = s.p ∧ ∀ p, p < 8 →
      let us := s.saf SAF_SIN_FILTER_US
      let run (r : Tab Nat) (level new : Bool) (after : Bool) : Prop :=
        (level = new → after = level) ∧ (level ≠ new → us ≤ 10 * (tget 0 r p + 1) → after = new) ∧
          (level ≠ new → 10 * (tget 0 r p + 1) < us → after = level)
      let fa := t.isl.fa.getLsbD p
      let fb := t.isl.fb.getLsbD p
      run s.isl.runA (s.isl.fa.getLsbD p) (a.getLsbD p) fa ∧ run s.isl.runB (s.isl.fb.getLsbD p) (b.getLsbD p) fb ∧
        (s.pairFunc p = 0 → t.pair p = s.pair p) ∧
        (s.pairFunc p ≠ 0 → (s.pair p = 3 → t.pair p = 3) ∧
          (s.pair p ≠ 3 → (fa = false ∨ fb = true → t.pair p = 1) ∧
            (fa = true → fb = false → t.pair p =
              if s.pair p = 1 then (if s.saf SAF_SIN_RESTART p = 1 then 2 else 0) else s.pair p)))) ∧
    (∀ p : Fin 8, s.pairFunc p ≠ 0 → s.pair p ≠ 3 →
      (1000 * s.saf SAF_SIN_DISC_MS ≤ 10 * tget 0 s.isl.eq p → ∃ t : State, exec (.discrepancyFault p) s = .next t ∧ t.pair p = 3 ∧
        ∀ q, q ≠ p.val → t.pair q = s.pair q) ∧
      (10 * tget 0 s.isl.eq p < 1000 * s.saf SAF_SIN_DISC_MS → exec (.discrepancyFault p) s = .next s)) ∧
    exec .inhibitWithdraw s = .next (if s.isl.out &&& emitBits = emitBits then s.setIsl (fun x => { x with inhibit := false })
      else s) ∧
    exec .emissionInhibitArrival s = .next { s with seq := { s.seq with
      inhibit := s.isl.inhibit
      shots := s.seq.shots.map (fun x =>
        if s.isl.inhibit && x.blanked && !x.fired then { x with inhibited := true } else x) } } ∧
    (∀ (o : Fin 6) (i : Instr), i = .outputReadbackFault o ∨ (i = .testPulse o true ∧ s.isl.out.getLsbD o = true) →
      ∃ t : State, exec i s = .next t ∧ t.isl.outFault = s.isl.outFault ||| BitVec.ofNat 6 (2 ^ o.val) ∧
        t.isl.out &&& emitBits = 0 ∧ (2 ≤ o.val → s.isl.fault = false → t.isl.stop ≠ 0)) ∧
    (∀ o : Fin 6, exec (.testPulse o false) s = .next s ∧ (s.isl.out.getLsbD o = false → exec (.testPulse o true) s = .next s)) ∧
    (∀ e : EncEdges, s.isl.test = none → ∃ t : State, exec (.islandEncoderEdge e) s = .next t ∧
      let q := 4 * s.saf SAF_ENC_LINES
      let sees (d : Option EncEdge) (x z : IslEnc) : Prop :=
        let y : IslEnc := { z with w0 := x.w0 }
        let ill := x.travel :: x.illegal.filter (fun (n : Nat) => decide (x.travel < n + q))
        (d = none → y = x) ∧
        (d = some .up → y = { x with count := x.count + 1, now := x.now + 1, travel := x.travel + 1 }) ∧
        (d = some .down → y = { x with count := x.count - 1, now := x.now + 1, travel := x.travel + 1 }) ∧
        (d = some .index → x.known = false → y = { x with known := true, count := 0 }) ∧
        (d = some .index → x.known = true → y = { x with fault := y.fault } ∧
          (y.fault = true ↔ x.fault = true ∨ (1 < (x.count % (q : Int)).toNat ∧ (x.count % (q : Int)).toNat + 1 < q))) ∧
        (d = some .both → (4 ≤ ill.length → y = { x with fault := true, illegal := [] }) ∧
          (ill.length < 4 → y = { x with illegal := ill }))
      t.p = s.p ∧ sees e.a s.isl.encA t.isl.encA ∧ sees e.b s.isl.encB t.isl.encB) ∧
    (∀ (i : Instr) (t : State), (i = .stateRequest ∨ i = .islandSpeedEvaluation ∨ (∃ a b, i = .safetyInputSample a b) ∨
        (∃ k a b, i = .subPulseEnergy k a b) ∨ ∃ o, i = .outputReadbackFault o) →
      exec i s = .next t → t.isl.fault = false →
      let ok : Prop := t.isl.tested = true ∧ t.isl.run = true ∧ (∀ p, p < 8 → t.pairFunc p ≠ 0 → t.pair p = 0) ∧
        t.isl.demand = 0 ∧ t.isl.msgFault = false ∧ t.isl.stall = false ∧ t.isl.encFault = false ∧
        t.isl.enInh = false ∧ t.isl.enLatch = false ∧ t.safEff SAF_EN_LIMIT_NJ ≠ 0 ∧ t.isl.pulse = false ∧
        t.safEff SAF_PULSE_LIMIT_NJ ≠ 0 ∧ t.isl.stop = 0 ∧ t.isl.outFault &&& emitBits = 0 ∧ t.isl.active ≠ none ∧
        t.isl.event = false
      (ok → t.isl.out &&& emitBits = emitBits) ∧ (¬ ok → t.isl.out &&& emitBits = 0 ∧ t.isl.inhibit = true))

/-- Stops and the brake (R65, R384, R385, R392 to R396, R399 to R402). An evaluation takes each channel's speed from its
counts of the last ten periods and decides its stall from the runs, counts operating time, switches a safe stop with either
channel above its envelope to torque off, and drops the brake at standstill of a safe stop, once slow enough after torque
off, and at rest in normal operation. A state request takes the run request over and, asking for release with nothing that
forbids it, raises torque-off first; the brake outputs follow 10 ms later; both feedbacks high report the brake released, at
once where they read high already. A feedback that differs too long is a fault. No standstill in time, before the brake is
dropped, is torque off. The brake test goes through its phases and passes on 250 ms of current; with domain 88 off it ends
inconclusive. The test falls due once. The stop report brings the device from RUN, QUIET and any transition to PARK. -/
def Obligations.BrakeAndStopsRun : Prop :=
  ∀ s : State,
    (∃ t : State, exec .islandSpeedEvaluation s = .next t ∧ t.p = s.p ∧ t.kept = s.kept ∧
      t.wear.brakeTime = s.wear.brakeTime + b2n s.operating ∧
      (let v := s.safEff SAF_STALL_RPS
       let n := 10 * s.saf SAF_STALL_FILTER_MS
       let channel (x y : IslEnc) : Prop := y.count = x.count ∧ y.now = 0 ∧ y.win = (x.now :: x.win).take 10 ∧
        y.speed = ((1000 * y.win.foldl (· + ·) 0 : Nat) : Rat) / ((4 * s.saf SAF_ENC_LINES : Nat) : Rat) ∧
        y.still = (if 256 * y.speed ≤ (s.saf SAF_STANDSTILL_RPS : Nat) then x.still + 1 else 0) ∧
        y.lowRun = (if 256 * y.speed < (v : Nat) then x.lowRun + 1 else 0) ∧
        y.highRun = (if ((11 * v : Nat) : Rat) ≤ 2560 * y.speed then x.highRun + 1 else 0) ∧
        y.stall = (if v = 0 then false else if n ≤ y.lowRun then true else if n ≤ y.highRun then false else x.stall)
       channel s.isl.encA t.isl.encA ∧ channel s.isl.encB t.isl.encB) ∧
      (let a := t.isl.encA
       let b := t.isl.encB
       let above (x y : IslEnc) : Prop := ∃ e, s.envelope x.w0 = some e ∧ e < y.speed
       let beyond : Prop := above s.isl.encA a ∨ above s.isl.encB b
       let still : Prop := 1000 ≤ a.still ∨ 1000 ≤ b.still
       let slow : Prop := a.speed ≤ (s.saf SAF_BRK_MAX_RPS : Rat) / 256 ∨ b.speed ≤ (s.saf SAF_BRK_MAX_RPS : Rat) / 256
       s.isl.fault = false →
        (s.isl.stop = 1 → s.isl.holding = 0 → beyond →
          t.isl.stop = 2 ∧ t.isl.out &&& tqBits = 0 ∧ t.isl.out &&& emitBits = 0) ∧
        (s.isl.stop = 1 → s.isl.holding = 0 → ¬ beyond → still → t.isl.out &&& brkBits = 0 ∧ t.isl.stop ≠ 0) ∧
        (s.isl.stop = 2 → s.isl.holding = 0 → slow → t.isl.out &&& brkBits = 0 ∧ 2 ≤ t.isl.stop) ∧
        (s.isl.stop = 0 → s.isl.rest = true → still → s.isl.out &&& brkBits = brkBits → t.isl.out &&& brkBits = 0))) ∧
    (∃ t : State, exec .stateRequest s = .next t ∧ t.isl.run = s.wantsRun ∧ t.p = s.p ∧
      (s.requestsRelease = true → s.mayRelease = true → s.isl.out &&& (tqBits ||| brkBits) = 0 →
        t.isl.out &&& tqBits = tqBits ∧ t.isl.out &&& brkBits = 0 ∧ t.isl.rising = some s.isl.us ∧ t.isl.stop = 0)) ∧
    (∀ r, s.isl.rising = some r →
      (r + 10000 ≤ s.isl.us → s.mayRelease = true → ∃ t : State, exec .brakeReleaseDelay s = .next t ∧
        t.isl.out &&& brkBits = brkBits ∧ t.isl.rising = none ∧
        (s.isl.fbk = 3 → s.isl.out &&& brkBits = 0 → t.isl.released = true)) ∧
      (s.isl.us < r + 10000 ∨ s.mayRelease = false → exec .brakeReleaseDelay s = .next s)) ∧
    (∀ (chB high : Bool), ∃ t : State, exec (.brakeFeedbackChange chB high) s = .next t ∧ t.isl.fbk.getLsbD (b2n chB) = high ∧
      t.isl.fbk.getLsbD (b2n !chB) = s.isl.fbk.getLsbD (b2n !chB) ∧ t.p = s.p ∧
      (s.isl.fault = false → s.isl.holding = 0 → s.isl.out &&& brkBits = brkBits → (t.isl.released = true ↔ t.isl.fbk = 3))) ∧
    (∀ chB : Bool, s.isl.fbk.getLsbD (b2n chB) ≠ s.isl.out.getLsbD (2 + b2n chB) →
      (tget 0 s.isl.fbAt (b2n chB) + 1000 * s.saf SAF_BRK_FB_MS < s.isl.us →
        ∃ t : State, exec (.brakeFeedbackFault chB) s = .next t ∧ t.isl.fbFault = true ∧ t.brakeAvail = false) ∧
      (s.isl.us ≤ tget 0 s.isl.fbAt (b2n chB) + 1000 * s.saf SAF_BRK_FB_MS → exec (.brakeFeedbackFault chB) s = .next s)) ∧
    exec .restReportArrival s = .next (s.setIsl (fun x => { x with rest := s.mc.rest })) ∧
    (s.isl.stop = 1 → s.isl.holding = 0 → s.isl.since + 1000 * s.saf SAF_SS_TMAX_MS ≤ s.isl.us → s.isl.fault = false →
      ∃ t : State, exec .safeStopTimeLimit s = .next t ∧ t.isl.stop = 2 ∧ t.isl.out &&& (tqBits ||| emitBits) = 0) ∧
    (s.isl.stop ≠ 1 ∨ s.isl.holding ≠ 0 → exec .safeStopTimeLimit s = .next s) ∧
    (∀ b, s.isl.test = some b →
      (s.pwr.on.getLsbD 88 = false → ∃ t : State, exec .brakeTestPhaseEnd s =
          .next (t.respond b.mbx 0 [pack [(2, 2)], pack [(min 65535 b.moved, 16), (b.peak, 16)]]) ∧
        t.isl.test = none ∧ t.isl.out &&& tqBits = 0 ∧ t.p.brake = s.p.brake) ∧
      (s.pwr.on.getLsbD 88 = true → b.k < b.length → exec .brakeTestPhaseEnd s = .next s) ∧
      (s.pwr.on.getLsbD 88 = true → b.length ≤ b.k → b.phase < 2 → exec .brakeTestPhaseEnd s =
        .next (s.setIsl (fun x => { x with test := some { b with phase := b.phase + 1, k := 0 } }))) ∧
      (s.pwr.on.getLsbD 88 = true → b.length ≤ b.k → 2 ≤ b.phase → ∃ t : State, exec .brakeTestPhaseEnd s =
          .next (t.respond b.mbx 0 [pack [(if 6250 ≤ b.seen then 0 else 2, 2)], pack [(min 65535 b.moved, 16), (b.peak, 16)]]) ∧
        t.isl.test = none ∧ t.isl.out &&& tqBits = 0 ∧ (6250 ≤ b.seen → t.p.brake = 0 ∧ t.wear.brakeTime = 0) ∧
        (b.seen < 6250 → t.p.brake = s.p.brake ∧ t.wear.brakeTime = s.wear.brakeTime))) ∧
    (∃ t : State, exec .brakeTestDue s = .next t ∧ t.p = s.p ∧
      t.isl.due = (s.isl.due || decide (s.saf SAF_BRK_TEST_H * hourUnits ≤ s.wear.brakeTime))) ∧
    (s.isl.report = false → exec .stopReportArrival s = .next s) ∧
    (s.isl.report = true → (s.pwr.dev = .run ∨ s.pwr.dev = .quiet ∨ s.pwr.trans ≠ none) → ∃ t : State, exec .stopReportArrival s = .next t ∧
      t.pwr.dev = .park ∧ t.pwr.trans = none ∧ t.pwr.queue = [])

/-- Energy and messages (R372, R388 to R391, R403, R405 to R407, R520). A sub-pulse adds its energy, rounded up, in each
channel to the sector where its count stands, or to every sector while its angle is unknown; above the pulse limit it
inhibits, and a sum above the energy limit inhibits and counts; a stray pulse takes the largest gain and is flagged. A bucket
boundary, a sixteenth of the effective window after the one before, ages the buckets, and three quarters of the limit end the
inhibit. A frame's pulse count is compared once. Messages carry the next sequence; a message for a change needs one, and 1 ms
since the last; three untaken periods bring the safety reset. With SAF_MSG_MODE 0 vehicle messages do nothing to the island;
with 1 a valid copy's demands act at once, a second one from the same port is ignored, an identical copy from the other port
in time is a matched pair whose bits replace the demands, and one that differs, whenever it comes, is a fault; a timeout is
one; old copies are counted once. -/
def Obligations.IslandEnergyAndMessagesRun : Prop :=
  ∀ s : State,
    (∀ (i : Instr) (g ia ib : Nat), (∃ k : Fin 8, i = .subPulseEnergy k ia ib ∧ g = s.safEff SAF_EN_GAIN k) ∨
        (i = .strayPulse ia ib ∧ (∀ k, k < 8 → s.safEff SAF_EN_GAIN k ≤ g) ∧ ∃ k, k < 8 ∧ g = s.safEff SAF_EN_GAIN k) →
      let ea := ceilDiv (min 65535 ia * g) 256000
      let eb := ceilDiv (min 65535 ib * g) 256000
      ∃ t : State, exec i s = .next t ∧ t.p = s.p ∧
        t.isl.pulse = (s.isl.pulse || decide (s.safEff SAF_PULSE_LIMIT_NJ < max ea eb)) ∧
        (s.isl.encA.angle = true → s.isl.encB.angle = true → t.isl.buckets =
          tmod 0 (tmod 0 s.isl.buckets (s.sector s.isl.encA * 17) (· + ea)) ((1024 + s.sector s.isl.encB) * 17) (· + eb)) ∧
        (s.isl.encA.angle = false → s.isl.encB.angle = false → t.isl.buckets =
          (List.range (s.safEff SAF_SECTORS)).foldl (fun (b : Tab Nat) k => tmod 0 b ((1024 + k) * 17) (· + eb))
            ((List.range (s.safEff SAF_SECTORS)).foldl (fun (b : Tab Nat) k => tmod 0 b (k * 17) (· + ea)) s.isl.buckets)) ∧
        (s.isl.enInh = true → t.isl.enInh = true ∧ t.isl.enCount = s.isl.enCount) ∧
        (s.isl.enInh = false → (t.isl.enInh = true ↔ s.safEff SAF_EN_LIMIT_NJ < t.maxSum) ∧
          t.isl.enCount = (if t.isl.enInh then wrap 32 (s.isl.enCount + 1) else s.isl.enCount)) ∧
        (i = .strayPulse ia ib → t.isl.stray = true ∧ t.isl.pulses = s.isl.pulses) ∧
        (i ≠ .strayPulse ia ib → t.isl.stray = s.isl.stray ∧ t.isl.pulses = s.isl.pulses + 1)) ∧
    (16 * s.isl.us < s.isl.bucketAt + 1000 * s.safEff SAF_EN_WINDOW_MS → exec .energyBucketBoundary s = .next s) ∧
    (s.isl.bucketAt + 1000 * s.safEff SAF_EN_WINDOW_MS ≤ 16 * s.isl.us → ∃ t : State, exec .energyBucketBoundary s = .next t ∧ t.p = s.p ∧
      t.isl.bucketAt = s.isl.bucketAt + 1000 * s.safEff SAF_EN_WINDOW_MS ∧
      t.isl.buckets = (s.isl.buckets.filter (fun (e : Nat × Nat) => e.1 % 17 ≠ 16)).map (fun (e : Nat × Nat) => (e.1 + 1, e.2)) ∧
      t.isl.enInh = (s.isl.enInh && !decide (4 * t.maxSum ≤ 3 * s.safEff SAF_EN_LIMIT_NJ))) ∧
    (s.seq.report = none → exec .subPulseCountCompare s = .next s) ∧
    (∀ n, s.seq.report = some n → ∃ t : State, exec .subPulseCountCompare s = .next t ∧ t.seq.report = none ∧ t.isl.pulses = 0 ∧
      t.isl.mismatch = (if s.isl.pulses = n then s.isl.mismatch else wrap 32 (s.isl.mismatch + 1)) ∧ t.isl.out = s.isl.out) ∧
    (∃ t : State, exec .statusMessagePeriodic s = .next t ∧ t.p = s.p ∧ t.isl.out = s.isl.out ∧
      (s.pwr.dev ≠ .sleep → s.pwr.dev ≠ .off → t.isl.seq = wrap 32 (s.isl.seq + 1)) ∧
      (s.operating = true → s.fabricTakes = false → t.isl.untaken = s.isl.untaken + 1) ∧
      (s.operating = false → t.isl.untaken = 0)) ∧
    (let now := [s.s0, s.s1, w32 s.faults, s.s5]
     (s.isl.told = now ∨ (s.isl.told ≠ [] ∧ s.isl.us < s.isl.toldAt + 1000) → exec .statusMessageOnChange s = .next s) ∧
     (s.isl.told ≠ now → (s.isl.told = [] ∨ s.isl.toldAt + 1000 ≤ s.isl.us) → s.pwr.dev ≠ .sleep → s.pwr.dev ≠ .off →
      ∃ t : State, exec .statusMessageOnChange s = .next t ∧ t.isl.seq = wrap 32 (s.isl.seq + 1) ∧ t.isl.told = now ∧
        t.isl.toldAt = s.isl.us)) ∧
    (s.isl.untaken < 3 → exec .statusNotTaken s = .next s) ∧
    (3 ≤ s.isl.untaken → s.pwr.good = true → s.pwr.failing = false → ∃ t : State, exec .statusNotTaken s = .next t ∧
      t.boot.phase = 1 ∧ t.boot.kind = 6 ∧ t.isl.untaken = 0 ∧
      (s.turning = true → s.isl.fault = false → s.isl.stop < 2 → t.isl.out &&& tqBits = 0)) ∧
    (s.saf SAF_MSG_MODE = 1 → (s.pwr.dev = .run ∨ s.pwr.dev = .quiet) →
      (s.isl.msgAt + 1000 * s.saf SAF_MSG_TIMEOUT_MS ≤ s.isl.us → ∃ t : State, exec .messageTimeout s = .next t ∧
        t.isl.msgFault = true) ∧
      (s.isl.us < s.isl.msgAt + 1000 * s.saf SAF_MSG_TIMEOUT_MS → exec .messageTimeout s = .next s)) ∧
    (∃ t : State, exec .unmatchedCopyExpiry s = .next t ∧
      t = { s with isl := { s.isl with copies := t.isl.copies, msgLone := t.isl.msgLone } } ∧
      (let late (c : MsgCopy) : Bool := decide (c.at_ + 1000 * s.saf SAF_MSG_SKEW_MS < s.isl.us)
       t.isl.msgLone = wrap 32 (s.isl.msgLone + (s.isl.copies.filter (fun c => !c.past && late c)).length) ∧
       ∀ c, c ∈ t.isl.copies ↔ (∃ d ∈ s.isl.copies, c = { d with past := d.past || late d }) ∧
        (c.past = true → ∀ l, s.isl.sLast = some l → 1 ≤ (c.seq - l).toNat ∧ (c.seq - l).toNat ≤ 1024))) ∧
    (∀ (i : Instr) (p : Port) (w0 w1 w2 w3 : Word), i = .safVehicleMsg p w0 w1 w2 w3 ∨
        (∃ d, i = .forwardedVehicleMsg d p w0 w1 w2 w3 ∧ s.enum.addr ≠ none) →
      (s.saf SAF_MSG_MODE = 0 → ∃ t : State, exec i s = .next t ∧ t.isl = s.isl ∧ t.p = s.p) ∧
      (s.saf SAF_MSG_MODE = 1 → w3.toNat = crc32c (wordsBytes [w0, w1, w2]) → w1.toNat = s.saf SAF_MSG_SOURCE_ID →
        (∀ l, s.isl.sLast = some l → 1 ≤ (w0 - l).toNat ∧ (w0 - l).toNat ≤ 1024) →
        let seen := s.isl.copies.find? (fun (c : MsgCopy) => c.seq == w0)
        let second : Prop := ∃ c ∈ s.isl.copies, c.seq = w0 ∧ c.port = p
        let bits : BitVec 3 := BitVec.ofNat 3 (w2.fld 2 0)
        let new : MsgCopy := { seq := w0, port := p, w1 := w1, w2 := w2, at_ := s.isl.us }
        let late (c : MsgCopy) : Prop := c.past = true ∨ c.at_ + 1000 * s.saf SAF_MSG_SKEW_MS < s.isl.us
        ∃ t : State, exec i s = .next t ∧ t.p = s.p ∧ (second → t.isl = s.isl) ∧
          (¬ second → seen = none → t.isl.demand = s.isl.demand ||| bits ∧ t.isl.copies = s.isl.copies ++ [new] ∧
            t.isl.msgFault = s.isl.msgFault) ∧
          (∀ c, ¬ second → seen = some c →
            ((c.w1 ≠ w1 ∨ c.w2 ≠ w2) → t.isl.msgFault = true ∧ t.isl.demand = s.isl.demand ||| bits) ∧
            (c.w1 = w1 → c.w2 = w2 → ¬ late c →
              t.isl.demand = bits ∧ t.isl.sLast = some w0 ∧ t.isl.msgAt = s.isl.us ∧ t.isl.msgFault = s.isl.msgFault) ∧
            (c.w1 = w1 → c.w2 = w2 → late c → t.isl.demand = s.isl.demand ||| bits ∧ t.isl.msgAt = s.isl.msgAt ∧
              t.isl.msgFault = s.isl.msgFault ∧ t.isl.copies = s.isl.copies ++ [new]))))

/-- R411. The effective energy and pulse limits are the smaller of journaled value and fused ceiling, a journaled 0 being no
limit of its own (R410 table); the effective gains, window, sector count and stall speed are the larger of journaled value
and fused floor; no other parameter has a bound. With a ceiling of 0 no emission condition of the island can hold; with a
floor of 0 the effective value is the journaled one. -/
def Obligations.FusedBoundsRestrictTheSafetyParameters : Prop :=
  ∀ (s : State) (i : Nat),
    (∀ p, (p = SAF_EN_LIMIT_NJ ∨ p = SAF_PULSE_LIMIT_NJ) →
      s.safEff p i ≤ s.safBound p i ∧ (s.saf p i ≠ 0 → s.safEff p i ≤ s.saf p i) ∧
      (s.safEff p i = s.safBound p i ∨ s.safEff p i = s.saf p i) ∧ (s.safBound p 0 = 0 → s.emitOk = false)) ∧
    (∀ p, (p = SAF_EN_GAIN ∨ p = SAF_EN_WINDOW_MS ∨ p = SAF_SECTORS ∨ p = SAF_STALL_RPS) →
      s.safBound p i ≤ s.safEff p i ∧ s.saf p i ≤ s.safEff p i ∧ (s.safEff p i = s.safBound p i ∨ s.safEff p i = s.saf p i) ∧
      (s.safBound p i = 0 → s.safEff p i = s.saf p i)) ∧
    (∀ p ∈ safPars, p ≠ SAF_EN_LIMIT_NJ → p ≠ SAF_PULSE_LIMIT_NJ → p ≠ SAF_EN_GAIN → p ≠ SAF_EN_WINDOW_MS →
      p ≠ SAF_SECTORS → p ≠ SAF_STALL_RPS → s.safEff p i = s.saf p i) ∧
    (∀ p f, safFuse p.idx = some f → tfind s.fuse.island (fuseKey f i) = none → s.safBound p i = 0) ∧
    (SAF_EN_LIMIT_NJ.idx = 9 ∧ SAF_PULSE_LIMIT_NJ.idx = 10 ∧ SAF_EN_GAIN.idx = 11 ∧ SAF_EN_WINDOW_MS.idx = 8 ∧
      SAF_SECTORS.idx = 7 ∧ SAF_STALL_RPS.idx = 5)

/-- The 0Bxxh commands (R419 to R421, R423, R424, R429, R450). ETH_STATUS_GET answers link, mode, failover, counts and MAC
address of the port. ETH_DEST_SET stores the entry, no other one changing, to be resolved anew; ETH_DEST_GET answers the
entry and whether its MAC address is known on a port. ETH_Q_BIND closes the open datagram of each queue of the range and
gives it the binding, except that queues 0 and 1 take only PCP, DSCP, destination and depth; no other queue's binding
changes. ETH_Q_GET answers the binding and the counts. -/
def Obligations.EthernetCommandsComplete : Prop :=
  ∀ (s : State) (m : Fin 64), let w := s.pw m 0
    (s.turn m 0x0B01 → w.fld 31 1 = 0 → let p := w.fld 0 0
      exec (.ethStatusGet m) s = .next (s.respond m 0
        [pack [(b2n (s.port p).up, 1), (s.ethMode p, 2), (b2n (s.carrying p), 1)], w32 (s.port p).sent, w32 (s.port p).drop,
         w32 (s.port p).rcv, w32 (s.port p).rcvDrop, w32 (s.port p).fcs, w32 (s.macOf p), pack [(s.macOf p / 2 ^ 32, 16)]])) ∧
    (s.turnP m 0x0B04 → w.fld 31 10 = 0 → destOk ((span 1 8).map (s.pw m)) = true → let d := w.fld 9 0
      ∃ t : State, exec (.ethDestSet m) s = .next (t.commitAnswer 11 (recordBytes 8) m []) ∧
        t = { s with p := { s.p with dest := t.p.dest }, eth := { s.eth with mac := t.eth.mac } } ∧
        t.destOf d = (span 1 8).map (s.pw m) ∧ (∀ k, k ≠ d → t.destOf k = s.destOf k ∧ ∀ p, p < 2 → t.destMac p k = s.destMac p k) ∧
        ((s.pw m 1).bit 1 = true → destMulticast ((span 1 8).map (s.pw m)) = false → ∀ p, p < 2 → t.destMac p d = none)) ∧
    (s.turn m 0x0B05 → w.fld 31 10 = 0 → exec (.ethDestGet m) s = .next (s.respond m 0
      (s.destOf (w.fld 9 0) ++ [pack [(b2n ((s.destMac 0 (w.fld 9 0)).isSome || (s.destMac 1 (w.fld 9 0)).isSome), 1)]]))) ∧
    (let first := w.fld 14 0
     let n := w.fld 30 15
     let b := bindingOf (fun i => s.pw m (1 + i))
     s.turnP m 0x0B06 → w.bit 31 = false → first + n ≤ 32768 → s.bindingOk (fun i => s.pw m (1 + i)) first n = true →
      ∃ t : State, exec (.ethQBind m) s = .next (t.commitAnswer 11 (recordBytes 4) m []) ∧ t.cells = s.cells ∧ t.kept = s.kept ∧
        (∀ q, first ≤ q → q < first + n → (t.queue q).cur = [] ∧ (2 ≤ q → t.bindOf q = b) ∧
          (q < 2 → t.bindOf q = { s.bindOf q with pcp := b.pcp, dscp := b.dscp, dest := b.dest, depth := b.depth })) ∧
        ∀ q, (q < first ∨ first + n ≤ q) → t.bindOf q = s.bindOf q ∧ (t.queue q).cur = (s.queue q).cur) ∧
    (s.turn m 0x0B07 → w.fld 31 15 = 0 → let q := w.fld 14 0
      exec (.ethQGet m) s = .next (s.respond m 0 ((s.bindOf q).words ++ [w32 (s.queue q).enq, w32 (s.queue q).disc,
        w32 (s.queue q).seq, pack [(sat 24 (ceilDiv (s.queue q).held 1024), 24)]])))

/-- Ethernet events (R416, R418, R420, R429, R431 to R433, R435, R456). A frame at a port with a link is counted; a bad FCS
is counted and discarded, one above 9,216 bytes, for another address or VID, or of no class is discarded, an 802.1AS frame is
passed on; an ARP, ICMP or ICMPv6 frame is the firmware's, which answers a request. A resolution gives a destination that is
set and resolves, on a port with a link, the MAC address found for its next hop (its own address inside the prefix, else the
gateway or default router); without a next hop it is unresolved; no other one changes. The flush closes the open datagram
with its sequence, once. The end of a frame counts a datagram sent, and a waiting SAFETY datagram goes next, else an EVENT
one, as its frame, of each queue its oldest. A link that comes up is up where the domain is on and the mode is not off; one
that goes down loses what waited and counts the lost responses. A router whose lifetime ends is forgotten, and destinations
that have no next hop any more become unresolved. -/
def Obligations.EthernetEventsRun : Prop :=
  ∀ s : State,
    (∀ (p : Port) (f : RxFrame), let x := s.port p.n
      let mine : Prop := f.mac = s.macOf p.n ∨ f.mac = 0xFFFFFFFFFFFF ∨ f.mac = 0x0180C200000E ∨
        f.mac = 0x3333FF000000 + s.cur ETH_IPV6_ADDR3 p.n % 2 ^ 24
      let vlan : Prop := ∀ v, f.vid = some v → v = s.cur ETH_VID p.n
      (x.up = false → exec (.ethFrameReceive p f) s = .next s) ∧
      (x.up = true → ∃ t : State, exec (.ethFrameReceive p f) s = .next t ∧ t.p = s.p ∧ t.cells = s.cells ∧
        (f.asks = false ∨ x.wire ≠ none → t = { s with eth := t.eth } ∧ t.eth.q = s.eth.q) ∧
        (t.port p.n).rcv = wrap 32 (x.rcv + 1) ∧ (t.port p.n).sent = x.sent ∧ t.port (1 - p.n) = s.port (1 - p.n) ∧
        (f.fcsOk = false → (t.port p.n).fcs = wrap 32 (x.fcs + 1) ∧ (t.port p.n).rcvDrop = wrap 32 (x.rcvDrop + 1)) ∧
        (f.fcsOk = true → (t.port p.n).fcs = x.fcs ∧
          (9216 < f.size ∨ ¬ mine ∨ ¬ vlan → (t.port p.n).rcvDrop = wrap 32 (x.rcvDrop + 1)) ∧
          (f.size ≤ 9216 → mine → vlan →
            (f.etype = 0x88F7 → (t.port p.n).rcvDrop = x.rcvDrop ∧ t.eth.fwFrames = s.eth.fwFrames) ∧
            (f.etype = 0x0806 ∨ (f.etype ≠ 0x88F7 ∧ f.odd = false ∧ (f.ip = 4 ∨ f.ip = 6) ∧ (f.proto = 1 ∨ f.proto = 58)) →
              (t.port p.n).rcvDrop = x.rcvDrop ∧ t.eth.fwFrames = s.eth.fwFrames + 1 ∧
              (f.asks = true → x.wire ≠ none → (t.port p.n).ctl = x.ctl ++ [.fw true f.from_.toNat])) ∧
            (f.etype ≠ 0x88F7 → f.etype ≠ 0x0806 → (f.odd = true ∨ (f.ip ≠ 4 ∧ f.ip ≠ 6)) →
              (t.port p.n).rcvDrop = wrap 32 (x.rcvDrop + 1)) ∧
            (f.etype ≠ 0x88F7 → f.etype ≠ 0x0806 → f.odd = false → f.ip = 4 ∨ f.ip = 6 → f.proto = 17 →
              (t.port p.n).rcvDrop = if s.rxAddr p.n f = true ∧ f.udp = s.skeicAt p.n then x.rcvDrop
                else wrap 32 (x.rcvDrop + 1)))))) ∧
    (∀ found : List (Nat × Nat × Nat), ∃ t : State, exec (.addressResolution found) s = .next t ∧ t.p = s.p ∧ t.cells = s.cells ∧
      ∀ d p, p < 2 → let e := s.destOf d
        let hop : Option Nat := if s.offPrefix p e = false then some (destIp e)
          else if destV6 e then (defaultRouter (s.port p).routers).map (·.toNat) else some (s.cur ETH_IPV4_GW p)
        let resolves : Prop := (tfind s.p.dest d).isSome = true ∧ (wd e 0).bit 1 = true ∧ destMulticast e = false ∧
          (s.port p).up = true
        (¬ resolves → t.destMac p d = s.destMac p d) ∧ (resolves → hop = none → t.destMac p d = none) ∧
        (resolves → ∀ ip, hop = some ip → let hit := found.find? (fun (x : Nat × Nat × Nat) => x.1 == p && x.2.1 == ip)
          (hit = none → t.destMac p d = s.destMac p d) ∧ ∀ x, hit = some x → t.destMac p d = some (x.2.2 % 2 ^ 48))) ∧
    (∀ q : Fin 32768, let x := s.queue q
      (x.cur = [] → exec (.datagramFlush q) s = .next s) ∧
      (x.cur ≠ [] → ∃ t : State, exec (.datagramFlush q) s = .next t ∧ (t.queue q).cur = [] ∧ (t.queue q).lost = 0 ∧
        (t.queue q).seq = wrap 32 (x.seq + 1) ∧ t.p = s.p ∧ t.cells = s.cells)) ∧
    (∀ p : Port, let x := s.port p.n
      (x.wire = none → exec (.portTransmitComplete p) s = .next s) ∧
      (∀ d, x.wire = some (.dgram d) → ∃ t : State, exec (.portTransmitComplete p) s = .next t ∧ t.p = s.p ∧
        (t.port p.n).sent = wrap 32 (x.sent + 1) ∧
        let first := headsOf x.wait
        let sends (e : Dgram) : Prop := (t.port p.n).wire = some (.dgram e) ∧ (t.port p.n).frame = s.frameOf p.n e
        (x.up = true → ∀ e, first.find? (fun (e : Dgram) => e.prio == 1) = some e → sends e) ∧
        (x.up = true → first.find? (fun (e : Dgram) => e.prio == 1) = none →
          ∀ e, first.find? (fun (e : Dgram) => e.prio == 2) = some e → sends e))) ∧
    (∀ p : Port,
      (s.dom (80 + p.n) = true → s.ethMode p.n ≠ 0 → ∃ t : State, exec (.portLinkUp p) s = .next t ∧ (t.port p.n).up = true ∧ t.p = s.p) ∧
      (s.dom (80 + p.n) = false ∨ s.ethMode p.n = 0 → exec (.portLinkUp p) s = .next s) ∧
      ((s.port p.n).up = false → exec (.portLinkDown p) s = .next s) ∧
      ((s.port p.n).up = true → ∃ t : State, exec (.portLinkDown p) s = .next t ∧ (t.port p.n).up = false ∧ (t.port p.n).wire = none ∧
        (t.port p.n).wait = [] ∧ (t.port p.n).ctl = [] ∧ (t.port (1 - p.n)).wait = (s.port (1 - p.n)).wait ∧
        t.ske.lost = wrap 32 (s.ske.lost + ((s.port p.n).ctl.filter (fun (it : Item) =>
          match it with | .resp _ _ _ _ _ => true | _ => false)).length)) ∧
      ∀ router : BitVec 128, ∃ t : State, exec (.routerLifetimeExpiry p router) s = .next t ∧ t = { s with eth := t.eth } ∧
        (t.port p.n).routers = (s.port p.n).routers.filter (fun (x : BitVec 128 × Int) => decide (x.1 ≠ router)) ∧
        t.eth.q = s.eth.q ∧ ∀ d, (wd (s.destOf d) 0).bit 1 = true → destMulticast (s.destOf d) = false →
          t.nextHop p.n (s.destOf d) = none → t.destMac p.n d = none)

/-- Queries of chapter 12 (R470, R486; tables ID_GET, SES_STATUS, MBX_STATUS, FW_STATUS_GET): whenever the turn of the placed
message has come, the command answers the payload of its table and nothing but the response changes; ECHO returns its
payload. Sessions (R463, R465, R467, R468, R485) and DEV_RESET (R486): SES_OPEN outside session 0 is answered with status
03h; in session 0 with no session free it answers result 1; otherwise the lowest free session becomes pending with the key of
R465 and the response carries the device nonce (a value of the random source, log 5) and the device's proof. SES_CLOSE frees
the sender's session or, for a service session, the one named; from an operate session another one is status 03h. A sender in
session 0 that names none closes none (log 75); a forwarded close of its sender's own session is answered only, and that
session stands elsewhere. A pending session is freed when its second has ended, an open one when SKE_IDLE_S has passed,
unless that is 0; none sooner. DEV_RESET is answered and schedules the reset. -/
def Obligations.IdentityAndSessionCommandsComplete : Prop :=
  ∀ (s : State) (m : Fin 64),
    (s.turn m 0x0101 → exec (.idGet m) s = .next (s.respond m 0
      [pack [(0, 4), (s.fuseVal 2 0, 4), (s.fuseVal 1 0, 8), (s.fuseVal 0 0, 16)], w32 (s.fuseVal 3 0),
       w32 (s.fuseVal 3 0 / 2 ^ 32), s.boot.version,
       pack [(s.boot.slot, 1), (s.boot.svn, 6), (b2n s.boot.trial, 1), (s.addr, 3), (b2n s.enum.cond, 1)]])) ∧
    (s.turn m 0x0104 → exec (.sesStatus m) s = .next (s.respond m 0 ((span 1 8).flatMap (fun n =>
      [pack [(b2n ((s.sess n).st = 2), 1), (b2n ((s.sess n).st = 1), 1), (b2n (s.sess n).service, 1),
        (b2n (s.sessOf m = n), 1), (0, 12),
        (if (s.sess n).st = 2 then sat 16 ((s.tb.tick - (s.sess n).since) / 1600000000) else 0, 16)],
       (s.sess n).smax])))) ∧
    (s.turn m 0x0105 → exec (.mbxStatus m) s = .next (s.respond m 0
      ((List.range 8).map (fun i => pack ((List.range 8).map (fun j => (s.mbxCode (8 * i + j), 4)))) ++
        (List.range 6).map (fun c => w32 (tget 0 s.ske.disc c)) ++ [w32 s.ske.lost]))) ∧
    (s.turn m 0x0106 → exec (.echo m) s = .next (s.respond m 0 (s.payload m))) ∧
    (s.turn m 0x010A → exec (.fwStatusGet m) s = .next (s.respond m 0
      [pack [(s.boot.slot, 1), (s.p.boot.pref.getD 0, 1), (b2n s.p.boot.trial, 1), (b2n s.boot.fellBack, 1),
        (tget 7 s.boot.res 0, 3), (tget 7 s.boot.res 1, 3), (s.fuseVal 12 0, 6)],
       if tget 7 s.boot.res 0 = 0 then s.slotWord 0 3 else 0, if tget 7 s.boot.res 1 = 0 then s.slotWord 1 3 else 0])) ∧
    (s.turn m 0x0102 → s.sessOf m ≠ 0 → exec (.sesOpen m) s = .next (s.respond m 3 [])) ∧
    (s.turn m 0x0102 → s.sessOf m = 0 → (s.pw m 0).fld 31 1 = 0 → s.freeSession = 0 →
      exec (.sesOpen m) s = .next (s.respond m 0 (pack [(1, 2)] :: List.replicate 8 0))) ∧
    (s.turn m 0x0102 → s.sessOf m = 0 → (s.pw m 0).fld 31 1 = 0 → s.freeSession ≠ 0 →
      ∃ (t : State) (p : List Word), exec (.sesOpen m) s = .next (t.respond m 0 (pack [(0, 2), (s.freeSession, 4)] :: p)) ∧
        t = { s with ske := { s.ske with sess := t.ske.sess }, free := s.free + 1 } ∧
        (t.sess s.freeSession).st = 1 ∧ (t.sess s.freeSession).service = (s.pw m 0).bit 0 ∧
        (t.sess s.freeSession).key = s.sessionKey ((s.pw m 0).bit 0) (wordsBytes ((span 1 4).map (s.pw m)))
          (bytesLE (Config.deviceNonce s.free).toNat 16) s.freeSession ∧
        ∀ k, k ≠ s.freeSession → t.sess k = s.sess k) ∧
    (s.turn m 0x0103 → (s.pw m 0).fld 31 4 = 0 → (s.pw m 0).fld 3 0 ≠ 0 → (s.pw m 0).fld 3 0 ≤ 8 →
      ((s.pw m 0).fld 3 0 = s.sessOf m ∨ (s.mbx m).service = true) →
      exec (.sesClose m) s = .next ((if (s.pw m 0).fld 3 0 = s.sessOf m ∧ (s.mbx m).fromChain ≠ none then s
        else s.setSess ((s.pw m 0).fld 3 0) (fun _ => {})).respond m 0 [])) ∧
    (s.turn m 0x0103 → (s.pw m 0).fld 31 4 = 0 → (s.pw m 0).fld 3 0 ≠ 0 → (s.pw m 0).fld 3 0 ≤ 8 →
      (s.pw m 0).fld 3 0 ≠ s.sessOf m → (s.mbx m).service = false →
      exec (.sesClose m) s = .next (s.respond m 3 [])) ∧
    (s.turn m 0x0103 → s.pw m 0 = 0 → 1 ≤ s.sessOf m → s.sessOf m ≤ 8 →
      exec (.sesClose m) s = .next ((if (s.mbx m).fromChain ≠ none then s
        else s.setSess (s.sessOf m) (fun _ => {})).respond m 0 [])) ∧
    (s.turn m 0x0103 → s.pw m 0 = 0 → s.sessOf m = 0 → exec (.sesClose m) s = .next (s.respond m 0 [])) ∧
    (s.turn m 0x0107 → exec (.devReset m) s =
      .next (({ s with ske := { s.ske with resetDue := true } } : State).respond m 0 [])) ∧
    (∀ n : Fin 8, (s.sess (n + 1)).st = 1 → (s.sess (n + 1)).since + usTicks 1000000 ≤ s.tb.tick → ∃ t : State, exec (.sessionPendingExpiry n) s = .next t ∧
      t = { s with ske := { s.ske with sess := t.ske.sess } } ∧ t.sess (n + 1) = {} ∧
      ∀ k, k ≠ n.val + 1 → t.sess k = s.sess k) ∧
    (∀ n : Fin 8, (s.sess (n + 1)).st = 2 → s.val SKE_IDLE_S ≠ 0 →
      (s.sess (n + 1)).since + usTicks (1000000 * s.val SKE_IDLE_S) ≤ s.tb.tick → ∃ t : State, exec (.sessionIdleExpiry n) s = .next t ∧
      t = { s with ske := { s.ske with sess := t.ske.sess } } ∧ t.sess (n + 1) = {} ∧
      ∀ k, k ≠ n.val + 1 → t.sess k = s.sess k) ∧
    (∀ n : Fin 8, ((s.sess (n + 1)).st ≠ 1 ∨ s.tb.tick < (s.sess (n + 1)).since + usTicks 1000000 →
        exec (.sessionPendingExpiry n) s = .next s) ∧
      ((s.sess (n + 1)).st ≠ 2 ∨ s.val SKE_IDLE_S = 0 ∨
        s.tb.tick < (s.sess (n + 1)).since + usTicks (1000000 * s.val SKE_IDLE_S) →
        exec (.sessionIdleExpiry n) s = .next s))

/-- Firmware slots (R463, R478, R484, R487 to R489). FW_ERASE starts the erase of the standby slot; at its completion every
word of that slot reads erased, its result is 6, the other slot keeps its words, and the command is answered. FW_IMAGE_WRITE
writes its words and sets the result to 7; FW_IMAGE_CHECK stores and answers the result of the tests of R478; FW_BOOT_SELECT
changes the boot record only. An operate session is answered with status 03h for the three commands that R463 names. Recovery
starts in stage 5 only and ends with the check of slot 0. -/
def Obligations.FirmwareSlotsChange : Prop :=
  ∀ (s : State) (m : Fin 64),
    (s.turn m 0x010B → s.ske.erasing = none → ∃ t : State, exec (.fwErase m) s = .next t ∧
      t = { s with ske := t.ske } ∧ t.ske.erasing = some m.val ∧ (t.mbx m).st = 3) ∧
    (∀ k, s.ske.erasing = some k → s.boot.slot ≤ 1 → ∃ t : State, exec .fwEraseComplete s = .next (t.respond k 0 []) ∧
      t = { s with slot := t.slot, boot := { s.boot with res := t.boot.res },
                   ske := { s.ske with erasing := none } } ∧
      tget 7 t.boot.res (1 - s.boot.slot) = 6 ∧ tget 7 t.boot.res s.boot.slot = tget 7 s.boot.res s.boot.slot ∧
      ∀ i, i < slotWords → t.slotWord (1 - s.boot.slot) i = 0xFFFFFFFF#32 ∧
        t.slotWord s.boot.slot i = s.slotWord s.boot.slot i) ∧
    (s.turn m 0x010C → (s.pw m 0).fld 31 23 = 0 → (s.pw m 1).fld 31 10 = 0 → (s.pw m 1).fld 9 0 ≤ 1000 →
      (s.pw m 0).fld 22 0 + (s.pw m 1).fld 9 0 ≤ slotWords →
      (∀ i, i < (s.pw m 1).fld 9 0 → tfind s.slot (s.standby * slotWords + (s.pw m 0).fld 22 0 + i) = none) →
      ∃ t : State, exec (.fwImageWrite m) s = .next (t.respond m 0 []) ∧
        t = { s with slot := t.slot, boot := { s.boot with res := t.boot.res }, obs := { s.obs with perf := t.obs.perf } } ∧
        tget 7 t.boot.res s.standby = 7 ∧
        ∀ i, i < (s.pw m 1).fld 9 0 → t.slotWord s.standby ((s.pw m 0).fld 22 0 + i) = s.pw m (2 + i)) ∧
    (s.turn m 0x010D → exec (.fwImageCheck m) s = .next ((s.setRes s.standby (s.imageCheck s.standby)).respond m 0
      (pack [(s.imageCheck s.standby, 3)] :: if s.imageCheck s.standby = 0 then [s.slotWord s.standby 3] else []))) ∧
    (s.turnP m 0x010E → (s.pw m 0).fld 31 2 = 0 → (s.pw m 0).fld 1 0 ≠ 3 →
      let b : BootRec :=
        if (s.pw m 0).fld 1 0 = 0 then { s.p.boot with pref := some (1 - s.boot.slot) }
        else if (s.pw m 0).fld 1 0 = 1 then { s.p.boot with trial := true, slot := 1 - s.boot.slot }
        else { s.p.boot with pref := some s.boot.slot, trial := false }
      exec (.fwBootSelect m) s = .next (({ s with p := { s.p with boot := b } } : State).commitAnswer 1 20 m [])) ∧
    (∀ op i, cmdOp i = some (m, op) → op = 0x010B ∨ op = 0x010C ∨ op = 0x010E → s.holds m op = true →
      s.behind m = false → s.pwr.safe = false → (s.mbx m).service = false → exec i s = .next (s.respond m 3 [])) ∧
    (s.spAlive = true → s.boot.stage = 5 → ∃ t : State, exec .spBootRecoveryStart s = .next t ∧
      t = { s with slot := t.slot, boot := { s.boot with stage := 6, recover := 0, res := t.boot.res } } ∧
      ∀ i, i < slotWords → t.slotWord 0 i = 0xFFFFFFFF#32 ∧ t.slotWord 1 i = s.slotWord 1 i) ∧
    (s.spAlive = true → s.boot.stage = 6 → ∃ t : State, exec .spBootRecoveryEnd s = .next t ∧
      t = { s with boot := t.boot } ∧ tget 7 t.boot.res 0 = s.imageCheck 0 ∧
      t.boot.stage = if s.imageCheck 0 = 0 then 2 else 5)

/-- Service-port writes (R481 to R484, table Service-port registers), where the port answers. SP_MBX_ADDR sets the window and
claims a free mailbox; an access to SP_MBX_DATA advances the offset by one (wrapping within 1,024 words: log 13) and a write
stores the word in a claimed mailbox; SP_RING of a claimed mailbox whose message is longer than 4,096 bytes frees it and sets
its doorbell; SP_RING of a good message of the unlocked port in session 0 places it; writing 1 to a doorbell bit clears it
and frees the answered mailbox. In recovery a word written to SP_MBX_DATA goes into slot 0 in order. Transactions: the first
byte tells read or write and the register; a write gives its four data bytes, most significant first, to the register's own
behaviour; SP_SCRATCH keeps them, a read-only register changes nothing, and SP_MBX_DATA alone goes on with the next four. A
read returns the register's bytes on SP_SDO after one byte that is ignored, and changes nothing else, but that a read of
SP_MBX_DATA advances the offset. A port that does not answer leaves SP_SDO high-impedance. -/
def Obligations.ServicePortAccesses : Prop :=
  ∀ (s : State) (v : Word),
    (s.spAlive = false → ∀ first bytes, exec (.spRegisterWrite first bytes) s = .next { s with ske := { s.ske with sdo := none } }) ∧
    (s.spAlive = true →
    (v.fld 31 17 = 0 → ∃ t : State, exec (.spMbxAddrWrite v) s = .next t ∧ t = { s with ske := t.ske } ∧
      t.ske.spMbx = v.fld 5 0 ∧ t.ske.spOff = v.fld 15 6 ∧
      (t.mbx (v.fld 5 0)).st = (if (s.mbx (v.fld 5 0)).st = 0 then 1 else (s.mbx (v.fld 5 0)).st)) ∧
    (∀ read, s.boot.stage ≠ 6 → ∃ t : State, exec (.spMbxDataAccess read v) s = .next t ∧
      t = { s with ske := { s.ske with mem := t.ske.mem, spOff := (s.ske.spOff + 1) % 1024, sdo := t.ske.sdo } } ∧
      t.ske.sdo = (if read then some (bytesBE (s.mw s.ske.spMbx s.ske.spOff).toNat 4) else s.ske.sdo) ∧
      (read = true ∨ (s.mbx s.ske.spMbx).st ≠ 1 → t.ske.mem = s.ske.mem) ∧
      (read = false → (s.mbx s.ske.spMbx).st = 1 → t.mw s.ske.spMbx s.ske.spOff = v)) ∧
    (s.boot.stage = 6 → s.boot.recover < slotWords → ∃ t : State, exec (.spMbxDataAccess false v) s = .next t ∧
      t = { s with slot := t.slot, boot := { s.boot with recover := s.boot.recover + 1 } } ∧
      t.slotWord 0 s.boot.recover = v) ∧
    (v.fld 31 6 = 0 → (s.mbx (v.fld 5 0)).st = 1 → s.boot.stage = 4 → s.spLocked = false →
      4096 < wantedBytes ((List.range 4).map (s.mw (v.fld 5 0))) true → ∃ t : State, exec (.spRingWrite v) s = .next t ∧
        (t.mbx (v.fld 5 0)).st = 0 ∧ t.ske.bell.getLsbD (v.fld 5 0) = true) ∧
    (v.fld 31 6 = 0 → (s.mbx (v.fld 5 0)).st = 1 → s.boot.stage = 4 → s.spLocked = false →
      s.plen (v.fld 5 0) ≤ 1016 → s.sessOf (v.fld 5 0) = 0 → s.opcode (v.fld 5 0) ≠ 0x0A20 →
      (s.mw (v.fld 5 0) 0).fld 24 22 = s.addr →
      headerOk ((List.range (4 + s.plen (v.fld 5 0))).map (s.mw (v.fld 5 0))) = true →
      ∃ t : State, exec (.spRingWrite v) s = .next t ∧ t = { s with ske := t.ske, obs := t.obs } ∧
        (t.mbx (v.fld 5 0)).st = 2 ∧ (t.mbx (v.fld 5 0)).service = true ∧
        ∀ i, i < 4 + s.plen (v.fld 5 0) → t.mw (v.fld 5 0) i = s.mw (v.fld 5 0) i) ∧
    (∀ hi, ∃ t : State, exec (.spDoorbellWrite hi v) s = .next t ∧ t = { s with ske := t.ske } ∧
      ∀ i, i < 32 → t.ske.bell.getLsbD ((if hi then 32 else 0) + i) =
          (s.ske.bell.getLsbD ((if hi then 32 else 0) + i) && !v.bit i) ∧
        t.mbx ((if hi then 32 else 0) + i) =
          (if v.bit i = true ∧ (s.mbx ((if hi then 32 else 0) + i)).st = 4 then {}
           else s.mbx ((if hi then 32 else 0) + i))) ∧
    (∀ (first a b c d : BitVec 8) (rest : List (BitVec 8)),
      let reg := first.toNat % 128
      let w : Word := a ++ b ++ c ++ d
      let write := exec (.spRegisterWrite first (a :: b :: c :: d :: rest)) s
      (first.toNat < 128 →
        (reg = 12 → write = .next { s with ske := { s.ske with scratch := w } }) ∧
        (reg < 7 → reg ≠ 3 → write = .next s) ∧
        (reg = 3 → write = if w = 6 then exec .spBootRecoveryStart s else if w = 7 then exec .spBootRecoveryEnd s else .next s) ∧
        (reg = 7 ∨ reg = 8 → write = exec (.spDoorbellWrite (reg == 8) w) s) ∧
        (reg = 9 → write = exec (.spMbxAddrWrite w) s) ∧ (reg = 11 → write = exec (.spRingWrite w) s) ∧
        (reg = 10 → ∀ t, exec (.spMbxDataAccess false w) s = .next t → write = exec (.spRegisterWrite first rest) t) ∧
        exec (.spRegisterWrite first [a, b, c]) s = .next s) ∧
      (128 ≤ first.toNat → let v := s.spRead reg
        (reg ≠ 10 → exec (.spRegisterWrite first (a :: b :: c :: d :: rest)) s = .next { s with ske := { s.ske with
          sdo := some ((bytesBE v.toNat 4).take (3 + rest.length)) } }) ∧
        (reg = 10 → rest.length = 1 → exec (.spRegisterWrite first (a :: b :: c :: d :: rest)) s = .next { s with ske := { s.ske with
          sdo := some (bytesBE v.toNat 4), spOff := (s.ske.spOff + 1) % 1024 } }))))

/-- Placement (R453 to R458). A datagram with opcode 0A20h is the island's message; in SLEEP and OFF none is taken (R69). A
datagram that passes steps 1 to 6 and is for this device is placed when its mailbox is free: the mailbox is held for
application and holds the message's words, no other mailbox changes, and a sequence check of its session would now refuse the
same sequence. When the mailbox is occupied, the response with status 01h and an empty payload goes to its port, or is lost
where the port has no link, no mailbox changes, and the session would accept the same sequence again. A ready response is
handed on and frees the mailbox. A message from the chain for this device is placed in its free mailbox. -/
def Obligations.ArrivingMessageIsPlacedOrBusy : Prop :=
  ∀ (s : State),
    (∀ d : Arrival, s.pwr.dev = .sleep ∨ s.pwr.dev = .off → exec (.skeicMessageArrival d) s = .next s) ∧
    (∀ d : Arrival, leNat (d.bytes.take 2) = 0x0A20 → s.pwr.dev ≠ .sleep → s.pwr.dev ≠ .off → s.boot.phase ≠ 2 →
      let ws := bytesWords d.bytes
      exec (.skeicMessageArrival d) s = exec (.safVehicleMsg d.port (wd ws 4) (wd ws 5) (wd ws 6) (wd ws 7)) s) ∧
    (∀ d, s.arrives d → let ws := bytesWords d.bytes; let m := (wd ws 0).fld 21 16; let n := (wd ws 2).fld 3 0;
      ((s.mbx m).st = 0 → ∃ t : State, exec (.skeicMessageArrival d) s = .next t ∧
        t = { s with ske := t.ske, p := t.p, lag := t.lag, obs := t.obs } ∧ (t.mbx m).st = 2 ∧
        (∀ i, i < ws.length → t.mw m i = wd ws i) ∧ (∀ k, k ≠ m → t.mbx k = s.mbx k) ∧
        (n ≠ 0 → (t.sess n).accepts (wd ws 1) = false)) ∧
      ((s.mbx m).st ≠ 0 → ∃ t : State, exec (.skeicMessageArrival d) s = .next t ∧ t.ske.mbx = s.ske.mbx ∧
        t.ske.mem = s.ske.mem ∧ t.p = s.p ∧ tget 0 t.ske.disc 5 = wrap 32 (tget 0 s.ske.disc 5 + 1) ∧
        (n ≠ 0 → (t.sess n).accepts (wd ws 1) = true) ∧ (∀ k, k ≠ n → t.sess k = s.sess k) ∧
        ((s.port d.port.n).up = false → t.ske.lost = wrap 32 (s.ske.lost + 1)) ∧
        ((s.port d.port.n).up = true → ∃ u : State, t = u.toCtl d.port.n (.resp d.src d.udp d.vid (s.skeicAt d.port.n)
          (responseWords (wd ws 0) (wd ws 1) (wd ws 2) (wd ws 3) 1 [] (s.keyOf ws false)))))) ∧
    (∀ m : Fin 64, (s.mbx m).ready = true → (s.mbx m).st = 3 → ∃ t : State, exec (.responseHandoff m) s = .next t ∧
      (t.mbx m).st = 0 ∧ ∀ k, k ≠ m.val → t.mbx k = s.mbx k) ∧
    (∀ down msg, s.enum.fault = false → (wd msg 0).bit 25 = false → (wd msg 0).fld 24 22 = s.addr →
      s.boot.stage = 4 → (s.mbx ((wd msg 0).fld 21 16)).st = 0 → headerOk msg = true →
      ∃ t : State, exec (.forwardedMessageArrival down msg) s = .next t ∧ (t.mbx ((wd msg 0).fld 21 16)).st = 2 ∧
        (t.mbx ((wd msg 0).fld 21 16)).fromChain = some down ∧
        ∀ i, i < msg.length → t.mw ((wd msg 0).fld 21 16) i = wd msg i)

/-- R464: after the first message, a sequence is accepted exactly when it is newer than s_max by 1 to 2³¹ − 1, or lies in the
64 sequences up to s_max and has not been seen; a newer one becomes s_max. The first message is accepted with any sequence.
An accepted sequence is not accepted again, and a sequence seen before and still in the window stays seen. Session 0 has no
sequence check except for wake messages. -/
def Obligations.SequenceIsAcceptedOnce : Prop :=
  ∀ (x : Sess) (q : BitVec 32),
    (x.fresh = true → x.accepts q = true ∧ (x.mark q).smax = q) ∧
    (x.fresh = false → (x.accepts q = true ↔
      (1 ≤ (q - x.smax).toNat ∧ (q - x.smax).toNat ≤ 2 ^ 31 - 1) ∨
        ((x.smax - q).toNat < 64 ∧ x.seen.getLsbD (x.smax - q).toNat = false))) ∧
    (x.fresh = false → (x.mark q).smax =
      if 1 ≤ (q - x.smax).toNat ∧ (q - x.smax).toNat ≤ 2 ^ 31 - 1 then q else x.smax) ∧
    (x.accepts q = true → (x.mark q).accepts q = false) ∧
    (∀ r : BitVec 32, x.fresh = false → x.accepts q = true → (x.smax - r).toNat < 64 →
      x.seen.getLsbD (x.smax - r).toNat = true → ((x.mark q).smax - r).toNat < 64 → (x.mark q).accepts r = false) ∧
    (∀ (s : State) (ws : List Word) (free : Bool), (wd ws 2).fld 3 0 = 0 →
      s.seqOk ws free = (!((wd ws 0).fld 15 0 = 0x0202 && !free) ||
        newer (wd ws 1) (w32 (s.work SKE_WAKE_SEQ 0))))

/-- Responses (R456, R457, R459, R483): for a mailbox in use, the response's words are the command's opcode, mailbox and
chain address with the response bit, its sequence, its session with the status and the payload length, its tag, the payload
where the status is 00h, and the trailer where the message had one; reserved bits are 0 (R5). They stand in the mailbox from
word 0 on. A service-port mailbox is answered and its doorbell is set; any other is ready for its port. Nothing but the Skeic
state changes, and no other mailbox; a mailbox that is free (after a reset) gets no response. -/
def Obligations.ResponseIsWrittenWhole : Prop :=
  ∀ (s : State) (m status : Nat) (payload : List Word), m < 64 →
    ((s.mbx m).st = 0 → s.respond m status payload = s) ∧
    ((s.mbx m).st ≠ 0 → ∃ t : State, s.respond m status payload = t ∧ t = { s with ske := t.ske } ∧
      (let ws := responseWords (s.mw m 0) (s.mw m 1) (s.mw m 2) (s.mw m 3) status payload (s.mbx m).key
       ∀ i, i < ws.length → t.mw m i = wd ws i) ∧
      t.ske.order = s.ske.order.erase m ∧ (∀ k, k ≠ m → t.mbx k = s.mbx k) ∧
      ((s.mbx m).viaSp = true → (t.mbx m).st = 4 ∧ t.ske.bell = s.ske.bell ||| BitVec.ofNat 64 (2 ^ m)) ∧
      ((s.mbx m).viaSp = false → (t.mbx m).st = 3 ∧ (t.mbx m).ready = true ∧ t.ske.bell = s.ske.bell)) ∧
    (∀ h0 h1 h2 h3 : Word, responseWords h0 h1 h2 h3 status payload [] =
      [pack [(h0.fld 24 0, 25), (1, 1)], h1,
        pack [(h2.fld 3 0, 4), (0, 4), (status, 8), (if status = 0 then payload.length else 0, 10)], h3] ++
        (if status = 0 then payload else []))

/-- Chain commands, enumeration and members (R493 to R496, R500, R515, R517, R518, R525, R527). CH_STATUS_GET and CH_LINK_GET
answer their tables. CH_SYNC_MEASURE answers 2 on a follower and on an incomplete chain, 1 while the sequencer runs, with the
hop delays held, and else starts the first hop once the bus is free of other words (log 87), or is done at once where there
is none. 20 ms of idle ENUM_IN without a clock make a device the conductor, with one a fault; two equal bursts of 1 to 7
pulses give a follower its address, on which its PLL has to lock anew and its domain 88 is off; another count is a fault; a
conductor gives its address up on a pulse or clock outside boot stage 4; an address is kept. A follower takes the conductor's
mapper at its tick, and passes it on. A member's report is held, and a lost member comes back with an aligned one; no report
in time is a loss. The conductor sends a forwarded datagram on its own ports. -/
def Obligations.ChainCommandsEnumerationAndMembersRun : Prop :=
  ∀ (s : State) (m : Fin 64),
    (s.turn m 0x0C01 → exec (.chStatusGet m) s = .next (s.respond m 0
      [pack [(s.addr, 3), (b2n s.enum.cond, 1), (b2n s.enum.fault, 1), (b2n s.chainComplete, 1),
        (b2n (decide (s.ch.alignLeft ≠ 0)), 1), (s.ch.up.st, 2), (s.ch.down.st, 2), (b2n s.forwarding, 1)],
       pack [(s.memberMask true (fun _ => true), 8), (s.memberMask (s.enum.cond || s.ch.aligned) (·.aligned), 8),
        (s.memberMask s.kept.armed (·.armed), 8)],
       w32 (if s.enum.cond then 0 else s.kept.hopUp.getD 0), w32 s.ch.crcErrs])) ∧
    (s.turn m 0x0C04 →
      let held : List Word := (span 1 7).map (fun a => w32 (if s.follower then
        (if a = s.addr then s.kept.hopUp.getD 0 else if a = s.addr + 1 then s.kept.hopDown.getD 0 else 0)
        else if a ≤ s.lastAddr then tget 0 s.kept.hops a else 0))
      (s.follower = true ∨ (s.seq.run = 0 ∧ s.allReach = false) →
        exec (.chSyncMeasure m) s = .next (s.respond m 0 (2 :: held))) ∧
      (s.follower = false → s.seq.run ≠ 0 → exec (.chSyncMeasure m) s = .next (s.respond m 0 (1 :: held))) ∧
      (s.follower = false → s.seq.run = 0 → s.allReach = true →
        (s.lastAddr = 0 → exec (.chSyncMeasure m) s = .next (s.respond m 0 (List.replicate 8 0))) ∧
        (s.lastAddr ≠ 0 → s.ch.measuring = none → s.ch.words = [] → s.ch.busFree ≤ s.tb.tick →
          ∃ t : State, exec (.chSyncMeasure m) s = .next t ∧ t.ch.measuring = some (m.val, 0) ∧ (t.mbx m).st = 3 ∧ t.p = s.p) ∧
        (s.lastAddr ≠ 0 → s.ch.measuring ≠ none ∨ s.ch.words ≠ [] ∨ s.tb.tick < s.ch.busFree →
          exec (.chSyncMeasure m) s = .next s))) ∧
    (s.turn m 0x0C05 → (s.pw m 0).fld 31 1 = 0 → let l := s.link ((s.pw m 0).bit 0)
      exec (.chLinkGet m) s = .next (s.respond m 0 ([pack [(l.st, 2), (l.partner, 3), (l.pol, 4)],
        pack ((List.range 4).map (fun i => (tget 0 l.skew i, 8)))] ++ (List.range 4).map (fun i => w32 (tget 0 l.errs i)) ++
        [w32 l.trains]))) ∧
    (s.pwr.good = true → s.enum.addr = none → s.enum.fault = false →
      (s.enum.pulse = false → s.enum.clock = false →
        exec .enumerationTimeout s = .next { s with enum := { s.enum with addr := some 0, cond := true } }) ∧
      (s.enum.pulse = false → s.enum.clock = true → ∃ t : State, exec .enumerationTimeout s = .next t ∧ t.enum.fault = true ∧
        t.enum.addr = none) ∧
      (s.enum.pulse = true → exec .enumerationTimeout s = .next s)) ∧
    (∀ a, s.enum.addr = some a → exec .enumOutBurst s =
      .next (if a ≤ 6 then { s with enum := { s.enum with bursts := s.enum.bursts + 1, pulses := a + 1 } } else s)) ∧
    (∀ n, s.enum.fault = false →
      (s.enum.addr = none → s.enum.cond = false →
        (1 ≤ n → n ≤ 7 → s.enum.last = some n → ∃ t : State, exec (.enumInBurst n) s = .next t ∧
          t.enum = { s.enum with pulse := true, addr := some n, cond := false } ∧ t.tb.locked = false ∧ t.dom 88 = false ∧
          t.p = s.p) ∧
        (1 ≤ n → n ≤ 7 → s.enum.last ≠ some n → exec (.enumInBurst n) s =
          .next { s with enum := { s.enum with pulse := true, last := some n } }) ∧
        (n = 0 ∨ 8 ≤ n → ∃ t : State, exec (.enumInBurst n) s = .next t ∧ t.enum.fault = true ∧ t.enum.addr = none)) ∧
      (s.enum.cond = true → s.boot.stage ≠ 4 → ∃ t : State, exec (.enumInBurst n) s = .next t ∧ t.enum.fault = true ∧
        t.enum.addr = none ∧ t.enum.cond = false) ∧
      (s.enum.addr ≠ none → (s.enum.cond = false ∨ s.boot.stage = 4) → exec (.enumInBurst n) s =
        .next { s with enum := { s.enum with pulse := true } })) ∧
    (s.enum.cond = true → s.boot.stage ≠ 4 → s.enum.fault = false → ∃ t : State, exec .chainRefInClock s = .next t ∧
      t.enum.fault = true ∧ t.enum.addr = none ∧ t.enum.cond = false) ∧
    (s.enum.cond = false ∨ s.boot.stage = 4 →
      exec .chainRefInClock s = .next { s with enum := { s.enum with clock := true } }) ∧
    (∀ tick f0 a b slew ppb status fit, s.follower = true → ∃ t,
      exec (.mapperCopyReceive tick f0 a b slew ppb status fit) s = .next t ∧ t.p = s.p ∧ t.cells = s.cells ∧
      t.ch.tbStatus = status ∧ t.ch.tbFit = fit ∧
      let mp : Mapper := { f0 := f0, a := a, b := b, slew := slew, ppb := ppb }
      (tick ≤ s.tb.tick → t.tb.map = mp ∧ t.tb.copies = []) ∧
      (s.tb.tick < tick → t.tb.map = s.tb.map ∧
        t.tb.copies = s.tb.copies.filter (fun (c : Nat × Mapper) => decide (c.1 < tick)) ++ [(tick, mp)]) ∧
      (s.ch.down.st = 2 → s.passesOn = true → t.ch.down.map = some (tick, mp) ∧ t.ch.down.sent = s.ch.down.sent + 1)) ∧
    (∃ t : State, exec .stateReportSend s = .next t ∧ t = { s with ch := t.ch } ∧
      (s.enum.addr ≠ none → (s.link s.enum.cond).st = 2 →
        (t.link s.enum.cond).sent = (s.link s.enum.cond).sent + 1 ∧ (t.link s.enum.cond).last = (1, reportWords s.ownReport))) ∧
    (∀ r : ChainReport, s.enum.addr ≠ none →
      (∃ t : State, exec (.stateReportReceive false r) s = .next t ∧ t.ch.condWarm = r.warm ∧ t.ch.condSpin = r.spin ∧
        t.ch.condLock = r.lock ∧ t.ch.condComplete = r.complete ∧ t.ch.mems = s.ch.mems) ∧
      (let x := tget {} s.ch.mems r.from_
       ∃ t : State, exec (.stateReportReceive true r) s = .next t ∧ t.p = s.p ∧ (∀ k, k ≠ r.from_ → tget {} t.ch.mems k = tget {} s.ch.mems k) ∧
        tget {} t.ch.mems r.from_ = { x with
          reach := !x.lost || r.aligned, lost := x.lost && !r.aligned, aligned := r.aligned, armed := r.armed,
          image := r.image, sT := r.sT, sL := r.sL, dev := r.dev, at_ := s.tb.tick })) ∧
    (∀ f : Fin 8, let x := tget {} s.ch.mems f
      (s.enum.cond = true → x.reach = true → x.at_ + usTicks (s.val CH_MEMBER_TIMEOUT_US) ≤ s.tb.tick →
        ∃ t : State, exec (.memberTimeout f) s = .next t ∧
        tget {} t.ch.mems f = { x with reach := false, lost := true } ∧ ∀ k, k ≠ f.val → tget {} t.ch.mems k = tget {} s.ch.mems k) ∧
      (s.enum.cond = false ∨ x.reach = false ∨ s.tb.tick < x.at_ + usTicks (s.val CH_MEMBER_TIMEOUT_US) →
        exec (.memberTimeout f) s = .next s)) ∧
    (∀ d : FwdDgram, let x := fwdDgram d
      (s.enum.cond = true → d.chain ≠ s.addr → d.port = 1 → (s.port 0).up = true → ∀ mac, s.destMac 0 d.dest = some mac →
        let y : Dgram := { x with dst := s.destOf d.dest, mac := (mac, (s.destMac 1 d.dest).getD 0) }
        ∃ t : State, exec (.forwardedDatagram d) s = .next t ∧ t.p = s.p ∧
          ((t.port 0).wire = some (.dgram y) ∨ y ∈ (t.port 0).wait)) ∧
      (s.follower = true → s.passesOn = true → s.ch.up.st = 2 → exec (.forwardedDatagram d) s =
        .next (s.linkSend false x.linkPrio x.payload)))

/-- Trigger bus and links (R501 to R509, R511, R512, R522). The conductor sends the word of the earliest nominal start once
that has come and the bus is free, which the word (sync byte D5h, payload, CRC-8) then takes for 112 tk. A follower repeats
each word bit for bit, in SLEEP and under a reset no more than that (R497); one that fails its CRC is counted and opens
nothing; a shot word takes index, code, edge placement, dark cause and fire tick from the word and window, receive set,
histogram bit and profile from the entry of its bank, a frame-start word latches bank and scale, a bank neither active nor
armed not being taken; a bank image with a host error of chapter 06 stops the block (R474); an align word sets count and
steps. Steps of 1 ps bring the alignment. A missing frame-start word stops the windows. A measured hop takes 256 measure
words and an align word; its delay is kept at both ends, and the conductor goes on or answers. Two matched markers on every
lane bring a link UP; a bad one or a lost lane brings TRAINING; the timeout brings DOWN. (Ties of roundings: log 10.) -/
def Obligations.TriggerBusAndLinksRun : Prop :=
  ∀ s : State,
    let word (p : BitVec 96) (c : BitVec 8) : Nat := 0xD5 * 2 ^ 104 + p.toNat * 2 ^ 8 + c.toNat
    (s.ch.words = [] ∨ s.enum.cond = false ∨ s.tb.tick < s.ch.busFree → exec .triggerWordSend s = .next s) ∧
    (∀ w, s.enum.cond = true → w ∈ s.ch.words → w.2.2 ≤ s.tb.tick → s.ch.busFree ≤ s.tb.tick → (∀ v ∈ s.ch.words, v ≠ w → w.2.2 < v.2.2) →
      exec .triggerWordSend s = .next { s with ch := { s.ch with
        words := s.ch.words.erase w, syncOut := [(word (BitVec.ofNat 96 w.2.1) (triggerCrc (BitVec.ofNat 96 w.2.1)), 1)]
        busFree := s.tb.tick + 112 } }) ∧
    (∀ (p : BitVec 96) (crc : BitVec 8) (phase : Rat),
      (s.follower = false ∨ s.enum.fault = true ∨ s.repeats = false → exec (.triggerWordReceive p crc phase) s = .next s) ∧
      (s.follower = true → s.enum.fault = false → s.repeats = true → (s.pwr.dev = .sleep ∨ s.boot.phase = 2) →
        exec (.triggerWordReceive p crc phase) s = .next { s with ch := { s.ch with
          syncOut := [(word p crc, 1)], busFree := max s.ch.busFree (s.tb.tick + 20) } })) ∧
    (∀ (p : BitVec 96) (crc : BitVec 8) (phase : Rat), s.follower = true → s.enum.fault = false → s.repeats = true →
      s.pwr.dev ≠ .sleep → s.boot.phase ≠ 2 →
      let u : State := { s with ch := { s.ch with
        syncOut := [(word p crc, 1)], busFree := max s.ch.busFree (s.tb.tick + 20) } }
      (triggerCrc p ≠ crc → ∃ t : State, exec (.triggerWordReceive p crc phase) s = .next t ∧ t.seq = s.seq ∧ t.kept = s.kept ∧
        t.ch.crcErrs = wrap 32 (s.ch.crcErrs + 1) ∧ t.ch.syncOut = [(word p crc, 1)]) ∧
      (triggerCrc p = crc → s.works 90 = true → s.wordImageOk p = false →
        exec (.triggerWordReceive p crc phase) s = .fault (.hostError "bank image")) ∧
      (triggerCrc p = crc → (s.works 90 = true → s.wordImageOk p = true) →
        (pbits p 95 92 ≠ 1 → pbits p 95 92 ≠ 2 → pbits p 95 92 ≠ 3 → pbits p 95 92 ≠ 5 →
          exec (.triggerWordReceive p crc phase) s = .next u) ∧
        (pbits p 95 92 = 1 → s.seq.run ≠ 0 → ∀ f, s.wordFrame p = some f →
          pbits p 91 74 < (s.bank f.bank).entries →
          let e := (s.bank f.bank).shot (pbits p 91 74) f.seq f.start f.s f.run
          ∃ (t : State) (x : Shot), exec (.triggerWordReceive p crc phase) s = .next t ∧
            t = { u with seq := { s.seq with shots := s.seq.shots ++ [x], frames := t.seq.frames } } ∧
            x.idx = pbits p 91 74 ∧ x.code = pbits p 73 66 ∧ x.edge = pbits p 65 62 ∧ x.dark = pbits p 61 59 ∧
            s.tb.tick ≤ x.fire ∧ x.fire < s.tb.tick + 2 ^ 32 ∧ x.fire % 2 ^ 32 = pbits p 31 0 ∧
            x.offs = (s.bank f.bank).offs (pbits p 73 66) ∧ x.win = e.win ∧ x.rset = e.rset ∧ x.hist = e.hist ∧
            x.prof = e.prof ∧ x.mirror = none ∧ x.frame = f.seq) ∧
        (pbits p 95 92 = 2 → s.works 90 = true → let b := pbits p 91 91
          let old := s.seq.latch.filter (fun (l : Latch) => decide (l.seq ≠ pbits p 63 32))
          let now := (old.getLast?.map (fun (l : Latch) => l.bank)).getD s.kept.active
          let known : Prop := b = now ∨ (s.kept.armed = true ∧ ∀ l ∈ old, l.swap = false)
          ∃ (t : State) (l : Latch), exec (.triggerWordReceive p crc phase) s = .next t ∧ t.ch.noFrame = false ∧
            t.ch.frameAt = some s.tb.tick ∧ t.seq.run = 1 ∧ t.seq.latch = old ++ [l] ∧ l.seq = pbits p 63 32 ∧
            l.start = s.tickOf (pbits p 31 0) ∧ l.s = pbits p 90 82 ∧ (old = [] → t.seq.bound = l.start) ∧
            (known → l.bank = b ∧ l.run = s.wantsRun ∧ l.swap = decide (b ≠ now)) ∧
            (¬ known → l.bank = now ∧ l.run = false ∧ l.swap = false)) ∧
        (pbits p 95 92 = 3 → (s.inFrame = false ∨ s.kept.frame ≠ pbits p 63 32) →
          exec (.triggerWordReceive p crc phase) s = .next u) ∧
        (pbits p 95 92 = 3 → s.inFrame = true → s.kept.frame = pbits p 63 32 → ∃ t,
          exec (.triggerWordReceive p crc phase) s = .next t ∧ t.seq.run = 0 ∧ t.kept.frame = wrap 32 (s.kept.frame + 1)) ∧
        (pbits p 95 92 = 5 → ∀ h, s.kept.hopUp = some h → s.ch.aligned = false → let d : Rat := (h : Rat) / 65536
          let x := d - d.floor - phase
          ∃ t : State, exec (.triggerWordReceive p crc phase) s = .next t ∧
            t.tb.tick = ((pbits p 63 0 : Int) + d.floor + roundNear 0x2501 x).toNat ∧
            t.ch.alignLeft = roundNear 0x2502 (((roundNear 0x2501 x : Rat) - x) * 625) ∧
            (t.ch.aligned = true ↔ t.ch.alignLeft = 0)))) ∧
    (s.ch.alignLeft = 0 → exec .alignmentStep s = .next s) ∧
    (s.ch.alignLeft ≠ 0 → ∃ t : State, exec .alignmentStep s = .next t ∧ t.ch.root + t.ch.alignLeft = s.ch.root + s.ch.alignLeft ∧
      t.ch.alignLeft.natAbs + 1 = s.ch.alignLeft.natAbs ∧ (t.ch.aligned = true ↔ t.ch.alignLeft = 0) ∧ t.tb = s.tb) ∧
    (∀ n, s.ch.frameAt = some n → let late := n + (s.bank s.kept.active).period + 4096
      (s.follower = true → s.seq.run ≠ 0 → late < s.tb.tick → ∃ t : State, exec .frameStartMissing s = .next t ∧
        t.ch.noFrame = true ∧ t.ch.frameAt = none ∧ t.p = s.p ∧
        (s.inFrame = true ∨ s.seq.latch ≠ [] → t.seq = s.seq) ∧ (s.inFrame = false → s.seq.latch = [] → t.seq.run = 0)) ∧
      (s.follower = false ∨ s.seq.run = 0 ∨ s.tb.tick ≤ late → exec .frameStartMissing s = .next s)) ∧
    (s.ch.frameAt = none → exec .frameStartMissing s = .next s) ∧
    (∀ (a : Fin 7) (rt r : Rat), let h := (roundNear 0x0508 ((rt - 512 - r) / 2 * 65536)).toNat
      let at_ := max s.tb.tick s.ch.busFree
      (s.enum.addr = some a.val → s.ch.measuring = none → exec (.syncMeasureHop a rt r) s = .next { s with
        kept := { s.kept with hopDown := some h }
        ch := { s.ch with
          syncOut := [(busWord (4 * 2 ^ 92), 256), (busWord (alignWord (at_ + 256 * 112)), 1)], busFree := at_ + 257 * 112 } }) ∧
      (s.enum.addr = some (a.val + 1) → s.enum.cond = false → s.ch.measuring = none → exec (.syncMeasureHop a rt r) s =
        .next (({ s with
          kept := { s.kept with hopUp := some h }, ch := { s.ch with aligned := false, alignLeft := 0 } } : State).toLink false 1
            [w32 (a.val + 1), w32 (unsgn 32 (roundNear 0x0509 (r * 65536)))])) ∧
      (∀ m, s.follower = false → s.ch.measuring = some (m, a.val) → ∃ t,
        (a.val + 1 < s.lastAddr → exec (.syncMeasureHop a rt r) s = .next t ∧ t.ch.measuring = some (m, a.val + 1)) ∧
        (s.lastAddr ≤ a.val + 1 → exec (.syncMeasureHop a rt r) s =
          .next (t.respond m 0 (0 :: (span 1 7).map (fun k => w32 (if k ≤ s.lastAddr then tget 0 t.kept.hops k else 0)))) ∧ t.ch.measuring = none) ∧
        tget 0 t.kept.hops (a.val + 1) = h ∧ ∀ k, k ≠ a.val + 1 → tget 0 t.kept.hops k = tget 0 s.kept.hops k)) ∧
    (∀ (down : Bool) (lane : Fin 4) (no addr skew errs : Nat) (inv : Bool), let l := s.link down
      let ok := no = lane.val ∧ skew ≤ 64
      let i : Instr := .laneMarker down lane no addr skew errs inv
      (s.dom (if down then 83 else 82) = false → exec i s = .next s) ∧
      (s.dom (if down then 83 else 82) = true → ∃ t : State, exec i s = .next t ∧ t.p = s.p ∧ (t.link down).partner = addr % 8 ∧
        tget 0 (t.link down).skew lane = skew % 256 ∧ tget 0 (t.link down).errs lane = wrap 32 (tget 0 l.errs lane + errs) ∧
        (l.st = 2 → ok → (t.link down).st = 2) ∧
        (l.st = 2 → ¬ ok → (t.link down).st = 1 ∧ (t.link down).trains = wrap 32 (l.trains + 1)) ∧
        (l.st ≠ 2 → ok → 1 ≤ tget 0 l.marks lane → (∀ k : Fin 4, k ≠ lane → 2 ≤ tget 0 l.marks k) → (t.link down).st = 2) ∧
        (l.st ≠ 2 → (¬ ok ∨ tget 0 l.marks lane = 0) → (t.link down).st = l.st))) ∧
    (∀ down : Bool, let l := s.link down
      (l.st = 2 → ∃ t : State, exec (.linkLoss down) s = .next t ∧ (t.link down).st = 1 ∧ (t.link down).trains = wrap 32 (l.trains + 1) ∧
        t.link (!down) = s.link (!down)) ∧
      (l.st ≠ 2 → exec (.linkLoss down) s = .next s) ∧
      (l.st = 1 → ∃ t : State, exec (.linkDownTimeout down) s = .next t ∧ (t.link down).st = 0 ∧ t.p = s.p) ∧
      (l.st ≠ 1 → exec (.linkDownTimeout down) s = .next s))

/-- Housekeeping (R529 to R532, R534, R536, R538 to R540, R544 to R546). HK_STATUS_GET, HK_SLOT_GET, HK_RESULT_GET and
THERM_STATUS_GET answer their tables; HK_SLOT_SET and HK_CURVE_LOAD change exactly the named slots and table. In mode 1 a
cycle starts when none runs, taking the slots then in force; with no slots it only counts; a slot that is not in it forgets
its DC block. In mode 2 HK_SYNC starts one, and an edge during one is an overrun. A settled slot converts; the comparator
trips only with burn-out current. At the end of a conversion the wire is judged, the code is the rounded, clipped input in
the chosen format (without DC block), a tripped one repeats the last value, and the next slot begins or the cycle ends and is
counted. (The tie of a rounding is open: log 10.) A sample of the charge amplifier carries its marks; a reset waits 30 µs
after the last one and is counted. -/
def Obligations.HousekeepingCommandsAndScanRun : Prop :=
  ∀ (s : State) (m : Fin 64), let w := s.pw m 0
    (∀ sync, s.turn m 0x0D01 →
      let st := if s.hk.st = 1 then 1 else if s.dom 89 && s.work HK_SCAN_MODE 0 = 2 then 2 else 0
      let broken (k : Nat) : Word := pack ((List.range 32).map (fun i => (b2n (s.hkSlot (32 * k + i)).broken, 1)))
      exec (.hkStatusGet m sync) s = .next (s.respond m 0 [pack [(st, 2), (b2n s.caOn, 1), (b2n s.hk.ca.2.2, 1), (b2n sync, 1)],
        w32 s.hk.cycles, broken 0, broken 1, w32 s.hk.ovr, w32 s.hk.caResets])) ∧
    (s.turn m 0x0D08 → exec (.thermStatusGet m) s =
      .next (s.respond m 0 (s.therm.last ++ [w32 (unsgn 32 (s.therm.max_.getD 0))]))) ∧
    (let first := w.fld 5 0
     let n := w.fld 12 6
     let e (i : Nat) : List Word := [s.pw m (1 + 2 * i), s.pw m (2 + 2 * i)]
     w.fld 31 13 = 0 → first + n ≤ 64 →
      (s.turnP m 0x0D04 → (∀ i, i < n → slotOk (e i) = true ∧ (s.work HK_CA_ENABLE 0 = 0 ∨ slotOnCa (e i) = false)) →
        ∃ t : State, exec (.hkSlotSet m) s = .next (t.commitAnswer 13 (recordBytes (2 * n)) m []) ∧
          t = { s with p := { s.p with slots := t.p.slots } } ∧ (∀ i, i < n → t.slotEntry (first + i) = e i) ∧
          ∀ k, (k < first ∨ first + n ≤ k) → t.slotEntry k = s.slotEntry k) ∧
      (s.turn m 0x0D05 → exec (.hkSlotGet m) s = .next (s.respond m 0 (w :: (span first n).flatMap s.slotEntry))) ∧
      (s.turn m 0x0D07 → exec (.hkResultGet m) s = .next (s.respond m 0 ((span first n).flatMap (fun k =>
        [(s.hkSlot k).code, (s.hkSlot k).value, (s.hkSlot k).flags]))))) ∧
    (let pt (i : Nat) : Int × Int := (sgn 32 (s.pw m (1 + 2 * i)).toNat, sgn 32 (s.pw m (2 + 2 * i)).toNat)
     s.turnP m 0x0D06 → w.fld 31 3 = 0 → (∀ i, i < 32 → -8388608 ≤ (pt i).1 ∧ (pt i).1 ≤ 8388607) →
      (∀ i, i < 31 → (pt i).1 < (pt (i + 1)).1) → ∃ t : State, exec (.hkCurveLoad m) s = .next (t.commitAnswer 13 (recordBytes 64) m []) ∧
        t = { s with p := { s.p with curves := t.p.curves } } ∧ tget [] t.p.curves (w.fld 2 0) = (List.range 32).map pt ∧
        ∀ k, k ≠ w.fld 2 0 → tget [] t.p.curves k = tget [] s.p.curves k) ∧
    (let u := s.force .hkCycle
     let n := u.val HK_SLOT_COUNT
     let starts (i : Instr) (sync : Bool) : Prop :=
      (n = 0 → ∃ t : State, exec i s = .next t ∧
        t = { u with hk := { s.hk with cycles := wrap 32 (s.hk.cycles + 1), slots := t.hk.slots } } ∧
        ∀ k, t.hkSlot k = { s.hkSlot k with d := none }) ∧
      (n ≠ 0 → ∃ t : State, exec i s = .next t ∧ t.hk.st = 1 ∧ t.hk.slot = 0 ∧ t.hk.conv = false ∧ t.hk.bySync = sync ∧
        t.hk.table = (List.range n).map s.slotEntry ∧ t.p = s.p ∧
        ∀ k, t.hkSlot k = if k < n then s.hkSlot k else { s.hkSlot k with d := none })
     s.dom 89 = true → s.hkCalibrating = false → s.hk.st = 0 →
      (s.work HK_SCAN_MODE 0 = 1 → starts .hkCycleStart false) ∧ (s.work HK_SCAN_MODE 0 = 2 → starts .hkSyncEdge true) ∧
      (s.work HK_SCAN_MODE 0 ≠ 1 → exec .hkCycleStart s = .next s) ∧
      (s.work HK_SCAN_MODE 0 ≠ 2 → exec .hkSyncEdge s = .next s)) ∧
    (s.hk.st = 1 → exec .hkCycleStart s = .next s ∧
      (s.dom 89 = true → s.val HK_SCAN_MODE = 2 →
        exec .hkSyncEdge s = .next { s with hk := { s.hk with ovr := wrap 32 (s.hk.ovr + 1) } }) ∧
      (s.hk.conv = false → exec .hkSlotSettled s =
        .next ((({ s with hk := { s.hk with conv := true } } : State)).setHkSlot s.hk.slot (fun x => { x with trip := false }))) ∧
      (s.hk.conv = true →
        (s.hk.burn ≠ 0 → exec .openInputTrip s = .next (s.setHkSlot s.hk.slot (fun x => { x with trip := true }))) ∧
        (s.hk.burn = 0 → exec .openInputTrip s = .next s) ∧
        ∀ (v : Rat) (sync : Bool), let k := s.hk.slot
          let e := s.hk.table.getD k []
          let x := s.hkSlot k
          let c := (clipCode (roundNear 0x0534 (v * 8388608 / hkFullScale (slotRange e)))).1
          ∃ t : State, exec (.hkConversionEnd v sync) s = .next t ∧ t.p = s.p ∧
            (x.trip = true → (t.hkSlot k).broken = (x.suspect || x.broken) ∧
              (x.broken = false → (t.hkSlot k).suspect = true) ∧
              ∀ g, x.good = some g → (t.hkSlot k).value = g ∧ (t.hkSlot k).good = some g) ∧
            (x.trip = false → (t.hkSlot k).broken = false ∧ (t.hkSlot k).suspect = false ∧
              (t.hkSlot k).good = some (t.hkSlot k).value) ∧
            (slotDc e = false → (t.hkSlot k).code = w32 (unsgn 32 (if s.val HK_FORMAT = 0 then c else c * 256))) ∧
            (∀ j, j ≠ k → t.hkSlot j = s.hkSlot j) ∧
            (k + 1 < s.hk.table.length → t.hk.slot = k + 1 ∧ t.hk.conv = false ∧ t.hk.st = 1 ∧ t.hk.cycles = s.hk.cycles) ∧
            (s.hk.table.length ≤ k + 1 → t.hk.st = 0 ∧ t.hk.burn = 0 ∧ t.hk.exc = 0 ∧
              t.hk.cycles = wrap 32 (s.hk.cycles + 1)))) ∧
    (∀ code : Int, (s.caOn = false → exec (.caSample code) s = .next s) ∧
      (s.caOn = true →
        let n := if 100 * code < ((s.val HK_CA_OPEN_PCT * 8388608 : Nat) : Int) then s.hk.caLow + 1 else 0
        exec (.caSample code) s = .next { s with hk := { s.hk with
          caLow := min 3 n, ca := (code, s.inReset, decide (3 ≤ n)) } })) ∧
    (s.caOn = true →
      (s.caMay = true → (∃ t : State, exec .caReset s = .next t ∧ t.hk.caResets = wrap 32 (s.hk.caResets + 1) ∧
          t.hk.caAt = some s.tb.tick ∧ t.hk.caMark = s.hk.caMark ∧ t.p = s.p) ∧
        ∃ t : State, exec .caOverrangeReset s = .next t ∧ t.hk.caResets = wrap 32 (s.hk.caResets + 1) ∧
          t.hk.caAt = some s.tb.tick ∧ t.hk.caMark = some s.tb.tick) ∧
      (s.caMay = false → exec .caReset s = .next s ∧ exec .caOverrangeReset s = .next s)) ∧
    (s.caMay = false ↔ ∃ n, s.hk.caAt = some n ∧ s.tb.tick < n + 48000)

/-- Temperature (R548 to R555). A set of twelve readings is taken over; a sensor outside −55 °C to 175 °C fails and stays
failed; T_h is the largest reading of the sensors that have not failed. The scale is 256 below 121 °C and 256 −
ceil(256·K·(T_h − 121)/100) from there on. State 3 is entered at 130 °C, with a scale below 64 or a failed sensor, and left
only below 126 °C with neither; below it, throttle and warning have their entry and leaving thresholds. Readings come every
50 µs while one is at 106 °C or more. Entering state 3 in RUN or QUIET starts the way to PARK. 30 s after PARK was reached in
state 3, at 130 °C or more, the device goes to OFF, else it stays. The report is a record, with which a written
HK_THERMAL_REPORT_MS comes into force, and none while that in force is 0. -/
def Obligations.ThermalStateFollowsTheReadings : Prop :=
  ∀ s : State,
    (s.dom 89 = false → (∀ ts, exec (.temperatureReading ts) s = .next s) ∧ exec .thermalReport s = .next s) ∧
    (s.dom 89 = true → ∀ ts : List Int, ts.length = 12 → ∃ t : State, exec (.temperatureReading ts) s = .next t ∧ (s.cal.run = none → t.p = s.p) ∧
      t.isl.out = s.isl.out ∧
      (∀ i, i < 12 → tget 0 t.therm.t i = ts.getD i 0 ∧
        (s.therm.failed.getLsbD i = true → t.therm.failed.getLsbD i = true) ∧
        ((ts.getD i 0 < -880 ∨ 2800 < ts.getD i 0) → t.therm.failed.getLsbD i = true)) ∧
      (∀ i, i < 12 → t.therm.failed.getLsbD i = false → ts.getD i 0 ≤ t.therm.th) ∧
      (t.therm.failed ≠ BitVec.allOnes 12 → t.therm.hot < 12 ∧ t.therm.failed.getLsbD t.therm.hot = false ∧
        t.therm.th = ts.getD t.therm.hot 0) ∧
      (t.therm.fast = true ↔ ∃ i, i < 12 ∧ 1696 ≤ ts.getD i 0) ∧
      (t.therm.th < 1936 → t.therm.sT = 256) ∧
      (1936 ≤ t.therm.th → let a := 256 * ((s.val HK_THROTTLE_K : Nat) : Int) * (t.therm.th - 1936)
        a ≤ 1600 * (256 - t.therm.sT) ∧ 1600 * (256 - t.therm.sT) < a + 1600) ∧
      (2080 ≤ t.therm.th ∨ t.therm.sT < 64 ∨ t.therm.failed ≠ 0 → t.therm.st = 3) ∧
      (t.therm.th < 2080 → 64 ≤ t.therm.sT → t.therm.failed = 0 →
        (s.therm.st = 3 → 2016 ≤ t.therm.th → t.therm.st = 3) ∧
        ((s.therm.st ≠ 3 ∨ t.therm.th < 2016) →
          (1936 ≤ t.therm.th ∨ (2 ≤ s.therm.st ∧ 1872 ≤ t.therm.th) → t.therm.st = 2) ∧
          (t.therm.th < 1936 → (s.therm.st < 2 ∨ t.therm.th < 1872) →
            (1840 ≤ t.therm.th ∨ (1 ≤ s.therm.st ∧ 1776 ≤ t.therm.th) → t.therm.st = 1) ∧
            (t.therm.th < 1840 → (s.therm.st < 1 ∨ t.therm.th < 1776) → t.therm.st = 0)))) ∧
      (t.therm.st = 3 → s.therm.st ≠ 3 → s.pwr.safe = false → (s.pwr.dev = .run ∨ s.pwr.dev = .quiet) →
        ∃ x, t.pwr.trans = some x ∧ x.target = .park)) ∧
    (∀ n, s.therm.parkAt = some n →
      (s.therm.st = 3 → s.pwr.dev = .park → s.pwr.trans = none → s.pwr.safe = false → n + 30000 * msTicks ≤ s.tb.tick →
        (2080 ≤ s.therm.th → ∃ t x, exec .thermalOffTimeout s = .next t ∧ t.pwr.trans = some x ∧ x.target = .off) ∧
        (s.therm.th < 2080 → exec .thermalOffTimeout s = .next { s with therm := { s.therm with parkAt := none } })) ∧
      (s.tb.tick < n + 30000 * msTicks → exec .thermalOffTimeout s = .next s)) ∧
    (s.dom 89 = true →
      (s.val HK_THERMAL_REPORT_MS = 0 → exec .thermalReport s = .next s) ∧
      (s.val HK_THERMAL_REPORT_MS ≠ 0 → ∃ t : State, exec .thermalReport s = .next t ∧ t.p = s.p ∧ t.therm.st = s.therm.st ∧
        t.therm.last.length = 9 ∧ t.val HK_THERMAL_REPORT_MS = s.work HK_THERMAL_REPORT_MS 0))

/-- Calibration and fuses (R559, R561 to R567, R570 to R573, R575). CAL_STATUS_GET, CAL_CHANNEL_GET and FUSE_READ answer
their tables. CAL_RUN in RUN or QUIET starts the named parts, elsewhere gives each result 4, and during a run does nothing.
CAL_ABORT ends the run: the part in progress gets 3, later ones 4. A part starts where it can, else gets 4. VREF_EXT beyond 2
% at a pass or at a CAL_STATUS_GET, and no reference, give result 2 and status 3; pass B ends with the reference check, whose
failure is result 5 and status 3. A channel whose passes agree gets the mean and status 1, another keeps its tables with
status 3. FUSE_PROGRAM refuses Thethen fields, keys not over the service port or outside PARK, and a field without a free
generation, and else programs the lowest free one; what was read back is what it holds, the value in use until the next boot
staying as it is. -/
def Obligations.CalibrationAndFusesRun : Prop :=
  ∀ (s : State) (m : Fin 64), let w := s.pw m 0
    let far (mv : Rat) : Prop := (s.val CAL_VREF_MV : Rat) < 50 * absR (mv - (s.val CAL_VREF_MV : Rat))
    let noRef (t : State) (p : Nat) : Prop := tget 4 t.cal.res p = 2 ∧ ∀ c, c / 64 = p → tget 0 t.p.calSt c = 3
    (∀ ref khz (mv : Nat), s.turn m 0x0E01 → s.calRegion = false ∨ ¬ far (mv : Rat) → exec (.calStatusGet m ref khz mv) s = .next (s.respond m 0
      [pack [(b2n s.cal.run.isSome, 1), ((s.cal.run.bind (·.part)).getD 0, 4), (b2n ref, 1)],
       pack ((List.range 9).map (fun i => (tget 4 s.cal.res i, 3))), pack [(khz, 16), (mv, 16)]])) ∧
    (∀ ref khz (mv : Nat) r p, s.turn m 0x0E01 → s.cal.run = some r → r.part = some p → p < 8 → p ∉ r.left → far (mv : Rat) →
      ∃ t x, exec (.calStatusGet m ref khz mv) s = .next (t.respond m 0 x) ∧ noRef t p) ∧
    (s.turn m 0x0E06 → w.fld 31 16 = 0 → w.fld 15 9 ≤ 64 → w.fld 8 0 + w.fld 15 9 ≤ 512 →
      exec (.calChannelGet m) s = .next (s.respond m 0 ((span (w.fld 8 0) (w.fld 15 9)).flatMap (fun c =>
        [pack [(tget 0 s.p.calSt c, 3), (s.staleBits c, 5), (0, 8), (s.calHours c, 16)],
         pack [(unsgn 16 (s.thetaCal c), 16), (unsgn 16 (satI 16 (tget 0 s.cal.err c)), 16)]])))) ∧
    (let parts := (List.range 9).filter (fun i => w.bit i)
     s.turn m 0x0E04 → w.fld 31 9 = 0 →
      (s.cal.run ≠ none → exec (.calRun m) s = .next (s.respond m 0 [s.calResults ||| 0x80000000, w32 s.cal.failed])) ∧
      (s.cal.run = none → s.mayCalibrate = false → ∃ t : State, exec (.calRun m) s = .next (t.respond m 0 [t.calResults, 0]) ∧
        (∀ i ∈ parts, tget 4 t.cal.res i = 4) ∧ (∀ i, i ∉ parts → tget 4 t.cal.res i = tget 4 s.cal.res i) ∧ t.p = s.p) ∧
      (s.cal.run = none → s.mayCalibrate = true → parts ≠ [] → ∃ t : State, exec (.calRun m) s = .next t ∧ (t.mbx m).st = 3 ∧
        t.cal.run = some { mbx := m, left := parts } ∧ t.cal.failed = 0 ∧ t.dom 91 = true)) ∧
    (s.turn m 0x0E05 →
      (s.cal.run = none → exec (.calAbort m) s = .next (s.respond m 0 [])) ∧
      (∀ r, s.cal.run = some r → s.calCommitting = false → ∃ t : State, exec (.calAbort m) s = .next (t.respond m 0 []) ∧
        t.cal.run = none ∧ (∀ p, r.part = some p → p ∉ r.left → tget 4 t.cal.res p = 3) ∧
        ∀ i ∈ r.left, tget 4 t.cal.res i = 4)) ∧
    (∀ r p left, s.cal.run = some r → r.part = none → r.left = p :: left → s.dom 91 = true →
      s.pwr.settling.getLsbD 91 = false →
      ((if p < 8 then s.dom (64 + p) && s.regionUp p else s.dom 89) = true → ∃ t : State, exec .calPartStart s = .next t ∧
        t.cal.run = some { r with left := left, part := some p } ∧ t.p = s.p) ∧
      ((if p < 8 then s.dom (64 + p) && s.regionUp p else s.dom 89) = false → ∃ t : State, exec .calPartStart s = .next t ∧ tget 4 t.cal.res p = 4)) ∧
    (∀ r p, s.cal.run = some r → r.part = some p → p < 8 → p ∉ r.left →
      (r.passB = none → ∀ ms mv,
        (far mv → ∃ t : State, exec (.calPassComplete ms mv) s = .next t ∧ noRef t p) ∧
        (¬ far mv → r.passA = none → exec (.calPassComplete ms mv) s =
          .next { s with cal := { s.cal with run := some { r with passA := some ms } } }) ∧
        (∀ a, ¬ far mv → r.passA = some a →
          (s.refFails a = false → s.refFails ms = false → ∃ t : State, exec (.calPassComplete ms mv) s = .next t ∧
            t.cal.run = some { r with passB := some ms } ∧ t.p = s.p) ∧
          (s.refFails a = true ∨ s.refFails ms = true → ∃ t : State, exec (.calPassComplete ms mv) s = .next t ∧
            tget 4 t.cal.res p = 5 ∧ ∀ c, c / 64 = p → tget 0 t.p.calSt c = 3))) ∧
      (∃ t : State, exec .calNoReference s = .next t ∧ noRef t p) ∧
      (∀ a b, r.passA = some a → r.passB = some b → s.jnl.txn = none → ∃ t : State, exec .calValuesInUse s = .next t ∧
        ∀ c, (c / 64 ≠ p → tget 0 t.p.calSt c = tget 0 s.p.calSt c) ∧
          (c / 64 = p → ∀ x y, measOf a c = some x → measOf b c = some y →
            (s.passes x y = true → tget 0 t.p.calSt c = 1 ∧ tget (defaultTable 7) t.p.timing (c * 8 + 7) =
              [pack [(unsgn 16 (roundHalfUp ((x.q0 + y.q0) / 2)), 16), (unsgn 16 (roundHalfUp ((x.slope + y.slope) / 2)), 16)]]) ∧
            (s.passes x y = false → tget 0 t.p.calSt c = 3 ∧
              ∀ k, k < 8 → tget [] t.p.timing (c * 8 + k) = tget [] s.p.timing (c * 8 + k))))) ∧
    (∀ r vs, s.cal.run = some r → r.part = some 8 → s.hk.st = 0 → s.jnl.txn = none → ∃ t,
      exec (.calHkPartComplete vs) s = .next t ∧ tget 4 t.cal.res 8 = 0 ∧
      t.p.hkCal = vs.foldl (fun (t : Tab Int) (e : Nat × Int) => tset 0 t e.1 e.2) s.p.hkCal) ∧
    (∀ (c : Fin 512) n, tfind s.wear.calAt c = some n → s.val CAL_STALE_H ≠ 0 → ∃ t : State, exec (.calStaleHours c) s = .next t ∧
      t = { s with wear := { s.wear with runTicks := t.wear.runTicks } } ∧
      n + s.val CAL_STALE_H * hourTicks < t.wear.runTicks ∧ s.wear.runTicks ≤ t.wear.runTicks) ∧
    (let f := w.fld 4 0
     let i := w.fld 9 5
     w.fld 31 10 = 0 → fuseExists f i = true →
      (s.turn m 0x0E07 → let c := tget 0 s.fuse.chosen (fuseKey f i)
        exec (.fuseRead m) s = .next (s.respond m 0 (pack [(c - 1, 3), (b2n (c = 0), 1),
          (((List.range 8).map (fun g => b2n (s.fuseGen f i g).marker * 2 ^ g)).sum, 8),
          (((List.range 8).map (fun g => b2n ((s.fuseGen f i g).valid f) * 2 ^ g)).sum, 8), (b2n (c < s.newestValid f i), 1)] ::
          (List.range ((fuseBits.getD f 0 + 31) / 32)).map (fun j =>
            w32 ((if f = 9 || f = 10 then 0 else s.fuseVal f i) >>> (32 * j)))))) ∧
      (let v := leNat (wordsBytes ((span 1 ((fuseBits.getD f 0 + 31) / 32)).map (s.pw m)))
       let key := f = 9 ∨ f = 10
       s.turn m 0x0E08 → v < 2 ^ fuseBits.getD f 0 → s.fuse.work = none →
        (f ≤ 6 → exec (.fuseProgram m) s = .next (s.respond m 0 [5])) ∧
        (key → (s.mbx m).viaSp = false → exec (.fuseProgram m) s = .next (s.respond m 0 [3])) ∧
        (key → (s.mbx m).viaSp = true → s.pwr.dev ≠ .park → exec (.fuseProgram m) s = .next (s.respond m 0 [2])) ∧
        (6 < f → (key → (s.mbx m).viaSp = true ∧ s.pwr.dev = .park) →
          (s.freeGen f i = none → exec (.fuseProgram m) s = .next (s.respond m 0 [1])) ∧
          (∀ g, s.freeGen f i = some g → ∃ t : State, exec (.fuseProgram m) s = .next t ∧ (t.mbx m).st = 3 ∧
            t.fuse = { s.fuse with work := some { field := f, inst := i, gen := g, value := v, mbx := m } })))) ∧
    (∀ k value check marker, s.fuse.work = some k → let key := fuseKey k.field k.inst * 8 + k.gen
      let x : FuseGen := { value := value, check := check, marker := marker }
      ∃ t : State, exec (.fuseProgramComplete value check marker) s =
          .next (t.respond k.mbx 0 [pack [(if x.valid k.field && value = k.value then 0 else 4, 3), (k.gen, 3)]]) ∧
        t.fuse.work = none ∧ tget {} t.fuse.gens key = x ∧ (∀ j, j ≠ key → tget {} t.fuse.gens j = tget {} s.fuse.gens j) ∧
        t.fuse.chosen = s.fuse.chosen ∧ t.fuse.shadow = s.fuse.shadow ∧ t.fuse.island = s.fuse.island)

/-- The journal (R579 to R588, R591, R593). JNL_STATUS_GET answers its table; JNL_COMPACT starts a compaction where none
runs. Each page counts, and a compaction that is due starts with it. A page that reads back brings the transaction one page
nearer its end, a failed page is written again, and the last one commits: the log has its records with a commit record that
checks, what the journal holds is what they make of what it held, and what waited is answered. The fourth failure makes the
journal read-only, and what waited is answered all the same. A snapshot page is written only while no transaction waits; it
takes the items that follow, as they stand now, the last one all that are left; that one commits, marks the opened blocks
before the begin record for erase, and counts from that record on. An erase is suspended while a transaction is written; an
erased block is free with one more erase, a block whose erase fails is retired, and the next waiting one follows. A wear
transaction starts where none is in progress. Each row whose condition does not hold leaves the state (log 3). What the
hardware has held of its own since a transaction began stays on top of it (log 8). -/
def Obligations.JournalTransactionsCommitAndCompact : Prop :=
  ∀ (s : State) (m : Fin 64),
    (s.turn m 0x0F01 → exec (.jnlStatusGet m) s = .next (s.respond m 0
      [pack [(if s.jnl.readOnly then 2 else if s.jnl.comp.isSome then 1 else 0, 2), (b2n s.jnl.ignoredAtBoot, 1)],
        pack [(s.jnl.freeBlocks, 16), ((s.jnl.blocks.filter (fun e => e.2.st = 3)).length, 16)],
        pack [(sat 16 s.jnl.eraseSpan.1, 16), (sat 16 s.jnl.eraseSpan.2, 16)], w32 s.jnl.last, w32 s.jnl.live,
        w32 s.obs.passes, w32 s.obs.corrections, w32 s.fuse.mismatches])) ∧
    (s.turn m 0x0F04 →
      (s.jnl.comp ≠ none ∨ s.jnl.readOnly = true → exec (.jnlCompact m) s = .next (s.respond m 0 [])) ∧
      (s.jnl.comp = none → s.jnl.readOnly = false → exec (.jnlCompact m) s = .next (({ s with jnl := { s.jnl with
        comp := some { seq := s.jnl.next }, next := s.jnl.next + 1 } } : State).respond m 0 []))) ∧
    (let u := s.takePage
     u.jnl.held = s.jnl.held ∧ u.jnl.txn = s.jnl.txn ∧ u.jnl.log = s.jnl.log ∧ u.p = s.p ∧
      (s.jnl.readOnly = false → s.jnl.comp = none → (u.jnl.comp ≠ none ↔ u.jnl.freeBlocks < 24 ∨ 128 ≤ u.jnl.opened)) ∧
      (s.jnl.readOnly = true ∨ s.jnl.comp ≠ none → u.jnl.comp = s.jnl.comp)) ∧
    (s.jnl.txn = none → ∀ ok, exec (.journalPageProgrammed ok) s = .next s) ∧
    (∀ x, s.jnl.txn = some x →
      let u := s.takePage
      let b := x.blk.getD u.jnl.blockNow
      (1 < x.left → exec (.journalPageProgrammed true) s =
        .next { u with jnl := { u.jnl with txn := some { x with left := x.left - 1, blk := some b } } }) ∧
      (x.left ≤ 1 → ∃ (v : State) (e : JTxn), v = { u with jnl := v.jnl } ∧ v.jnl.txn = none ∧
        v.jnl.last = max s.jnl.last x.seq ∧ v.jnl.readOnly = s.jnl.readOnly ∧ v.jnl.comp = u.jnl.comp ∧
        v.jnl.log = s.jnl.log ++ [e] ∧ e.seq = x.seq ∧ e.snap = false ∧ e.recs = x.recs ∧ e.blk = b ∧ e.good = true ∧
        ((∀ e ∈ s.jnl.log, e.snap = true ∨ e.seq ≤ x.seq) →
          (v.jnl.held, v.jnl.wear) = applyRecs (s.jnl.held, s.jnl.wear) x.recs) ∧
        exec (.journalPageProgrammed true) s = .next (((v.waiterDone x.waiter).exitAfter x.wear.isSome).nextWake)) ∧
      (x.failed < 3 → exec (.journalPageProgrammed false) s =
        .next { u with jnl := { u.jnl with txn := some { x with failed := x.failed + 1, blk := some b } } }) ∧
      (3 ≤ x.failed → ∃ v : State, v.jnl.readOnly = true ∧ v.jnl.txn = none ∧ v.jnl.comp = none ∧ v.p = s.p ∧
        v.jnl.held = s.jnl.held ∧
        exec (.journalPageProgrammed false) s = .next (((v.waiterDone x.waiter).exitAfter false).nextWake))) ∧
    (s.jnl.comp = none ∨ s.jnl.txn ≠ none → ∀ ok, exec (.snapshotPage ok) s = .next s) ∧
    (∀ c₀, s.jnl.comp = some c₀ → s.jnl.txn = none →
      let u := s.takePage
      let c : Compaction := if c₀.pages = 0 then { c₀ with beginBlock := some u.jnl.blockNow, opened := u.jnl.opened } else c₀
      let d := (u.nextSnapPage c).1
      let last := (u.nextSnapPage c).2
      let items := u.snapItems.filter (fun (x : JItem) => decide (c.place ≤ x.place))
      (∃ new, d.recs = (if c.pages = 0 then [.begin_] else c.recs) ++ new ∧ new <+: items ∧ (last = true → new = items)) ∧
      d.pages = c.pages + 1 ∧
      (last = false → exec (.snapshotPage true) s = .next { u with jnl := { u.jnl with comp := some d } }) ∧
      (last = true → ∃ (t : State) (e : JTxn), exec (.snapshotPage true) s = .next t ∧ t = { u with jnl := t.jnl } ∧
        t.jnl.opened = u.jnl.opened - c.opened ∧ t.jnl.held = s.jnl.held ∧ t.jnl.last = max s.jnl.last c.seq ∧
        t.jnl.log = s.jnl.log ++ [e] ∧ e.seq = c.seq ∧ e.snap = true ∧ e.recs = d.recs ∧ e.good = true ∧
        (∀ x ∈ u.jnl.blocks, x.2.st = 1 → x.2.seq < c.beginBlock.getD 0 → (x.1, { x.2 with st := 2 }) ∈ t.jnl.blocks) ∧
        (t.jnl.comp ≠ none ↔ s.jnl.readOnly = false ∧ (t.jnl.freeBlocks < 24 ∨ 128 ≤ t.jnl.opened))) ∧
      (c.failed < 3 → exec (.snapshotPage false) s =
        .next { u with jnl := { u.jnl with comp := some { c with failed := c.failed + 1 } } }) ∧
      (3 ≤ c.failed → ∃ t : State, exec (.snapshotPage false) s = .next t ∧ t.jnl.readOnly = true ∧ t.jnl.comp = none ∧
        t.p = s.p ∧ t.jnl.held = s.jnl.held)) ∧
    (∀ ok, s.jnl.erasing = none ∨ s.jnl.txn ≠ none ∨ s.pwr.failing = true → exec (.blockEraseComplete ok) s = .next s) ∧
    (∀ a, s.jnl.erasing = some a → s.jnl.txn = none → s.pwr.failing = false →
      let goesOn (t : State) : Prop := (∀ b, t.jnl.erasing = some b → ∃ e ∈ t.jnl.blocks, e.1 = b ∧ e.2.st = 2) ∧
        (t.jnl.erasing = none → ∀ e ∈ t.jnl.blocks, e.2.st ≠ 2)
      (∃ t : State, exec (.blockEraseComplete true) s = .next t ∧ goesOn t ∧ t.p = s.p ∧
        t.jnl.log = s.jnl.log.filter (fun (x : JTxn) => x.blk != (tget {} s.jnl.blocks a).seq) ∧
        tget {} t.jnl.blocks a = { st := 0, erases := (tget {} s.jnl.blocks a).erases + 1, seq := 0 } ∧
        (∀ b, b ≠ a → tget {} t.jnl.blocks b = tget {} s.jnl.blocks b) ∧ t.jnl.held = s.jnl.held ∧
        (let full := s.val JNL_ENDURANCE * 1000
         let n := if full < t.jnl.eraseSpan.2 then 2 else if full * 8 < t.jnl.eraseSpan.2 * 10 then 1 else 0
         t.jnl.wearWarn = max s.jnl.wearWarn n)) ∧
      (∃ t : State, exec (.blockEraseComplete false) s = .next t ∧ goesOn t ∧ t.p = s.p ∧
        tget {} t.jnl.blocks a = ({ (tget {} s.jnl.blocks a) with st := 3 } : JBlock) ∧
        (∀ b, b ≠ a → tget {} t.jnl.blocks b = tget {} s.jnl.blocks b) ∧ t.jnl.held = s.jnl.held)) ∧
    (s.jnl.readOnly = true ∨ s.jnl.txn ≠ none → exec .wearTransaction s = .next s) ∧
    (s.jnl.readOnly = false → s.jnl.txn = none →
      let x : Txn := { seq := s.jnl.next, subj := 15, recs := s.jnl.held.diff s.p ++ [.wear s.wear], pages := txnPages wearBytes
                       left := txnPages wearBytes, waiter := .none, wear := some s.wear }
      exec .wearTransaction s = .next { s with jnl := { s.jnl with next := s.jnl.next + 1, txn := some x } })

/-- Board table, wear and observation (R592, R594 to R597, R600, R603 to R605). BT_WRITE with an image of the layout, or with
length 0, replaces the whole table, which BT_READ returns. WEAR_RESET zeroes exactly the counts of the named emitters of the
string. PERF_CONFIG gives each counter of the range the new configuration with value and overflow bit cleared, and PERF_READ
returns the values, those of a counter whose domain is off as 0, and clears them where asked. A patrol read of a channel that
is on rewrites what read errors have queued (R275) and counts its correction and the end of a pass. A shadow that differs
from the chosen generation is counted and loaded again from it; where the generation itself fails, the shadow stays and is
counted. -/
def Obligations.BoardTableWearScrubAndCountersRun : Prop :=
  ∀ (s : State) (m : Fin 64), let w := s.pw m 0
    (let n := w.fld 9 0
     let img := (span 1 n).map (s.pw m)
     w.fld 31 10 = 0 →
      (s.turnP m 0x0F05 → (n = 0 ∨ btOk img = true) →
        exec (.btWrite m) s = .next (({ s with p := { s.p with bt := img } } : State).commitAnswer 15 (recordBytes n) m [])) ∧
      (s.turn m 0x0F05 → n ≠ 0 → btOk img = false → ∃ why, exec (.btWrite m) s = .fault (.hostError why))) ∧
    (s.turn m 0x0F06 → exec (.btRead m) s = .next (s.respond m 0 (w32 s.p.bt.length :: s.p.bt))) ∧
    (s.turn m 0x0F07 → w.fld 15 3 = 0 →
      (s.jnl.txn ≠ none → exec (.wearReset m) s = .next s) ∧
      (s.jnl.txn = none → ∃ t : State, exec (.wearReset m) s = .next t ∧ t.p = s.p ∧
        (s.jnl.readOnly = true → t = ({ s with wear := t.wear } : State).respond m 0 []) ∧
        (s.jnl.readOnly = false → (t.mbx m).st = 3 ∧ ∃ x, t.jnl.txn = some x ∧ x.waiter = .answer m [] ∧
          x.wear = some (s.jnl.wear.clear (w.fld 2 0) (w.fld 31 16))) ∧
        ∀ k, ((k / 16 = w.fld 2 0 ∧ (w.fld 31 16).testBit (k % 16) = true) →
            tget 0 t.wear.pulses k = 0 ∧ tget 0 t.wear.onTime k = 0) ∧
          (¬ (k / 16 = w.fld 2 0 ∧ (w.fld 31 16).testBit (k % 16) = true) →
            tget 0 t.wear.pulses k = tget 0 s.wear.pulses k ∧ tget 0 t.wear.onTime k = tget 0 s.wear.onTime k))) ∧
    (let first := w.fld 8 0
     (s.turn m 0x0F08 → w.fld 31 18 = 0 → first < 352 → first + w.fld 17 9 ≤ 352 → (s.pw m 1).fld 31 25 = 0 → (s.pw m 2).fld 31 16 = 0 →
      (∀ k ∈ span first (w.fld 17 9), perfEventOk k ((s.pw m 1).fld 7 0) = true ∧ perfLocOk k ((s.pw m 2).fld 15 0) = true) →
      ∃ t : State, exec (.perfConfig m) s = .next (t.respond m 0 []) ∧ t = { s with obs := { s.obs with perf := t.obs.perf } } ∧
        (∀ k ∈ span first (w.fld 17 9), tget {} t.obs.perf k = { c0 := s.pw m 1, c1 := s.pw m 2, v := 0, ovf := false }) ∧
        ∀ k, k ∉ span first (w.fld 17 9) → tget {} t.obs.perf k = tget {} s.obs.perf k) ∧
     (s.turn m 0x0F09 → w.fld 31 17 = 0 → w.fld 15 9 ≤ 64 → first + w.fld 15 9 ≤ 352 →
      let ws := (span first (w.fld 15 9)).flatMap (fun k =>
        let c := tget {} s.obs.perf k
        let on := if k < 256 then s.dom (32 + k / 8) else if k < 320 then s.dom (64 + (k - 256) / 8) else true
        [w32 (if on then c.v else 0), pack [((if on then c.v else 0) / 2 ^ 32, 16), (k, 9), (b2n (c.ovf && on), 1)]])
      (w.bit 16 = false → exec (.perfRead m) s = .next (s.respond m 0 ws)) ∧
      (w.bit 16 = true → ∃ t : State, exec (.perfRead m) s = .next (t.respond m 0 ws) ∧
        t = { s with obs := { s.obs with perf := t.obs.perf } } ∧
        (∀ k ∈ span first (w.fld 15 9), tget {} t.obs.perf k = ({ (tget {} s.obs.perf k) with v := 0, ovf := false } : Perf)) ∧
        ∀ k, k ∉ span first (w.fld 15 9) → tget {} t.obs.perf k = tget {} s.obs.perf k))) ∧
    (∀ (ch : Fin 8) (fixed ends : Bool),
      (s.dom (72 + ch) = false → exec (.patrolScrub ch fixed ends) s = .next s) ∧
      (s.dom (72 + ch) = true → ∃ t : State, exec (.patrolScrub ch fixed ends) s = .next t ∧ t = { s with obs := t.obs, mem := t.mem } ∧
        t.memCh ch = { s.memCh ch with scrub := 0 } ∧ (∀ k, k ≠ ch.val → t.memCh k = s.memCh k) ∧
        t.obs.corrections = (if fixed then wrap 32 (s.obs.corrections + 1) else s.obs.corrections) ∧
        t.obs.passes = (if ends then wrap 32 (s.obs.passes + 1) else s.obs.passes) ∧
        (fixed = false → t.obs.perf = s.obs.perf))) ∧
    (∀ (f : Fin 20) (i : Fin 64) (seen : Nat) (genOk : Bool), let k := fuseKey f i
      (tget 0 s.fuse.chosen k = 0 → exec (.fuseShadowCompare f i seen genOk) s = .next s) ∧
      (∀ g, tget 0 s.fuse.chosen k = g + 1 → let v := (tget {} s.fuse.gens (k * 8 + g)).value
        ∃ t : State, exec (.fuseShadowCompare f i seen genOk) s = .next t ∧ t.p = s.p ∧ t.fuse.gens = s.fuse.gens ∧
          t.fuse.chosen = s.fuse.chosen ∧ tget 0 t.fuse.shadow k = (if genOk then v else seen) ∧
          (∀ j, j ≠ k → tget 0 t.fuse.shadow j = tget 0 s.fuse.shadow j) ∧
          t.fuse.mismatches = (if genOk = true ∧ seen = v then s.fuse.mismatches else wrap 32 (s.fuse.mismatches + 1))))

/-- PARAM_WRITE of every subject but the safety one (R13, R72, R109, R152, R153, R197, R198, R247, R288, R327, R362, R449,
R486, R526, R555, R574, R602; R474). A known index with a value in range, and the further condition that the subject's
chapter states, writes the value into the working copy of exactly the named instances, starts the journal transaction, and
leaves the value in force of every parameter that does not come into force at once; writing a motion gain also marks that a
halving of that loop's gains ends at its next instant, writing a spin parameter also ends the wait after a third abort, and
nothing else changes. A read-only parameter, a value out of range, an unknown index or a broken further condition is a host
error, on which the block stops (log 2). -/
def Obligations.ParameterWritesReachExactlyTheirInstances : Prop :=
  ∀ (s : State) (m : Fin 64), let w := s.pw m 0
    let idx := w.fld 7 0
    let v := (s.pw m 1).toNat
    let writes (i : Instr) (op : Nat) (spare : Nat) (is : Par → List Nat) (cond : Par → Prop) (after : State → Par → State) : Prop :=
      w.fld 31 spare = 0 →
      (findPar (op / 256) idx = none → s.turn m op → ∃ why, exec i s = .fault (.hostError why)) ∧
      (∀ p, findPar (op / 256) idx = some p →
        (s.turn m op → (p.eff = .readOnly ∨ p.ok v = false ∨ ¬ cond p) → ∃ why, exec i s = .fault (.hostError why)) ∧
        (s.turnP m op → p.eff ≠ .readOnly → p.ok v = true → cond p → ∃ t,
          exec i s = .next ((after t p).commitAnswer (op / 256) (recordBytes 1) m []) ∧
          t = { s with p := { s.p with par := t.p.par }, lag := t.lag } ∧
          (∀ j ∈ is p, t.work p j = v ∧ (p.eff ≠ .now → t.cur p j = s.cur p j)) ∧
          ∀ q k, (∀ j ∈ is p, parKey q.subj q.idx k ≠ parKey p.subj p.idx j) →
            t.work q k = s.work q k ∧ t.cur q k = s.cur q k))
    let same (t : State) (_ : Par) : State := t
    let range (p : Par) : List Nat := if p.insts = 1 then [0] else span (w.fld 16 8) (w.fld 26 17)
    let inRange (p : Par) : Prop := p.insts = 1 ∨ w.fld 16 8 + w.fld 26 17 ≤ p.insts
    let new (n : Nat) (p : Par) : Nat := if idx = n then v else s.work p 0
    writes (.skeParamWrite m) 0x0108 8 (fun _ => [0]) (fun _ => True) same ∧
    writes (.pwrParamWrite m) 0x0206 8 (fun _ => [0]) (fun _ => True) same ∧
    writes (.tbParamWrite m) 0x0305 8 (fun _ => [0]) (fun _ => new 0 TB_SOURCE = 1 → new 1 TB_AS_PORTS ≠ 0) same ∧
    writes (.feParamWrite m) 0x0402 27 range inRange same ∧
    writes (.detParamWrite m) 0x0502 27 range inRange same ∧
    writes (.shotParamWrite m) 0x0602 15 (fun p => if p.insts = 1 then [0] else span (w.fld 10 8) (w.fld 14 11))
      (fun p => (p.insts = 1 ∨ w.fld 14 11 ≤ 8 ∧ w.fld 10 8 + w.fld 14 11 ≤ 8) ∧ new 6 SHOT_IOPEN_MV < new 7 SHOT_IMAX_MV) same ∧
    writes (.capParamWrite m) 0x0702 8 (fun _ => [0]) (fun _ => new 2 CAP_LADDER_LO_PCT < new 1 CAP_LADDER_HI_PCT) same ∧
    writes (.rejParamWrite m) 0x0802 8 (fun _ => [0]) (fun _ => idx = 10 → v &&& 9 = 0) same ∧
    writes (.mcParamWrite m) 0x0902 8 (fun _ => [0]) (fun _ => idx = 13 → v ∈ [1, 2, 4, 8, 16]) State.motionWritten ∧
    writes (.ethParamWrite m) 0x0B02 9 (fun _ => [w.fld 8 8]) (fun _ => True) same ∧
    writes (.chParamWrite m) 0x0C02 8 (fun _ => [0]) (fun _ => True) same ∧
    writes (.hkParamWrite m) 0x0D02 8 (fun _ => [0])
      (fun _ => idx = 6 → v = 1 → ∀ k, k < 64 → slotOnCa (s.slotEntry k) = false) same ∧
    writes (.calParamWrite m) 0x0E02 27 range inRange same ∧
    writes (.jnlParamWrite m) 0x0F02 8 (fun _ => [0]) (fun _ => True) same

/-- PARAM_READ of every subject but the safety one (R13, R72, R109, R152, R247, R288, R327, R362, R449, R486, R513, R526,
R555, R574, R602). A known index answers W0 (log 12) and the value of the working copy: of the first named instance where the
parameter has instances, of the named port for an Ethernet parameter, whose indices 0, 1 and 12 return the board-table fields
of R449, and of the named link for the board-table fields 8 to 12 of the chain (R513). An unknown index is a host error, on
which the block stops (log 2). -/
def Obligations.ParameterReadsReturnTheWorkingCopy : Prop :=
  ∀ (s : State) (m : Fin 64), let w := s.pw m 0
    let idx := w.fld 7 0
    let fails (i : Instr) : Prop := ∃ why, exec i s = .fault (.hostError why)
    let reads (i : Instr) (op : Nat) (spare : Nat) (first : Nat) (bound : Prop) : Prop :=
      s.turn m op → w.fld 31 spare = 0 →
        (findPar (op / 256) idx = none → fails i) ∧
        (∀ p, findPar (op / 256) idx = some p →
          (p.insts = 1 → exec i s = .next (s.respond m 0 [w, w32 (s.work p 0)])) ∧
          (p.insts ≠ 1 → (bound ∨ first < p.insts) → exec i s = .next (s.respond m 0 [w, w32 (s.work p first)])) ∧
          (p.insts ≠ 1 → ¬ (bound ∨ first < p.insts) → fails i))
    reads (.skeParamRead m) 0x0109 8 0 True ∧ reads (.pwrParamRead m) 0x0207 8 0 True ∧
    reads (.tbParamRead m) 0x0306 8 0 True ∧ reads (.feParamRead m) 0x0403 27 (w.fld 16 8) False ∧
    reads (.detParamRead m) 0x0503 27 (w.fld 16 8) False ∧ reads (.shotParamRead m) 0x0603 15 (w.fld 10 8) False ∧
    reads (.capParamRead m) 0x0703 8 0 True ∧ reads (.rejParamRead m) 0x0803 8 0 True ∧
    reads (.mcParamRead m) 0x0903 8 0 True ∧ reads (.hkParamRead m) 0x0D03 8 0 True ∧
    reads (.calParamRead m) 0x0E03 27 (w.fld 16 8) False ∧ reads (.jnlParamRead m) 0x0F03 8 0 True ∧
    ((idx < 8 ∨ 12 < idx) → reads (.chParamRead m) 0x0C03 8 0 True) ∧
    (s.turn m 0x0C03 → w.fld 31 9 = 0 → 8 ≤ idx → idx ≤ 12 →
      let b := [(3, 0), (7, 4), (12, 8), (16, 13), (22, 17)].getD (idx - 8) (0, 0)
      exec (.chParamRead m) s = .next (s.respond m 0 [w, w32 ((w32 (s.linkEq (w.bit 8))).fld b.1 b.2)])) ∧
    (s.turn m 0x0B03 → w.fld 31 9 = 0 → let port := w.fld 8 8
      (12 < idx → fails (.ethParamRead m)) ∧
      (idx = 0 ∨ idx = 1 → exec (.ethParamRead m) s = .next (s.respond m 0 [w, w32 (s.btPort port idx)])) ∧
      (idx = 12 → exec (.ethParamRead m) s = .next (s.respond m 0 [w, w32 s.skeicPort])) ∧
      (∀ p, findPar 11 idx = some p → idx ≠ 0 → idx ≠ 1 → idx ≠ 12 →
        exec (.ethParamRead m) s = .next (s.respond m 0 [w, w32 (s.work p port)])))

/-- The model's step (log 1): for every command c and every state, the step of the state with c at the front of its queue is
exec of c on the state with the rest of the queue, and a state with an empty queue is its own next state. The command set is
that of the opcode table, whose commands, pin events and expiries the chapters name. -/
def Obligations.StepTakesTheFrontCommand : Prop :=
  (∀ (c : Instr) (r : List Instr) (s : State), step { s with pending := c :: r } = exec c { s with pending := r }) ∧
  (∀ s : State, s.pending = [] → step s = .next s)

/-- The machine after the power-on reset of a new device (R60, R606, R614; new device: log 6). No command waits. Every
parameter stands at its default, in the working copy and in force, and the configuration of domains is all on (R13, R74). The
power-up sequence runs with no rail up and every domain off. The island's outputs are low, emission is inhibited (log 26), no
set is active. Every mailbox is free, no session is open, no record waits, no transaction is in progress, the sequencer is
idle and the tick counter is 0. The invariant that every step keeps holds. -/
def Obligations.ResetHoldsTheStatedValues : Prop :=
  State.reset.pending = [] ∧
  (∀ (p : Par) (i : Nat), State.reset.work p i = p.dflt ∧ State.reset.cur p i = p.dflt) ∧
  State.reset.p.dom = BitVec.allOnes 96 ∧ State.reset.pwr.powerUp = true ∧ State.reset.pwr.rails = 0 ∧
  (∀ d, State.reset.dom d = false) ∧ State.reset.isl.out = 0 ∧ State.reset.isl.inhibit = true ∧
  State.reset.isl.active = none ∧ State.reset.isl.fault = false ∧ (∀ m : Fin 64, (State.reset.mbx m).st = 0) ∧
  (∀ n, (State.reset.sess n).st = 0) ∧ (∀ q, (State.reset.queue q).cur = [] ∧ (State.reset.queue q).enq = 0) ∧
  State.reset.jnl.txn = none ∧ State.reset.jnl.held = State.reset.p ∧ State.reset.seq.run = 0 ∧
  State.reset.kept.armed = false ∧ State.reset.tb.tick = 0 ∧ State.reset.pwr.safe = false ∧ State.reset.Inv

/-- The queue of waiting commands (log 1), over every command of the table and every state: where a command completes, the
queue of the next state is the queue that it was executed with; so a step of a state with commands waiting leaves exactly the
commands behind the first, in their order, and no command is lost, repeated or invented. -/
def Obligations.CommandsLeaveTheQueueAlone : Prop :=
  (∀ (c : Instr) (s t : State), exec c s = .next t → t.pending = s.pending) ∧
  (∀ s t : State, step s = .next t → t.pending = s.pending.tail)

/-- The invariant, from every state that meets it and over every command (R41, R42, R368; R586 and R642 for the masks that
the device takes on by itself): after a step every domain that is on, in the device, in the configuration's working copy, in
what the journal holds and in its records, those of a transaction or snapshot in progress too, has its parent on; and where
the island has a fault its six outputs are low and emission is inhibited. -/
def Obligations.EveryStepKeepsTheInvariant : Prop :=
  ∀ s t : State, s.Inv → step s = .next t → t.Inv
end

