-- ==== Sys2Proof/Laws/State.lean ====
section
/-! SUPPORT. The fields of State after each named update: one lemma per field that the update leaves, so that no proof unfolds
a record update. -/
namespace Sys2Proof.Machine

variable (s : State)

/-! ### State.setCell -/
@[simp] theorem State.setCell_pending (c : Nat) (f : Cell → Cell) : (s.setCell c f).pending = s.pending := rfl
@[simp] theorem State.setCell_free (c : Nat) (f : Cell → Cell) : (s.setCell c f).free = s.free := rfl
@[simp] theorem State.setCell_fuse (c : Nat) (f : Cell → Cell) : (s.setCell c f).fuse = s.fuse := rfl
@[simp] theorem State.setCell_p (c : Nat) (f : Cell → Cell) : (s.setCell c f).p = s.p := rfl
@[simp] theorem State.setCell_lag (c : Nat) (f : Cell → Cell) : (s.setCell c f).lag = s.lag := rfl
@[simp] theorem State.setCell_ready (c : Nat) (f : Cell → Cell) : (s.setCell c f).ready = s.ready := rfl
@[simp] theorem State.setCell_coincNow (c : Nat) (f : Cell → Cell) : (s.setCell c f).coincNow = s.coincNow := rfl
@[simp] theorem State.setCell_profNow (c : Nat) (f : Cell → Cell) : (s.setCell c f).profNow = s.profNow := rfl
@[simp] theorem State.setCell_wear (c : Nat) (f : Cell → Cell) : (s.setCell c f).wear = s.wear := rfl
@[simp] theorem State.setCell_jnl (c : Nat) (f : Cell → Cell) : (s.setCell c f).jnl = s.jnl := rfl
@[simp] theorem State.setCell_slot (c : Nat) (f : Cell → Cell) : (s.setCell c f).slot = s.slot := rfl
@[simp] theorem State.setCell_boot (c : Nat) (f : Cell → Cell) : (s.setCell c f).boot = s.boot := rfl
@[simp] theorem State.setCell_pwr (c : Nat) (f : Cell → Cell) : (s.setCell c f).pwr = s.pwr := rfl
@[simp] theorem State.setCell_tb (c : Nat) (f : Cell → Cell) : (s.setCell c f).tb = s.tb := rfl
@[simp] theorem State.setCell_eth (c : Nat) (f : Cell → Cell) : (s.setCell c f).eth = s.eth := rfl
@[simp] theorem State.setCell_ske (c : Nat) (f : Cell → Cell) : (s.setCell c f).ske = s.ske := rfl
@[simp] theorem State.setCell_enum (c : Nat) (f : Cell → Cell) : (s.setCell c f).enum = s.enum := rfl
@[simp] theorem State.setCell_ch (c : Nat) (f : Cell → Cell) : (s.setCell c f).ch = s.ch := rfl
@[simp] theorem State.setCell_blocks (c : Nat) (f : Cell → Cell) : (s.setCell c f).blocks = s.blocks := rfl
@[simp] theorem State.setCell_hk (c : Nat) (f : Cell → Cell) : (s.setCell c f).hk = s.hk := rfl
@[simp] theorem State.setCell_therm (c : Nat) (f : Cell → Cell) : (s.setCell c f).therm = s.therm := rfl
@[simp] theorem State.setCell_cal (c : Nat) (f : Cell → Cell) : (s.setCell c f).cal = s.cal := rfl
@[simp] theorem State.setCell_regions (c : Nat) (f : Cell → Cell) : (s.setCell c f).regions = s.regions := rfl
@[simp] theorem State.setCell_mem (c : Nat) (f : Cell → Cell) : (s.setCell c f).mem = s.mem := rfl
@[simp] theorem State.setCell_cq (c : Nat) (f : Cell → Cell) : (s.setCell c f).cq = s.cq := rfl
@[simp] theorem State.setCell_biasTest (c : Nat) (f : Cell → Cell) : (s.setCell c f).biasTest = s.biasTest := rfl
@[simp] theorem State.setCell_look (c : Nat) (f : Cell → Cell) : (s.setCell c f).look = s.look := rfl
@[simp] theorem State.setCell_memCfg (c : Nat) (f : Cell → Cell) : (s.setCell c f).memCfg = s.memCfg := rfl
@[simp] theorem State.setCell_lad (c : Nat) (f : Cell → Cell) : (s.setCell c f).lad = s.lad := rfl
@[simp] theorem State.setCell_rej (c : Nat) (f : Cell → Cell) : (s.setCell c f).rej = s.rej := rfl
@[simp] theorem State.setCell_est (c : Nat) (f : Cell → Cell) : (s.setCell c f).est = s.est := rfl
@[simp] theorem State.setCell_kept (c : Nat) (f : Cell → Cell) : (s.setCell c f).kept = s.kept := rfl
@[simp] theorem State.setCell_seq (c : Nat) (f : Cell → Cell) : (s.setCell c f).seq = s.seq := rfl
@[simp] theorem State.setCell_mc (c : Nat) (f : Cell → Cell) : (s.setCell c f).mc = s.mc := rfl
@[simp] theorem State.setCell_isl (c : Nat) (f : Cell → Cell) : (s.setCell c f).isl = s.isl := rfl
@[simp] theorem State.setCell_obs (c : Nat) (f : Cell → Cell) : (s.setCell c f).obs = s.obs := rfl

/-! ### State.setBlk -/
@[simp] theorem State.setBlk_pending (b : Nat) (f : Block → Block) : (s.setBlk b f).pending = s.pending := rfl
@[simp] theorem State.setBlk_free (b : Nat) (f : Block → Block) : (s.setBlk b f).free = s.free := rfl
@[simp] theorem State.setBlk_fuse (b : Nat) (f : Block → Block) : (s.setBlk b f).fuse = s.fuse := rfl
@[simp] theorem State.setBlk_p (b : Nat) (f : Block → Block) : (s.setBlk b f).p = s.p := rfl
@[simp] theorem State.setBlk_lag (b : Nat) (f : Block → Block) : (s.setBlk b f).lag = s.lag := rfl
@[simp] theorem State.setBlk_ready (b : Nat) (f : Block → Block) : (s.setBlk b f).ready = s.ready := rfl
@[simp] theorem State.setBlk_coincNow (b : Nat) (f : Block → Block) : (s.setBlk b f).coincNow = s.coincNow := rfl
@[simp] theorem State.setBlk_profNow (b : Nat) (f : Block → Block) : (s.setBlk b f).profNow = s.profNow := rfl
@[simp] theorem State.setBlk_wear (b : Nat) (f : Block → Block) : (s.setBlk b f).wear = s.wear := rfl
@[simp] theorem State.setBlk_jnl (b : Nat) (f : Block → Block) : (s.setBlk b f).jnl = s.jnl := rfl
@[simp] theorem State.setBlk_slot (b : Nat) (f : Block → Block) : (s.setBlk b f).slot = s.slot := rfl
@[simp] theorem State.setBlk_boot (b : Nat) (f : Block → Block) : (s.setBlk b f).boot = s.boot := rfl
@[simp] theorem State.setBlk_pwr (b : Nat) (f : Block → Block) : (s.setBlk b f).pwr = s.pwr := rfl
@[simp] theorem State.setBlk_tb (b : Nat) (f : Block → Block) : (s.setBlk b f).tb = s.tb := rfl
@[simp] theorem State.setBlk_eth (b : Nat) (f : Block → Block) : (s.setBlk b f).eth = s.eth := rfl
@[simp] theorem State.setBlk_ske (b : Nat) (f : Block → Block) : (s.setBlk b f).ske = s.ske := rfl
@[simp] theorem State.setBlk_enum (b : Nat) (f : Block → Block) : (s.setBlk b f).enum = s.enum := rfl
@[simp] theorem State.setBlk_ch (b : Nat) (f : Block → Block) : (s.setBlk b f).ch = s.ch := rfl
@[simp] theorem State.setBlk_cells (b : Nat) (f : Block → Block) : (s.setBlk b f).cells = s.cells := rfl
@[simp] theorem State.setBlk_hk (b : Nat) (f : Block → Block) : (s.setBlk b f).hk = s.hk := rfl
@[simp] theorem State.setBlk_therm (b : Nat) (f : Block → Block) : (s.setBlk b f).therm = s.therm := rfl
@[simp] theorem State.setBlk_cal (b : Nat) (f : Block → Block) : (s.setBlk b f).cal = s.cal := rfl
@[simp] theorem State.setBlk_regions (b : Nat) (f : Block → Block) : (s.setBlk b f).regions = s.regions := rfl
@[simp] theorem State.setBlk_mem (b : Nat) (f : Block → Block) : (s.setBlk b f).mem = s.mem := rfl
@[simp] theorem State.setBlk_cq (b : Nat) (f : Block → Block) : (s.setBlk b f).cq = s.cq := rfl
@[simp] theorem State.setBlk_biasTest (b : Nat) (f : Block → Block) : (s.setBlk b f).biasTest = s.biasTest := rfl
@[simp] theorem State.setBlk_look (b : Nat) (f : Block → Block) : (s.setBlk b f).look = s.look := rfl
@[simp] theorem State.setBlk_memCfg (b : Nat) (f : Block → Block) : (s.setBlk b f).memCfg = s.memCfg := rfl
@[simp] theorem State.setBlk_lad (b : Nat) (f : Block → Block) : (s.setBlk b f).lad = s.lad := rfl
@[simp] theorem State.setBlk_rej (b : Nat) (f : Block → Block) : (s.setBlk b f).rej = s.rej := rfl
@[simp] theorem State.setBlk_est (b : Nat) (f : Block → Block) : (s.setBlk b f).est = s.est := rfl
@[simp] theorem State.setBlk_kept (b : Nat) (f : Block → Block) : (s.setBlk b f).kept = s.kept := rfl
@[simp] theorem State.setBlk_seq (b : Nat) (f : Block → Block) : (s.setBlk b f).seq = s.seq := rfl
@[simp] theorem State.setBlk_mc (b : Nat) (f : Block → Block) : (s.setBlk b f).mc = s.mc := rfl
@[simp] theorem State.setBlk_isl (b : Nat) (f : Block → Block) : (s.setBlk b f).isl = s.isl := rfl
@[simp] theorem State.setBlk_obs (b : Nat) (f : Block → Block) : (s.setBlk b f).obs = s.obs := rfl

/-! ### State.setReg -/
@[simp] theorem State.setReg_pending (r : Nat) (f : Region → Region) : (s.setReg r f).pending = s.pending := rfl
@[simp] theorem State.setReg_free (r : Nat) (f : Region → Region) : (s.setReg r f).free = s.free := rfl
@[simp] theorem State.setReg_fuse (r : Nat) (f : Region → Region) : (s.setReg r f).fuse = s.fuse := rfl
@[simp] theorem State.setReg_p (r : Nat) (f : Region → Region) : (s.setReg r f).p = s.p := rfl
@[simp] theorem State.setReg_lag (r : Nat) (f : Region → Region) : (s.setReg r f).lag = s.lag := rfl
@[simp] theorem State.setReg_ready (r : Nat) (f : Region → Region) : (s.setReg r f).ready = s.ready := rfl
@[simp] theorem State.setReg_coincNow (r : Nat) (f : Region → Region) : (s.setReg r f).coincNow = s.coincNow := rfl
@[simp] theorem State.setReg_profNow (r : Nat) (f : Region → Region) : (s.setReg r f).profNow = s.profNow := rfl
@[simp] theorem State.setReg_wear (r : Nat) (f : Region → Region) : (s.setReg r f).wear = s.wear := rfl
@[simp] theorem State.setReg_jnl (r : Nat) (f : Region → Region) : (s.setReg r f).jnl = s.jnl := rfl
@[simp] theorem State.setReg_slot (r : Nat) (f : Region → Region) : (s.setReg r f).slot = s.slot := rfl
@[simp] theorem State.setReg_boot (r : Nat) (f : Region → Region) : (s.setReg r f).boot = s.boot := rfl
@[simp] theorem State.setReg_pwr (r : Nat) (f : Region → Region) : (s.setReg r f).pwr = s.pwr := rfl
@[simp] theorem State.setReg_tb (r : Nat) (f : Region → Region) : (s.setReg r f).tb = s.tb := rfl
@[simp] theorem State.setReg_eth (r : Nat) (f : Region → Region) : (s.setReg r f).eth = s.eth := rfl
@[simp] theorem State.setReg_ske (r : Nat) (f : Region → Region) : (s.setReg r f).ske = s.ske := rfl
@[simp] theorem State.setReg_enum (r : Nat) (f : Region → Region) : (s.setReg r f).enum = s.enum := rfl
@[simp] theorem State.setReg_ch (r : Nat) (f : Region → Region) : (s.setReg r f).ch = s.ch := rfl
@[simp] theorem State.setReg_cells (r : Nat) (f : Region → Region) : (s.setReg r f).cells = s.cells := rfl
@[simp] theorem State.setReg_blocks (r : Nat) (f : Region → Region) : (s.setReg r f).blocks = s.blocks := rfl
@[simp] theorem State.setReg_hk (r : Nat) (f : Region → Region) : (s.setReg r f).hk = s.hk := rfl
@[simp] theorem State.setReg_therm (r : Nat) (f : Region → Region) : (s.setReg r f).therm = s.therm := rfl
@[simp] theorem State.setReg_cal (r : Nat) (f : Region → Region) : (s.setReg r f).cal = s.cal := rfl
@[simp] theorem State.setReg_mem (r : Nat) (f : Region → Region) : (s.setReg r f).mem = s.mem := rfl
@[simp] theorem State.setReg_cq (r : Nat) (f : Region → Region) : (s.setReg r f).cq = s.cq := rfl
@[simp] theorem State.setReg_biasTest (r : Nat) (f : Region → Region) : (s.setReg r f).biasTest = s.biasTest := rfl
@[simp] theorem State.setReg_look (r : Nat) (f : Region → Region) : (s.setReg r f).look = s.look := rfl
@[simp] theorem State.setReg_memCfg (r : Nat) (f : Region → Region) : (s.setReg r f).memCfg = s.memCfg := rfl
@[simp] theorem State.setReg_lad (r : Nat) (f : Region → Region) : (s.setReg r f).lad = s.lad := rfl
@[simp] theorem State.setReg_rej (r : Nat) (f : Region → Region) : (s.setReg r f).rej = s.rej := rfl
@[simp] theorem State.setReg_est (r : Nat) (f : Region → Region) : (s.setReg r f).est = s.est := rfl
@[simp] theorem State.setReg_kept (r : Nat) (f : Region → Region) : (s.setReg r f).kept = s.kept := rfl
@[simp] theorem State.setReg_seq (r : Nat) (f : Region → Region) : (s.setReg r f).seq = s.seq := rfl
@[simp] theorem State.setReg_mc (r : Nat) (f : Region → Region) : (s.setReg r f).mc = s.mc := rfl
@[simp] theorem State.setReg_isl (r : Nat) (f : Region → Region) : (s.setReg r f).isl = s.isl := rfl
@[simp] theorem State.setReg_obs (r : Nat) (f : Region → Region) : (s.setReg r f).obs = s.obs := rfl

/-! ### State.setShot -/
@[simp] theorem State.setShot_pending (x : Nat) (f : Shot → Shot) : (s.setShot x f).pending = s.pending := rfl
@[simp] theorem State.setShot_free (x : Nat) (f : Shot → Shot) : (s.setShot x f).free = s.free := rfl
@[simp] theorem State.setShot_fuse (x : Nat) (f : Shot → Shot) : (s.setShot x f).fuse = s.fuse := rfl
@[simp] theorem State.setShot_p (x : Nat) (f : Shot → Shot) : (s.setShot x f).p = s.p := rfl
@[simp] theorem State.setShot_lag (x : Nat) (f : Shot → Shot) : (s.setShot x f).lag = s.lag := rfl
@[simp] theorem State.setShot_ready (x : Nat) (f : Shot → Shot) : (s.setShot x f).ready = s.ready := rfl
@[simp] theorem State.setShot_coincNow (x : Nat) (f : Shot → Shot) : (s.setShot x f).coincNow = s.coincNow := rfl
@[simp] theorem State.setShot_profNow (x : Nat) (f : Shot → Shot) : (s.setShot x f).profNow = s.profNow := rfl
@[simp] theorem State.setShot_wear (x : Nat) (f : Shot → Shot) : (s.setShot x f).wear = s.wear := rfl
@[simp] theorem State.setShot_jnl (x : Nat) (f : Shot → Shot) : (s.setShot x f).jnl = s.jnl := rfl
@[simp] theorem State.setShot_slot (x : Nat) (f : Shot → Shot) : (s.setShot x f).slot = s.slot := rfl
@[simp] theorem State.setShot_boot (x : Nat) (f : Shot → Shot) : (s.setShot x f).boot = s.boot := rfl
@[simp] theorem State.setShot_pwr (x : Nat) (f : Shot → Shot) : (s.setShot x f).pwr = s.pwr := rfl
@[simp] theorem State.setShot_tb (x : Nat) (f : Shot → Shot) : (s.setShot x f).tb = s.tb := rfl
@[simp] theorem State.setShot_eth (x : Nat) (f : Shot → Shot) : (s.setShot x f).eth = s.eth := rfl
@[simp] theorem State.setShot_ske (x : Nat) (f : Shot → Shot) : (s.setShot x f).ske = s.ske := rfl
@[simp] theorem State.setShot_enum (x : Nat) (f : Shot → Shot) : (s.setShot x f).enum = s.enum := rfl
@[simp] theorem State.setShot_ch (x : Nat) (f : Shot → Shot) : (s.setShot x f).ch = s.ch := rfl
@[simp] theorem State.setShot_cells (x : Nat) (f : Shot → Shot) : (s.setShot x f).cells = s.cells := rfl
@[simp] theorem State.setShot_blocks (x : Nat) (f : Shot → Shot) : (s.setShot x f).blocks = s.blocks := rfl
@[simp] theorem State.setShot_hk (x : Nat) (f : Shot → Shot) : (s.setShot x f).hk = s.hk := rfl
@[simp] theorem State.setShot_therm (x : Nat) (f : Shot → Shot) : (s.setShot x f).therm = s.therm := rfl
@[simp] theorem State.setShot_cal (x : Nat) (f : Shot → Shot) : (s.setShot x f).cal = s.cal := rfl
@[simp] theorem State.setShot_regions (x : Nat) (f : Shot → Shot) : (s.setShot x f).regions = s.regions := rfl
@[simp] theorem State.setShot_mem (x : Nat) (f : Shot → Shot) : (s.setShot x f).mem = s.mem := rfl
@[simp] theorem State.setShot_cq (x : Nat) (f : Shot → Shot) : (s.setShot x f).cq = s.cq := rfl
@[simp] theorem State.setShot_biasTest (x : Nat) (f : Shot → Shot) : (s.setShot x f).biasTest = s.biasTest := rfl
@[simp] theorem State.setShot_look (x : Nat) (f : Shot → Shot) : (s.setShot x f).look = s.look := rfl
@[simp] theorem State.setShot_memCfg (x : Nat) (f : Shot → Shot) : (s.setShot x f).memCfg = s.memCfg := rfl
@[simp] theorem State.setShot_lad (x : Nat) (f : Shot → Shot) : (s.setShot x f).lad = s.lad := rfl
@[simp] theorem State.setShot_rej (x : Nat) (f : Shot → Shot) : (s.setShot x f).rej = s.rej := rfl
@[simp] theorem State.setShot_est (x : Nat) (f : Shot → Shot) : (s.setShot x f).est = s.est := rfl
@[simp] theorem State.setShot_kept (x : Nat) (f : Shot → Shot) : (s.setShot x f).kept = s.kept := rfl
@[simp] theorem State.setShot_mc (x : Nat) (f : Shot → Shot) : (s.setShot x f).mc = s.mc := rfl
@[simp] theorem State.setShot_isl (x : Nat) (f : Shot → Shot) : (s.setShot x f).isl = s.isl := rfl
@[simp] theorem State.setShot_obs (x : Nat) (f : Shot → Shot) : (s.setShot x f).obs = s.obs := rfl

/-! ### State.setFrame -/
@[simp] theorem State.setFrame_pending (k : Nat) (f : Frame → Frame) : (s.setFrame k f).pending = s.pending := rfl
@[simp] theorem State.setFrame_free (k : Nat) (f : Frame → Frame) : (s.setFrame k f).free = s.free := rfl
@[simp] theorem State.setFrame_fuse (k : Nat) (f : Frame → Frame) : (s.setFrame k f).fuse = s.fuse := rfl
@[simp] theorem State.setFrame_p (k : Nat) (f : Frame → Frame) : (s.setFrame k f).p = s.p := rfl
@[simp] theorem State.setFrame_lag (k : Nat) (f : Frame → Frame) : (s.setFrame k f).lag = s.lag := rfl
@[simp] theorem State.setFrame_ready (k : Nat) (f : Frame → Frame) : (s.setFrame k f).ready = s.ready := rfl
@[simp] theorem State.setFrame_coincNow (k : Nat) (f : Frame → Frame) : (s.setFrame k f).coincNow = s.coincNow := rfl
@[simp] theorem State.setFrame_profNow (k : Nat) (f : Frame → Frame) : (s.setFrame k f).profNow = s.profNow := rfl
@[simp] theorem State.setFrame_wear (k : Nat) (f : Frame → Frame) : (s.setFrame k f).wear = s.wear := rfl
@[simp] theorem State.setFrame_jnl (k : Nat) (f : Frame → Frame) : (s.setFrame k f).jnl = s.jnl := rfl
@[simp] theorem State.setFrame_slot (k : Nat) (f : Frame → Frame) : (s.setFrame k f).slot = s.slot := rfl
@[simp] theorem State.setFrame_boot (k : Nat) (f : Frame → Frame) : (s.setFrame k f).boot = s.boot := rfl
@[simp] theorem State.setFrame_pwr (k : Nat) (f : Frame → Frame) : (s.setFrame k f).pwr = s.pwr := rfl
@[simp] theorem State.setFrame_tb (k : Nat) (f : Frame → Frame) : (s.setFrame k f).tb = s.tb := rfl
@[simp] theorem State.setFrame_eth (k : Nat) (f : Frame → Frame) : (s.setFrame k f).eth = s.eth := rfl
@[simp] theorem State.setFrame_ske (k : Nat) (f : Frame → Frame) : (s.setFrame k f).ske = s.ske := rfl
@[simp] theorem State.setFrame_enum (k : Nat) (f : Frame → Frame) : (s.setFrame k f).enum = s.enum := rfl
@[simp] theorem State.setFrame_ch (k : Nat) (f : Frame → Frame) : (s.setFrame k f).ch = s.ch := rfl
@[simp] theorem State.setFrame_cells (k : Nat) (f : Frame → Frame) : (s.setFrame k f).cells = s.cells := rfl
@[simp] theorem State.setFrame_blocks (k : Nat) (f : Frame → Frame) : (s.setFrame k f).blocks = s.blocks := rfl
@[simp] theorem State.setFrame_hk (k : Nat) (f : Frame → Frame) : (s.setFrame k f).hk = s.hk := rfl
@[simp] theorem State.setFrame_therm (k : Nat) (f : Frame → Frame) : (s.setFrame k f).therm = s.therm := rfl
@[simp] theorem State.setFrame_cal (k : Nat) (f : Frame → Frame) : (s.setFrame k f).cal = s.cal := rfl
@[simp] theorem State.setFrame_regions (k : Nat) (f : Frame → Frame) : (s.setFrame k f).regions = s.regions := rfl
@[simp] theorem State.setFrame_mem (k : Nat) (f : Frame → Frame) : (s.setFrame k f).mem = s.mem := rfl
@[simp] theorem State.setFrame_cq (k : Nat) (f : Frame → Frame) : (s.setFrame k f).cq = s.cq := rfl
@[simp] theorem State.setFrame_biasTest (k : Nat) (f : Frame → Frame) : (s.setFrame k f).biasTest = s.biasTest := rfl
@[simp] theorem State.setFrame_look (k : Nat) (f : Frame → Frame) : (s.setFrame k f).look = s.look := rfl
@[simp] theorem State.setFrame_memCfg (k : Nat) (f : Frame → Frame) : (s.setFrame k f).memCfg = s.memCfg := rfl
@[simp] theorem State.setFrame_lad (k : Nat) (f : Frame → Frame) : (s.setFrame k f).lad = s.lad := rfl
@[simp] theorem State.setFrame_rej (k : Nat) (f : Frame → Frame) : (s.setFrame k f).rej = s.rej := rfl
@[simp] theorem State.setFrame_est (k : Nat) (f : Frame → Frame) : (s.setFrame k f).est = s.est := rfl
@[simp] theorem State.setFrame_kept (k : Nat) (f : Frame → Frame) : (s.setFrame k f).kept = s.kept := rfl
@[simp] theorem State.setFrame_mc (k : Nat) (f : Frame → Frame) : (s.setFrame k f).mc = s.mc := rfl
@[simp] theorem State.setFrame_isl (k : Nat) (f : Frame → Frame) : (s.setFrame k f).isl = s.isl := rfl
@[simp] theorem State.setFrame_obs (k : Nat) (f : Frame → Frame) : (s.setFrame k f).obs = s.obs := rfl

/-! ### State.setMbx -/
@[simp] theorem State.setMbx_pending (m : Nat) (f : Mbx → Mbx) : (s.setMbx m f).pending = s.pending := rfl
@[simp] theorem State.setMbx_free (m : Nat) (f : Mbx → Mbx) : (s.setMbx m f).free = s.free := rfl
@[simp] theorem State.setMbx_fuse (m : Nat) (f : Mbx → Mbx) : (s.setMbx m f).fuse = s.fuse := rfl
@[simp] theorem State.setMbx_p (m : Nat) (f : Mbx → Mbx) : (s.setMbx m f).p = s.p := rfl
@[simp] theorem State.setMbx_lag (m : Nat) (f : Mbx → Mbx) : (s.setMbx m f).lag = s.lag := rfl
@[simp] theorem State.setMbx_ready (m : Nat) (f : Mbx → Mbx) : (s.setMbx m f).ready = s.ready := rfl
@[simp] theorem State.setMbx_coincNow (m : Nat) (f : Mbx → Mbx) : (s.setMbx m f).coincNow = s.coincNow := rfl
@[simp] theorem State.setMbx_profNow (m : Nat) (f : Mbx → Mbx) : (s.setMbx m f).profNow = s.profNow := rfl
@[simp] theorem State.setMbx_wear (m : Nat) (f : Mbx → Mbx) : (s.setMbx m f).wear = s.wear := rfl
@[simp] theorem State.setMbx_jnl (m : Nat) (f : Mbx → Mbx) : (s.setMbx m f).jnl = s.jnl := rfl
@[simp] theorem State.setMbx_slot (m : Nat) (f : Mbx → Mbx) : (s.setMbx m f).slot = s.slot := rfl
@[simp] theorem State.setMbx_boot (m : Nat) (f : Mbx → Mbx) : (s.setMbx m f).boot = s.boot := rfl
@[simp] theorem State.setMbx_pwr (m : Nat) (f : Mbx → Mbx) : (s.setMbx m f).pwr = s.pwr := rfl
@[simp] theorem State.setMbx_tb (m : Nat) (f : Mbx → Mbx) : (s.setMbx m f).tb = s.tb := rfl
@[simp] theorem State.setMbx_eth (m : Nat) (f : Mbx → Mbx) : (s.setMbx m f).eth = s.eth := rfl
@[simp] theorem State.setMbx_enum (m : Nat) (f : Mbx → Mbx) : (s.setMbx m f).enum = s.enum := rfl
@[simp] theorem State.setMbx_ch (m : Nat) (f : Mbx → Mbx) : (s.setMbx m f).ch = s.ch := rfl
@[simp] theorem State.setMbx_cells (m : Nat) (f : Mbx → Mbx) : (s.setMbx m f).cells = s.cells := rfl
@[simp] theorem State.setMbx_blocks (m : Nat) (f : Mbx → Mbx) : (s.setMbx m f).blocks = s.blocks := rfl
@[simp] theorem State.setMbx_hk (m : Nat) (f : Mbx → Mbx) : (s.setMbx m f).hk = s.hk := rfl
@[simp] theorem State.setMbx_therm (m : Nat) (f : Mbx → Mbx) : (s.setMbx m f).therm = s.therm := rfl
@[simp] theorem State.setMbx_cal (m : Nat) (f : Mbx → Mbx) : (s.setMbx m f).cal = s.cal := rfl
@[simp] theorem State.setMbx_regions (m : Nat) (f : Mbx → Mbx) : (s.setMbx m f).regions = s.regions := rfl
@[simp] theorem State.setMbx_mem (m : Nat) (f : Mbx → Mbx) : (s.setMbx m f).mem = s.mem := rfl
@[simp] theorem State.setMbx_cq (m : Nat) (f : Mbx → Mbx) : (s.setMbx m f).cq = s.cq := rfl
@[simp] theorem State.setMbx_biasTest (m : Nat) (f : Mbx → Mbx) : (s.setMbx m f).biasTest = s.biasTest := rfl
@[simp] theorem State.setMbx_look (m : Nat) (f : Mbx → Mbx) : (s.setMbx m f).look = s.look := rfl
@[simp] theorem State.setMbx_memCfg (m : Nat) (f : Mbx → Mbx) : (s.setMbx m f).memCfg = s.memCfg := rfl
@[simp] theorem State.setMbx_lad (m : Nat) (f : Mbx → Mbx) : (s.setMbx m f).lad = s.lad := rfl
@[simp] theorem State.setMbx_rej (m : Nat) (f : Mbx → Mbx) : (s.setMbx m f).rej = s.rej := rfl
@[simp] theorem State.setMbx_est (m : Nat) (f : Mbx → Mbx) : (s.setMbx m f).est = s.est := rfl
@[simp] theorem State.setMbx_kept (m : Nat) (f : Mbx → Mbx) : (s.setMbx m f).kept = s.kept := rfl
@[simp] theorem State.setMbx_seq (m : Nat) (f : Mbx → Mbx) : (s.setMbx m f).seq = s.seq := rfl
@[simp] theorem State.setMbx_mc (m : Nat) (f : Mbx → Mbx) : (s.setMbx m f).mc = s.mc := rfl
@[simp] theorem State.setMbx_isl (m : Nat) (f : Mbx → Mbx) : (s.setMbx m f).isl = s.isl := rfl
@[simp] theorem State.setMbx_obs (m : Nat) (f : Mbx → Mbx) : (s.setMbx m f).obs = s.obs := rfl

/-! ### State.setMw -/
@[simp] theorem State.setMw_pending (m i : Nat) (w : Word) : (s.setMw m i w).pending = s.pending := rfl
@[simp] theorem State.setMw_free (m i : Nat) (w : Word) : (s.setMw m i w).free = s.free := rfl
@[simp] theorem State.setMw_fuse (m i : Nat) (w : Word) : (s.setMw m i w).fuse = s.fuse := rfl
@[simp] theorem State.setMw_p (m i : Nat) (w : Word) : (s.setMw m i w).p = s.p := rfl
@[simp] theorem State.setMw_lag (m i : Nat) (w : Word) : (s.setMw m i w).lag = s.lag := rfl
@[simp] theorem State.setMw_ready (m i : Nat) (w : Word) : (s.setMw m i w).ready = s.ready := rfl
@[simp] theorem State.setMw_coincNow (m i : Nat) (w : Word) : (s.setMw m i w).coincNow = s.coincNow := rfl
@[simp] theorem State.setMw_profNow (m i : Nat) (w : Word) : (s.setMw m i w).profNow = s.profNow := rfl
@[simp] theorem State.setMw_wear (m i : Nat) (w : Word) : (s.setMw m i w).wear = s.wear := rfl
@[simp] theorem State.setMw_jnl (m i : Nat) (w : Word) : (s.setMw m i w).jnl = s.jnl := rfl
@[simp] theorem State.setMw_slot (m i : Nat) (w : Word) : (s.setMw m i w).slot = s.slot := rfl
@[simp] theorem State.setMw_boot (m i : Nat) (w : Word) : (s.setMw m i w).boot = s.boot := rfl
@[simp] theorem State.setMw_pwr (m i : Nat) (w : Word) : (s.setMw m i w).pwr = s.pwr := rfl
@[simp] theorem State.setMw_tb (m i : Nat) (w : Word) : (s.setMw m i w).tb = s.tb := rfl
@[simp] theorem State.setMw_eth (m i : Nat) (w : Word) : (s.setMw m i w).eth = s.eth := rfl
@[simp] theorem State.setMw_enum (m i : Nat) (w : Word) : (s.setMw m i w).enum = s.enum := rfl
@[simp] theorem State.setMw_ch (m i : Nat) (w : Word) : (s.setMw m i w).ch = s.ch := rfl
@[simp] theorem State.setMw_cells (m i : Nat) (w : Word) : (s.setMw m i w).cells = s.cells := rfl
@[simp] theorem State.setMw_blocks (m i : Nat) (w : Word) : (s.setMw m i w).blocks = s.blocks := rfl
@[simp] theorem State.setMw_hk (m i : Nat) (w : Word) : (s.setMw m i w).hk = s.hk := rfl
@[simp] theorem State.setMw_therm (m i : Nat) (w : Word) : (s.setMw m i w).therm = s.therm := rfl
@[simp] theorem State.setMw_cal (m i : Nat) (w : Word) : (s.setMw m i w).cal = s.cal := rfl
@[simp] theorem State.setMw_regions (m i : Nat) (w : Word) : (s.setMw m i w).regions = s.regions := rfl
@[simp] theorem State.setMw_mem (m i : Nat) (w : Word) : (s.setMw m i w).mem = s.mem := rfl
@[simp] theorem State.setMw_cq (m i : Nat) (w : Word) : (s.setMw m i w).cq = s.cq := rfl
@[simp] theorem State.setMw_biasTest (m i : Nat) (w : Word) : (s.setMw m i w).biasTest = s.biasTest := rfl
@[simp] theorem State.setMw_look (m i : Nat) (w : Word) : (s.setMw m i w).look = s.look := rfl
@[simp] theorem State.setMw_memCfg (m i : Nat) (w : Word) : (s.setMw m i w).memCfg = s.memCfg := rfl
@[simp] theorem State.setMw_lad (m i : Nat) (w : Word) : (s.setMw m i w).lad = s.lad := rfl
@[simp] theorem State.setMw_rej (m i : Nat) (w : Word) : (s.setMw m i w).rej = s.rej := rfl
@[simp] theorem State.setMw_est (m i : Nat) (w : Word) : (s.setMw m i w).est = s.est := rfl
@[simp] theorem State.setMw_kept (m i : Nat) (w : Word) : (s.setMw m i w).kept = s.kept := rfl
@[simp] theorem State.setMw_seq (m i : Nat) (w : Word) : (s.setMw m i w).seq = s.seq := rfl
@[simp] theorem State.setMw_mc (m i : Nat) (w : Word) : (s.setMw m i w).mc = s.mc := rfl
@[simp] theorem State.setMw_isl (m i : Nat) (w : Word) : (s.setMw m i w).isl = s.isl := rfl
@[simp] theorem State.setMw_obs (m i : Nat) (w : Word) : (s.setMw m i w).obs = s.obs := rfl

/-! ### State.setSess -/
@[simp] theorem State.setSess_pending (n : Nat) (f : Sess → Sess) : (s.setSess n f).pending = s.pending := rfl
@[simp] theorem State.setSess_free (n : Nat) (f : Sess → Sess) : (s.setSess n f).free = s.free := rfl
@[simp] theorem State.setSess_fuse (n : Nat) (f : Sess → Sess) : (s.setSess n f).fuse = s.fuse := rfl
@[simp] theorem State.setSess_p (n : Nat) (f : Sess → Sess) : (s.setSess n f).p = s.p := rfl
@[simp] theorem State.setSess_lag (n : Nat) (f : Sess → Sess) : (s.setSess n f).lag = s.lag := rfl
@[simp] theorem State.setSess_ready (n : Nat) (f : Sess → Sess) : (s.setSess n f).ready = s.ready := rfl
@[simp] theorem State.setSess_coincNow (n : Nat) (f : Sess → Sess) : (s.setSess n f).coincNow = s.coincNow := rfl
@[simp] theorem State.setSess_profNow (n : Nat) (f : Sess → Sess) : (s.setSess n f).profNow = s.profNow := rfl
@[simp] theorem State.setSess_wear (n : Nat) (f : Sess → Sess) : (s.setSess n f).wear = s.wear := rfl
@[simp] theorem State.setSess_jnl (n : Nat) (f : Sess → Sess) : (s.setSess n f).jnl = s.jnl := rfl
@[simp] theorem State.setSess_slot (n : Nat) (f : Sess → Sess) : (s.setSess n f).slot = s.slot := rfl
@[simp] theorem State.setSess_boot (n : Nat) (f : Sess → Sess) : (s.setSess n f).boot = s.boot := rfl
@[simp] theorem State.setSess_pwr (n : Nat) (f : Sess → Sess) : (s.setSess n f).pwr = s.pwr := rfl
@[simp] theorem State.setSess_tb (n : Nat) (f : Sess → Sess) : (s.setSess n f).tb = s.tb := rfl
@[simp] theorem State.setSess_eth (n : Nat) (f : Sess → Sess) : (s.setSess n f).eth = s.eth := rfl
@[simp] theorem State.setSess_enum (n : Nat) (f : Sess → Sess) : (s.setSess n f).enum = s.enum := rfl
@[simp] theorem State.setSess_ch (n : Nat) (f : Sess → Sess) : (s.setSess n f).ch = s.ch := rfl
@[simp] theorem State.setSess_cells (n : Nat) (f : Sess → Sess) : (s.setSess n f).cells = s.cells := rfl
@[simp] theorem State.setSess_blocks (n : Nat) (f : Sess → Sess) : (s.setSess n f).blocks = s.blocks := rfl
@[simp] theorem State.setSess_hk (n : Nat) (f : Sess → Sess) : (s.setSess n f).hk = s.hk := rfl
@[simp] theorem State.setSess_therm (n : Nat) (f : Sess → Sess) : (s.setSess n f).therm = s.therm := rfl
@[simp] theorem State.setSess_cal (n : Nat) (f : Sess → Sess) : (s.setSess n f).cal = s.cal := rfl
@[simp] theorem State.setSess_regions (n : Nat) (f : Sess → Sess) : (s.setSess n f).regions = s.regions := rfl
@[simp] theorem State.setSess_mem (n : Nat) (f : Sess → Sess) : (s.setSess n f).mem = s.mem := rfl
@[simp] theorem State.setSess_cq (n : Nat) (f : Sess → Sess) : (s.setSess n f).cq = s.cq := rfl
@[simp] theorem State.setSess_biasTest (n : Nat) (f : Sess → Sess) : (s.setSess n f).biasTest = s.biasTest := rfl
@[simp] theorem State.setSess_look (n : Nat) (f : Sess → Sess) : (s.setSess n f).look = s.look := rfl
@[simp] theorem State.setSess_memCfg (n : Nat) (f : Sess → Sess) : (s.setSess n f).memCfg = s.memCfg := rfl
@[simp] theorem State.setSess_lad (n : Nat) (f : Sess → Sess) : (s.setSess n f).lad = s.lad := rfl
@[simp] theorem State.setSess_rej (n : Nat) (f : Sess → Sess) : (s.setSess n f).rej = s.rej := rfl
@[simp] theorem State.setSess_est (n : Nat) (f : Sess → Sess) : (s.setSess n f).est = s.est := rfl
@[simp] theorem State.setSess_kept (n : Nat) (f : Sess → Sess) : (s.setSess n f).kept = s.kept := rfl
@[simp] theorem State.setSess_seq (n : Nat) (f : Sess → Sess) : (s.setSess n f).seq = s.seq := rfl
@[simp] theorem State.setSess_mc (n : Nat) (f : Sess → Sess) : (s.setSess n f).mc = s.mc := rfl
@[simp] theorem State.setSess_isl (n : Nat) (f : Sess → Sess) : (s.setSess n f).isl = s.isl := rfl
@[simp] theorem State.setSess_obs (n : Nat) (f : Sess → Sess) : (s.setSess n f).obs = s.obs := rfl

/-! ### State.setPort -/
@[simp] theorem State.setPort_pending (p : Nat) (f : EthPort → EthPort) : (s.setPort p f).pending = s.pending := rfl
@[simp] theorem State.setPort_free (p : Nat) (f : EthPort → EthPort) : (s.setPort p f).free = s.free := rfl
@[simp] theorem State.setPort_fuse (p : Nat) (f : EthPort → EthPort) : (s.setPort p f).fuse = s.fuse := rfl
@[simp] theorem State.setPort_p (p : Nat) (f : EthPort → EthPort) : (s.setPort p f).p = s.p := rfl
@[simp] theorem State.setPort_lag (p : Nat) (f : EthPort → EthPort) : (s.setPort p f).lag = s.lag := rfl
@[simp] theorem State.setPort_ready (p : Nat) (f : EthPort → EthPort) : (s.setPort p f).ready = s.ready := rfl
@[simp] theorem State.setPort_coincNow (p : Nat) (f : EthPort → EthPort) : (s.setPort p f).coincNow = s.coincNow := rfl
@[simp] theorem State.setPort_profNow (p : Nat) (f : EthPort → EthPort) : (s.setPort p f).profNow = s.profNow := rfl
@[simp] theorem State.setPort_wear (p : Nat) (f : EthPort → EthPort) : (s.setPort p f).wear = s.wear := rfl
@[simp] theorem State.setPort_jnl (p : Nat) (f : EthPort → EthPort) : (s.setPort p f).jnl = s.jnl := rfl
@[simp] theorem State.setPort_slot (p : Nat) (f : EthPort → EthPort) : (s.setPort p f).slot = s.slot := rfl
@[simp] theorem State.setPort_boot (p : Nat) (f : EthPort → EthPort) : (s.setPort p f).boot = s.boot := rfl
@[simp] theorem State.setPort_pwr (p : Nat) (f : EthPort → EthPort) : (s.setPort p f).pwr = s.pwr := rfl
@[simp] theorem State.setPort_tb (p : Nat) (f : EthPort → EthPort) : (s.setPort p f).tb = s.tb := rfl
@[simp] theorem State.setPort_ske (p : Nat) (f : EthPort → EthPort) : (s.setPort p f).ske = s.ske := rfl
@[simp] theorem State.setPort_enum (p : Nat) (f : EthPort → EthPort) : (s.setPort p f).enum = s.enum := rfl
@[simp] theorem State.setPort_ch (p : Nat) (f : EthPort → EthPort) : (s.setPort p f).ch = s.ch := rfl
@[simp] theorem State.setPort_cells (p : Nat) (f : EthPort → EthPort) : (s.setPort p f).cells = s.cells := rfl
@[simp] theorem State.setPort_blocks (p : Nat) (f : EthPort → EthPort) : (s.setPort p f).blocks = s.blocks := rfl
@[simp] theorem State.setPort_hk (p : Nat) (f : EthPort → EthPort) : (s.setPort p f).hk = s.hk := rfl
@[simp] theorem State.setPort_therm (p : Nat) (f : EthPort → EthPort) : (s.setPort p f).therm = s.therm := rfl
@[simp] theorem State.setPort_cal (p : Nat) (f : EthPort → EthPort) : (s.setPort p f).cal = s.cal := rfl
@[simp] theorem State.setPort_regions (p : Nat) (f : EthPort → EthPort) : (s.setPort p f).regions = s.regions := rfl
@[simp] theorem State.setPort_mem (p : Nat) (f : EthPort → EthPort) : (s.setPort p f).mem = s.mem := rfl
@[simp] theorem State.setPort_cq (p : Nat) (f : EthPort → EthPort) : (s.setPort p f).cq = s.cq := rfl
@[simp] theorem State.setPort_biasTest (p : Nat) (f : EthPort → EthPort) : (s.setPort p f).biasTest = s.biasTest := rfl
@[simp] theorem State.setPort_look (p : Nat) (f : EthPort → EthPort) : (s.setPort p f).look = s.look := rfl
@[simp] theorem State.setPort_memCfg (p : Nat) (f : EthPort → EthPort) : (s.setPort p f).memCfg = s.memCfg := rfl
@[simp] theorem State.setPort_lad (p : Nat) (f : EthPort → EthPort) : (s.setPort p f).lad = s.lad := rfl
@[simp] theorem State.setPort_rej (p : Nat) (f : EthPort → EthPort) : (s.setPort p f).rej = s.rej := rfl
@[simp] theorem State.setPort_est (p : Nat) (f : EthPort → EthPort) : (s.setPort p f).est = s.est := rfl
@[simp] theorem State.setPort_kept (p : Nat) (f : EthPort → EthPort) : (s.setPort p f).kept = s.kept := rfl
@[simp] theorem State.setPort_seq (p : Nat) (f : EthPort → EthPort) : (s.setPort p f).seq = s.seq := rfl
@[simp] theorem State.setPort_mc (p : Nat) (f : EthPort → EthPort) : (s.setPort p f).mc = s.mc := rfl
@[simp] theorem State.setPort_isl (p : Nat) (f : EthPort → EthPort) : (s.setPort p f).isl = s.isl := rfl
@[simp] theorem State.setPort_obs (p : Nat) (f : EthPort → EthPort) : (s.setPort p f).obs = s.obs := rfl

/-! ### State.setQueue -/
@[simp] theorem State.setQueue_pending (q : Nat) (f : Queue → Queue) : (s.setQueue q f).pending = s.pending := rfl
@[simp] theorem State.setQueue_free (q : Nat) (f : Queue → Queue) : (s.setQueue q f).free = s.free := rfl
@[simp] theorem State.setQueue_fuse (q : Nat) (f : Queue → Queue) : (s.setQueue q f).fuse = s.fuse := rfl
@[simp] theorem State.setQueue_p (q : Nat) (f : Queue → Queue) : (s.setQueue q f).p = s.p := rfl
@[simp] theorem State.setQueue_lag (q : Nat) (f : Queue → Queue) : (s.setQueue q f).lag = s.lag := rfl
@[simp] theorem State.setQueue_ready (q : Nat) (f : Queue → Queue) : (s.setQueue q f).ready = s.ready := rfl
@[simp] theorem State.setQueue_coincNow (q : Nat) (f : Queue → Queue) : (s.setQueue q f).coincNow = s.coincNow := rfl
@[simp] theorem State.setQueue_profNow (q : Nat) (f : Queue → Queue) : (s.setQueue q f).profNow = s.profNow := rfl
@[simp] theorem State.setQueue_wear (q : Nat) (f : Queue → Queue) : (s.setQueue q f).wear = s.wear := rfl
@[simp] theorem State.setQueue_jnl (q : Nat) (f : Queue → Queue) : (s.setQueue q f).jnl = s.jnl := rfl
@[simp] theorem State.setQueue_slot (q : Nat) (f : Queue → Queue) : (s.setQueue q f).slot = s.slot := rfl
@[simp] theorem State.setQueue_boot (q : Nat) (f : Queue → Queue) : (s.setQueue q f).boot = s.boot := rfl
@[simp] theorem State.setQueue_pwr (q : Nat) (f : Queue → Queue) : (s.setQueue q f).pwr = s.pwr := rfl
@[simp] theorem State.setQueue_tb (q : Nat) (f : Queue → Queue) : (s.setQueue q f).tb = s.tb := rfl
@[simp] theorem State.setQueue_ske (q : Nat) (f : Queue → Queue) : (s.setQueue q f).ske = s.ske := rfl
@[simp] theorem State.setQueue_enum (q : Nat) (f : Queue → Queue) : (s.setQueue q f).enum = s.enum := rfl
@[simp] theorem State.setQueue_ch (q : Nat) (f : Queue → Queue) : (s.setQueue q f).ch = s.ch := rfl
@[simp] theorem State.setQueue_cells (q : Nat) (f : Queue → Queue) : (s.setQueue q f).cells = s.cells := rfl
@[simp] theorem State.setQueue_blocks (q : Nat) (f : Queue → Queue) : (s.setQueue q f).blocks = s.blocks := rfl
@[simp] theorem State.setQueue_hk (q : Nat) (f : Queue → Queue) : (s.setQueue q f).hk = s.hk := rfl
@[simp] theorem State.setQueue_therm (q : Nat) (f : Queue → Queue) : (s.setQueue q f).therm = s.therm := rfl
@[simp] theorem State.setQueue_cal (q : Nat) (f : Queue → Queue) : (s.setQueue q f).cal = s.cal := rfl
@[simp] theorem State.setQueue_regions (q : Nat) (f : Queue → Queue) : (s.setQueue q f).regions = s.regions := rfl
@[simp] theorem State.setQueue_mem (q : Nat) (f : Queue → Queue) : (s.setQueue q f).mem = s.mem := rfl
@[simp] theorem State.setQueue_cq (q : Nat) (f : Queue → Queue) : (s.setQueue q f).cq = s.cq := rfl
@[simp] theorem State.setQueue_biasTest (q : Nat) (f : Queue → Queue) : (s.setQueue q f).biasTest = s.biasTest := rfl
@[simp] theorem State.setQueue_look (q : Nat) (f : Queue → Queue) : (s.setQueue q f).look = s.look := rfl
@[simp] theorem State.setQueue_memCfg (q : Nat) (f : Queue → Queue) : (s.setQueue q f).memCfg = s.memCfg := rfl
@[simp] theorem State.setQueue_lad (q : Nat) (f : Queue → Queue) : (s.setQueue q f).lad = s.lad := rfl
@[simp] theorem State.setQueue_rej (q : Nat) (f : Queue → Queue) : (s.setQueue q f).rej = s.rej := rfl
@[simp] theorem State.setQueue_est (q : Nat) (f : Queue → Queue) : (s.setQueue q f).est = s.est := rfl
@[simp] theorem State.setQueue_kept (q : Nat) (f : Queue → Queue) : (s.setQueue q f).kept = s.kept := rfl
@[simp] theorem State.setQueue_seq (q : Nat) (f : Queue → Queue) : (s.setQueue q f).seq = s.seq := rfl
@[simp] theorem State.setQueue_mc (q : Nat) (f : Queue → Queue) : (s.setQueue q f).mc = s.mc := rfl
@[simp] theorem State.setQueue_isl (q : Nat) (f : Queue → Queue) : (s.setQueue q f).isl = s.isl := rfl
@[simp] theorem State.setQueue_obs (q : Nat) (f : Queue → Queue) : (s.setQueue q f).obs = s.obs := rfl

/-! ### State.setIsl -/
@[simp] theorem State.setIsl_pending (f : Island → Island) : (s.setIsl f).pending = s.pending := rfl
@[simp] theorem State.setIsl_free (f : Island → Island) : (s.setIsl f).free = s.free := rfl
@[simp] theorem State.setIsl_fuse (f : Island → Island) : (s.setIsl f).fuse = s.fuse := rfl
@[simp] theorem State.setIsl_p (f : Island → Island) : (s.setIsl f).p = s.p := rfl
@[simp] theorem State.setIsl_lag (f : Island → Island) : (s.setIsl f).lag = s.lag := rfl
@[simp] theorem State.setIsl_ready (f : Island → Island) : (s.setIsl f).ready = s.ready := rfl
@[simp] theorem State.setIsl_coincNow (f : Island → Island) : (s.setIsl f).coincNow = s.coincNow := rfl
@[simp] theorem State.setIsl_profNow (f : Island → Island) : (s.setIsl f).profNow = s.profNow := rfl
@[simp] theorem State.setIsl_wear (f : Island → Island) : (s.setIsl f).wear = s.wear := rfl
@[simp] theorem State.setIsl_jnl (f : Island → Island) : (s.setIsl f).jnl = s.jnl := rfl
@[simp] theorem State.setIsl_slot (f : Island → Island) : (s.setIsl f).slot = s.slot := rfl
@[simp] theorem State.setIsl_boot (f : Island → Island) : (s.setIsl f).boot = s.boot := rfl
@[simp] theorem State.setIsl_pwr (f : Island → Island) : (s.setIsl f).pwr = s.pwr := rfl
@[simp] theorem State.setIsl_tb (f : Island → Island) : (s.setIsl f).tb = s.tb := rfl
@[simp] theorem State.setIsl_eth (f : Island → Island) : (s.setIsl f).eth = s.eth := rfl
@[simp] theorem State.setIsl_ske (f : Island → Island) : (s.setIsl f).ske = s.ske := rfl
@[simp] theorem State.setIsl_enum (f : Island → Island) : (s.setIsl f).enum = s.enum := rfl
@[simp] theorem State.setIsl_ch (f : Island → Island) : (s.setIsl f).ch = s.ch := rfl
@[simp] theorem State.setIsl_cells (f : Island → Island) : (s.setIsl f).cells = s.cells := rfl
@[simp] theorem State.setIsl_blocks (f : Island → Island) : (s.setIsl f).blocks = s.blocks := rfl
@[simp] theorem State.setIsl_hk (f : Island → Island) : (s.setIsl f).hk = s.hk := rfl
@[simp] theorem State.setIsl_therm (f : Island → Island) : (s.setIsl f).therm = s.therm := rfl
@[simp] theorem State.setIsl_cal (f : Island → Island) : (s.setIsl f).cal = s.cal := rfl
@[simp] theorem State.setIsl_regions (f : Island → Island) : (s.setIsl f).regions = s.regions := rfl
@[simp] theorem State.setIsl_mem (f : Island → Island) : (s.setIsl f).mem = s.mem := rfl
@[simp] theorem State.setIsl_cq (f : Island → Island) : (s.setIsl f).cq = s.cq := rfl
@[simp] theorem State.setIsl_biasTest (f : Island → Island) : (s.setIsl f).biasTest = s.biasTest := rfl
@[simp] theorem State.setIsl_look (f : Island → Island) : (s.setIsl f).look = s.look := rfl
@[simp] theorem State.setIsl_memCfg (f : Island → Island) : (s.setIsl f).memCfg = s.memCfg := rfl
@[simp] theorem State.setIsl_lad (f : Island → Island) : (s.setIsl f).lad = s.lad := rfl
@[simp] theorem State.setIsl_rej (f : Island → Island) : (s.setIsl f).rej = s.rej := rfl
@[simp] theorem State.setIsl_est (f : Island → Island) : (s.setIsl f).est = s.est := rfl
@[simp] theorem State.setIsl_kept (f : Island → Island) : (s.setIsl f).kept = s.kept := rfl
@[simp] theorem State.setIsl_seq (f : Island → Island) : (s.setIsl f).seq = s.seq := rfl
@[simp] theorem State.setIsl_mc (f : Island → Island) : (s.setIsl f).mc = s.mc := rfl
@[simp] theorem State.setIsl_obs (f : Island → Island) : (s.setIsl f).obs = s.obs := rfl

/-! ### State.setHkSlot -/
@[simp] theorem State.setHkSlot_pending (n : Nat) (f : HkSlot → HkSlot) : (s.setHkSlot n f).pending = s.pending := rfl
@[simp] theorem State.setHkSlot_free (n : Nat) (f : HkSlot → HkSlot) : (s.setHkSlot n f).free = s.free := rfl
@[simp] theorem State.setHkSlot_fuse (n : Nat) (f : HkSlot → HkSlot) : (s.setHkSlot n f).fuse = s.fuse := rfl
@[simp] theorem State.setHkSlot_p (n : Nat) (f : HkSlot → HkSlot) : (s.setHkSlot n f).p = s.p := rfl
@[simp] theorem State.setHkSlot_lag (n : Nat) (f : HkSlot → HkSlot) : (s.setHkSlot n f).lag = s.lag := rfl
@[simp] theorem State.setHkSlot_ready (n : Nat) (f : HkSlot → HkSlot) : (s.setHkSlot n f).ready = s.ready := rfl
@[simp] theorem State.setHkSlot_coincNow (n : Nat) (f : HkSlot → HkSlot) : (s.setHkSlot n f).coincNow = s.coincNow := rfl
@[simp] theorem State.setHkSlot_profNow (n : Nat) (f : HkSlot → HkSlot) : (s.setHkSlot n f).profNow = s.profNow := rfl
@[simp] theorem State.setHkSlot_wear (n : Nat) (f : HkSlot → HkSlot) : (s.setHkSlot n f).wear = s.wear := rfl
@[simp] theorem State.setHkSlot_jnl (n : Nat) (f : HkSlot → HkSlot) : (s.setHkSlot n f).jnl = s.jnl := rfl
@[simp] theorem State.setHkSlot_slot (n : Nat) (f : HkSlot → HkSlot) : (s.setHkSlot n f).slot = s.slot := rfl
@[simp] theorem State.setHkSlot_boot (n : Nat) (f : HkSlot → HkSlot) : (s.setHkSlot n f).boot = s.boot := rfl
@[simp] theorem State.setHkSlot_pwr (n : Nat) (f : HkSlot → HkSlot) : (s.setHkSlot n f).pwr = s.pwr := rfl
@[simp] theorem State.setHkSlot_tb (n : Nat) (f : HkSlot → HkSlot) : (s.setHkSlot n f).tb = s.tb := rfl
@[simp] theorem State.setHkSlot_eth (n : Nat) (f : HkSlot → HkSlot) : (s.setHkSlot n f).eth = s.eth := rfl
@[simp] theorem State.setHkSlot_ske (n : Nat) (f : HkSlot → HkSlot) : (s.setHkSlot n f).ske = s.ske := rfl
@[simp] theorem State.setHkSlot_enum (n : Nat) (f : HkSlot → HkSlot) : (s.setHkSlot n f).enum = s.enum := rfl
@[simp] theorem State.setHkSlot_ch (n : Nat) (f : HkSlot → HkSlot) : (s.setHkSlot n f).ch = s.ch := rfl
@[simp] theorem State.setHkSlot_cells (n : Nat) (f : HkSlot → HkSlot) : (s.setHkSlot n f).cells = s.cells := rfl
@[simp] theorem State.setHkSlot_blocks (n : Nat) (f : HkSlot → HkSlot) : (s.setHkSlot n f).blocks = s.blocks := rfl
@[simp] theorem State.setHkSlot_therm (n : Nat) (f : HkSlot → HkSlot) : (s.setHkSlot n f).therm = s.therm := rfl
@[simp] theorem State.setHkSlot_cal (n : Nat) (f : HkSlot → HkSlot) : (s.setHkSlot n f).cal = s.cal := rfl
@[simp] theorem State.setHkSlot_regions (n : Nat) (f : HkSlot → HkSlot) : (s.setHkSlot n f).regions = s.regions := rfl
@[simp] theorem State.setHkSlot_mem (n : Nat) (f : HkSlot → HkSlot) : (s.setHkSlot n f).mem = s.mem := rfl
@[simp] theorem State.setHkSlot_cq (n : Nat) (f : HkSlot → HkSlot) : (s.setHkSlot n f).cq = s.cq := rfl
@[simp] theorem State.setHkSlot_biasTest (n : Nat) (f : HkSlot → HkSlot) : (s.setHkSlot n f).biasTest = s.biasTest := rfl
@[simp] theorem State.setHkSlot_look (n : Nat) (f : HkSlot → HkSlot) : (s.setHkSlot n f).look = s.look := rfl
@[simp] theorem State.setHkSlot_memCfg (n : Nat) (f : HkSlot → HkSlot) : (s.setHkSlot n f).memCfg = s.memCfg := rfl
@[simp] theorem State.setHkSlot_lad (n : Nat) (f : HkSlot → HkSlot) : (s.setHkSlot n f).lad = s.lad := rfl
@[simp] theorem State.setHkSlot_rej (n : Nat) (f : HkSlot → HkSlot) : (s.setHkSlot n f).rej = s.rej := rfl
@[simp] theorem State.setHkSlot_est (n : Nat) (f : HkSlot → HkSlot) : (s.setHkSlot n f).est = s.est := rfl
@[simp] theorem State.setHkSlot_kept (n : Nat) (f : HkSlot → HkSlot) : (s.setHkSlot n f).kept = s.kept := rfl
@[simp] theorem State.setHkSlot_seq (n : Nat) (f : HkSlot → HkSlot) : (s.setHkSlot n f).seq = s.seq := rfl
@[simp] theorem State.setHkSlot_mc (n : Nat) (f : HkSlot → HkSlot) : (s.setHkSlot n f).mc = s.mc := rfl
@[simp] theorem State.setHkSlot_isl (n : Nat) (f : HkSlot → HkSlot) : (s.setHkSlot n f).isl = s.isl := rfl
@[simp] theorem State.setHkSlot_obs (n : Nat) (f : HkSlot → HkSlot) : (s.setHkSlot n f).obs = s.obs := rfl

/-! ### State.setAsp -/
@[simp] theorem State.setAsp_pending (p : Nat) (f : AsPort → AsPort) : (s.setAsp p f).pending = s.pending := rfl
@[simp] theorem State.setAsp_free (p : Nat) (f : AsPort → AsPort) : (s.setAsp p f).free = s.free := rfl
@[simp] theorem State.setAsp_fuse (p : Nat) (f : AsPort → AsPort) : (s.setAsp p f).fuse = s.fuse := rfl
@[simp] theorem State.setAsp_p (p : Nat) (f : AsPort → AsPort) : (s.setAsp p f).p = s.p := rfl
@[simp] theorem State.setAsp_lag (p : Nat) (f : AsPort → AsPort) : (s.setAsp p f).lag = s.lag := rfl
@[simp] theorem State.setAsp_ready (p : Nat) (f : AsPort → AsPort) : (s.setAsp p f).ready = s.ready := rfl
@[simp] theorem State.setAsp_coincNow (p : Nat) (f : AsPort → AsPort) : (s.setAsp p f).coincNow = s.coincNow := rfl
@[simp] theorem State.setAsp_profNow (p : Nat) (f : AsPort → AsPort) : (s.setAsp p f).profNow = s.profNow := rfl
@[simp] theorem State.setAsp_wear (p : Nat) (f : AsPort → AsPort) : (s.setAsp p f).wear = s.wear := rfl
@[simp] theorem State.setAsp_jnl (p : Nat) (f : AsPort → AsPort) : (s.setAsp p f).jnl = s.jnl := rfl
@[simp] theorem State.setAsp_slot (p : Nat) (f : AsPort → AsPort) : (s.setAsp p f).slot = s.slot := rfl
@[simp] theorem State.setAsp_boot (p : Nat) (f : AsPort → AsPort) : (s.setAsp p f).boot = s.boot := rfl
@[simp] theorem State.setAsp_pwr (p : Nat) (f : AsPort → AsPort) : (s.setAsp p f).pwr = s.pwr := rfl
@[simp] theorem State.setAsp_eth (p : Nat) (f : AsPort → AsPort) : (s.setAsp p f).eth = s.eth := rfl
@[simp] theorem State.setAsp_ske (p : Nat) (f : AsPort → AsPort) : (s.setAsp p f).ske = s.ske := rfl
@[simp] theorem State.setAsp_enum (p : Nat) (f : AsPort → AsPort) : (s.setAsp p f).enum = s.enum := rfl
@[simp] theorem State.setAsp_ch (p : Nat) (f : AsPort → AsPort) : (s.setAsp p f).ch = s.ch := rfl
@[simp] theorem State.setAsp_cells (p : Nat) (f : AsPort → AsPort) : (s.setAsp p f).cells = s.cells := rfl
@[simp] theorem State.setAsp_blocks (p : Nat) (f : AsPort → AsPort) : (s.setAsp p f).blocks = s.blocks := rfl
@[simp] theorem State.setAsp_hk (p : Nat) (f : AsPort → AsPort) : (s.setAsp p f).hk = s.hk := rfl
@[simp] theorem State.setAsp_therm (p : Nat) (f : AsPort → AsPort) : (s.setAsp p f).therm = s.therm := rfl
@[simp] theorem State.setAsp_cal (p : Nat) (f : AsPort → AsPort) : (s.setAsp p f).cal = s.cal := rfl
@[simp] theorem State.setAsp_regions (p : Nat) (f : AsPort → AsPort) : (s.setAsp p f).regions = s.regions := rfl
@[simp] theorem State.setAsp_mem (p : Nat) (f : AsPort → AsPort) : (s.setAsp p f).mem = s.mem := rfl
@[simp] theorem State.setAsp_cq (p : Nat) (f : AsPort → AsPort) : (s.setAsp p f).cq = s.cq := rfl
@[simp] theorem State.setAsp_biasTest (p : Nat) (f : AsPort → AsPort) : (s.setAsp p f).biasTest = s.biasTest := rfl
@[simp] theorem State.setAsp_look (p : Nat) (f : AsPort → AsPort) : (s.setAsp p f).look = s.look := rfl
@[simp] theorem State.setAsp_memCfg (p : Nat) (f : AsPort → AsPort) : (s.setAsp p f).memCfg = s.memCfg := rfl
@[simp] theorem State.setAsp_lad (p : Nat) (f : AsPort → AsPort) : (s.setAsp p f).lad = s.lad := rfl
@[simp] theorem State.setAsp_rej (p : Nat) (f : AsPort → AsPort) : (s.setAsp p f).rej = s.rej := rfl
@[simp] theorem State.setAsp_est (p : Nat) (f : AsPort → AsPort) : (s.setAsp p f).est = s.est := rfl
@[simp] theorem State.setAsp_kept (p : Nat) (f : AsPort → AsPort) : (s.setAsp p f).kept = s.kept := rfl
@[simp] theorem State.setAsp_seq (p : Nat) (f : AsPort → AsPort) : (s.setAsp p f).seq = s.seq := rfl
@[simp] theorem State.setAsp_mc (p : Nat) (f : AsPort → AsPort) : (s.setAsp p f).mc = s.mc := rfl
@[simp] theorem State.setAsp_isl (p : Nat) (f : AsPort → AsPort) : (s.setAsp p f).isl = s.isl := rfl
@[simp] theorem State.setAsp_obs (p : Nat) (f : AsPort → AsPort) : (s.setAsp p f).obs = s.obs := rfl

/-! ### State.force -/
@[simp] theorem State.force_pending (e : Eff) : (s.force e).pending = s.pending := rfl
@[simp] theorem State.force_free (e : Eff) : (s.force e).free = s.free := rfl
@[simp] theorem State.force_fuse (e : Eff) : (s.force e).fuse = s.fuse := rfl
@[simp] theorem State.force_p (e : Eff) : (s.force e).p = s.p := rfl
@[simp] theorem State.force_ready (e : Eff) : (s.force e).ready = s.ready := rfl
@[simp] theorem State.force_coincNow (e : Eff) : (s.force e).coincNow = s.coincNow := rfl
@[simp] theorem State.force_profNow (e : Eff) : (s.force e).profNow = s.profNow := rfl
@[simp] theorem State.force_wear (e : Eff) : (s.force e).wear = s.wear := rfl
@[simp] theorem State.force_jnl (e : Eff) : (s.force e).jnl = s.jnl := rfl
@[simp] theorem State.force_slot (e : Eff) : (s.force e).slot = s.slot := rfl
@[simp] theorem State.force_boot (e : Eff) : (s.force e).boot = s.boot := rfl
@[simp] theorem State.force_pwr (e : Eff) : (s.force e).pwr = s.pwr := rfl
@[simp] theorem State.force_tb (e : Eff) : (s.force e).tb = s.tb := rfl
@[simp] theorem State.force_eth (e : Eff) : (s.force e).eth = s.eth := rfl
@[simp] theorem State.force_ske (e : Eff) : (s.force e).ske = s.ske := rfl
@[simp] theorem State.force_enum (e : Eff) : (s.force e).enum = s.enum := rfl
@[simp] theorem State.force_ch (e : Eff) : (s.force e).ch = s.ch := rfl
@[simp] theorem State.force_cells (e : Eff) : (s.force e).cells = s.cells := rfl
@[simp] theorem State.force_blocks (e : Eff) : (s.force e).blocks = s.blocks := rfl
@[simp] theorem State.force_hk (e : Eff) : (s.force e).hk = s.hk := rfl
@[simp] theorem State.force_therm (e : Eff) : (s.force e).therm = s.therm := rfl
@[simp] theorem State.force_cal (e : Eff) : (s.force e).cal = s.cal := rfl
@[simp] theorem State.force_regions (e : Eff) : (s.force e).regions = s.regions := rfl
@[simp] theorem State.force_mem (e : Eff) : (s.force e).mem = s.mem := rfl
@[simp] theorem State.force_cq (e : Eff) : (s.force e).cq = s.cq := rfl
@[simp] theorem State.force_biasTest (e : Eff) : (s.force e).biasTest = s.biasTest := rfl
@[simp] theorem State.force_look (e : Eff) : (s.force e).look = s.look := rfl
@[simp] theorem State.force_memCfg (e : Eff) : (s.force e).memCfg = s.memCfg := rfl
@[simp] theorem State.force_lad (e : Eff) : (s.force e).lad = s.lad := rfl
@[simp] theorem State.force_rej (e : Eff) : (s.force e).rej = s.rej := rfl
@[simp] theorem State.force_est (e : Eff) : (s.force e).est = s.est := rfl
@[simp] theorem State.force_kept (e : Eff) : (s.force e).kept = s.kept := rfl
@[simp] theorem State.force_seq (e : Eff) : (s.force e).seq = s.seq := rfl
@[simp] theorem State.force_mc (e : Eff) : (s.force e).mc = s.mc := rfl
@[simp] theorem State.force_isl (e : Eff) : (s.force e).isl = s.isl := rfl
@[simp] theorem State.force_obs (e : Eff) : (s.force e).obs = s.obs := rfl

/-! ### State.forceAt -/
@[simp] theorem State.forceAt_pending (e : Eff) (i : Nat) : (s.forceAt e i).pending = s.pending := rfl
@[simp] theorem State.forceAt_free (e : Eff) (i : Nat) : (s.forceAt e i).free = s.free := rfl
@[simp] theorem State.forceAt_fuse (e : Eff) (i : Nat) : (s.forceAt e i).fuse = s.fuse := rfl
@[simp] theorem State.forceAt_p (e : Eff) (i : Nat) : (s.forceAt e i).p = s.p := rfl
@[simp] theorem State.forceAt_ready (e : Eff) (i : Nat) : (s.forceAt e i).ready = s.ready := rfl
@[simp] theorem State.forceAt_coincNow (e : Eff) (i : Nat) : (s.forceAt e i).coincNow = s.coincNow := rfl
@[simp] theorem State.forceAt_profNow (e : Eff) (i : Nat) : (s.forceAt e i).profNow = s.profNow := rfl
@[simp] theorem State.forceAt_wear (e : Eff) (i : Nat) : (s.forceAt e i).wear = s.wear := rfl
@[simp] theorem State.forceAt_jnl (e : Eff) (i : Nat) : (s.forceAt e i).jnl = s.jnl := rfl
@[simp] theorem State.forceAt_slot (e : Eff) (i : Nat) : (s.forceAt e i).slot = s.slot := rfl
@[simp] theorem State.forceAt_boot (e : Eff) (i : Nat) : (s.forceAt e i).boot = s.boot := rfl
@[simp] theorem State.forceAt_pwr (e : Eff) (i : Nat) : (s.forceAt e i).pwr = s.pwr := rfl
@[simp] theorem State.forceAt_tb (e : Eff) (i : Nat) : (s.forceAt e i).tb = s.tb := rfl
@[simp] theorem State.forceAt_eth (e : Eff) (i : Nat) : (s.forceAt e i).eth = s.eth := rfl
@[simp] theorem State.forceAt_ske (e : Eff) (i : Nat) : (s.forceAt e i).ske = s.ske := rfl
@[simp] theorem State.forceAt_enum (e : Eff) (i : Nat) : (s.forceAt e i).enum = s.enum := rfl
@[simp] theorem State.forceAt_ch (e : Eff) (i : Nat) : (s.forceAt e i).ch = s.ch := rfl
@[simp] theorem State.forceAt_cells (e : Eff) (i : Nat) : (s.forceAt e i).cells = s.cells := rfl
@[simp] theorem State.forceAt_blocks (e : Eff) (i : Nat) : (s.forceAt e i).blocks = s.blocks := rfl
@[simp] theorem State.forceAt_hk (e : Eff) (i : Nat) : (s.forceAt e i).hk = s.hk := rfl
@[simp] theorem State.forceAt_therm (e : Eff) (i : Nat) : (s.forceAt e i).therm = s.therm := rfl
@[simp] theorem State.forceAt_cal (e : Eff) (i : Nat) : (s.forceAt e i).cal = s.cal := rfl
@[simp] theorem State.forceAt_regions (e : Eff) (i : Nat) : (s.forceAt e i).regions = s.regions := rfl
@[simp] theorem State.forceAt_mem (e : Eff) (i : Nat) : (s.forceAt e i).mem = s.mem := rfl
@[simp] theorem State.forceAt_cq (e : Eff) (i : Nat) : (s.forceAt e i).cq = s.cq := rfl
@[simp] theorem State.forceAt_biasTest (e : Eff) (i : Nat) : (s.forceAt e i).biasTest = s.biasTest := rfl
@[simp] theorem State.forceAt_look (e : Eff) (i : Nat) : (s.forceAt e i).look = s.look := rfl
@[simp] theorem State.forceAt_memCfg (e : Eff) (i : Nat) : (s.forceAt e i).memCfg = s.memCfg := rfl
@[simp] theorem State.forceAt_lad (e : Eff) (i : Nat) : (s.forceAt e i).lad = s.lad := rfl
@[simp] theorem State.forceAt_rej (e : Eff) (i : Nat) : (s.forceAt e i).rej = s.rej := rfl
@[simp] theorem State.forceAt_est (e : Eff) (i : Nat) : (s.forceAt e i).est = s.est := rfl
@[simp] theorem State.forceAt_kept (e : Eff) (i : Nat) : (s.forceAt e i).kept = s.kept := rfl
@[simp] theorem State.forceAt_seq (e : Eff) (i : Nat) : (s.forceAt e i).seq = s.seq := rfl
@[simp] theorem State.forceAt_mc (e : Eff) (i : Nat) : (s.forceAt e i).mc = s.mc := rfl
@[simp] theorem State.forceAt_isl (e : Eff) (i : Nat) : (s.forceAt e i).isl = s.isl := rfl
@[simp] theorem State.forceAt_obs (e : Eff) (i : Nat) : (s.forceAt e i).obs = s.obs := rfl

/-! ### State.writePar -/
@[simp] theorem State.writePar_pending (q : Par) (v i : Nat) : (s.writePar q v i).pending = s.pending := rfl
@[simp] theorem State.writePar_free (q : Par) (v i : Nat) : (s.writePar q v i).free = s.free := rfl
@[simp] theorem State.writePar_fuse (q : Par) (v i : Nat) : (s.writePar q v i).fuse = s.fuse := rfl
@[simp] theorem State.writePar_ready (q : Par) (v i : Nat) : (s.writePar q v i).ready = s.ready := rfl
@[simp] theorem State.writePar_coincNow (q : Par) (v i : Nat) : (s.writePar q v i).coincNow = s.coincNow := rfl
@[simp] theorem State.writePar_profNow (q : Par) (v i : Nat) : (s.writePar q v i).profNow = s.profNow := rfl
@[simp] theorem State.writePar_wear (q : Par) (v i : Nat) : (s.writePar q v i).wear = s.wear := rfl
@[simp] theorem State.writePar_jnl (q : Par) (v i : Nat) : (s.writePar q v i).jnl = s.jnl := rfl
@[simp] theorem State.writePar_slot (q : Par) (v i : Nat) : (s.writePar q v i).slot = s.slot := rfl
@[simp] theorem State.writePar_boot (q : Par) (v i : Nat) : (s.writePar q v i).boot = s.boot := rfl
@[simp] theorem State.writePar_pwr (q : Par) (v i : Nat) : (s.writePar q v i).pwr = s.pwr := rfl
@[simp] theorem State.writePar_tb (q : Par) (v i : Nat) : (s.writePar q v i).tb = s.tb := rfl
@[simp] theorem State.writePar_eth (q : Par) (v i : Nat) : (s.writePar q v i).eth = s.eth := rfl
@[simp] theorem State.writePar_ske (q : Par) (v i : Nat) : (s.writePar q v i).ske = s.ske := rfl
@[simp] theorem State.writePar_enum (q : Par) (v i : Nat) : (s.writePar q v i).enum = s.enum := rfl
@[simp] theorem State.writePar_ch (q : Par) (v i : Nat) : (s.writePar q v i).ch = s.ch := rfl
@[simp] theorem State.writePar_cells (q : Par) (v i : Nat) : (s.writePar q v i).cells = s.cells := rfl
@[simp] theorem State.writePar_blocks (q : Par) (v i : Nat) : (s.writePar q v i).blocks = s.blocks := rfl
@[simp] theorem State.writePar_hk (q : Par) (v i : Nat) : (s.writePar q v i).hk = s.hk := rfl
@[simp] theorem State.writePar_therm (q : Par) (v i : Nat) : (s.writePar q v i).therm = s.therm := rfl
@[simp] theorem State.writePar_cal (q : Par) (v i : Nat) : (s.writePar q v i).cal = s.cal := rfl
@[simp] theorem State.writePar_regions (q : Par) (v i : Nat) : (s.writePar q v i).regions = s.regions := rfl
@[simp] theorem State.writePar_mem (q : Par) (v i : Nat) : (s.writePar q v i).mem = s.mem := rfl
@[simp] theorem State.writePar_cq (q : Par) (v i : Nat) : (s.writePar q v i).cq = s.cq := rfl
@[simp] theorem State.writePar_biasTest (q : Par) (v i : Nat) : (s.writePar q v i).biasTest = s.biasTest := rfl
@[simp] theorem State.writePar_look (q : Par) (v i : Nat) : (s.writePar q v i).look = s.look := rfl
@[simp] theorem State.writePar_memCfg (q : Par) (v i : Nat) : (s.writePar q v i).memCfg = s.memCfg := rfl
@[simp] theorem State.writePar_lad (q : Par) (v i : Nat) : (s.writePar q v i).lad = s.lad := rfl
@[simp] theorem State.writePar_rej (q : Par) (v i : Nat) : (s.writePar q v i).rej = s.rej := rfl
@[simp] theorem State.writePar_est (q : Par) (v i : Nat) : (s.writePar q v i).est = s.est := rfl
@[simp] theorem State.writePar_kept (q : Par) (v i : Nat) : (s.writePar q v i).kept = s.kept := rfl
@[simp] theorem State.writePar_seq (q : Par) (v i : Nat) : (s.writePar q v i).seq = s.seq := rfl
@[simp] theorem State.writePar_mc (q : Par) (v i : Nat) : (s.writePar q v i).mc = s.mc := rfl
@[simp] theorem State.writePar_isl (q : Par) (v i : Nat) : (s.writePar q v i).isl = s.isl := rfl
@[simp] theorem State.writePar_obs (q : Par) (v i : Nat) : (s.writePar q v i).obs = s.obs := rfl

/-! ### State.hwP -/
@[simp] theorem State.hwP_pending (f : ClassP → ClassP) : (s.hwP f).pending = s.pending := rfl
@[simp] theorem State.hwP_free (f : ClassP → ClassP) : (s.hwP f).free = s.free := rfl
@[simp] theorem State.hwP_fuse (f : ClassP → ClassP) : (s.hwP f).fuse = s.fuse := rfl
@[simp] theorem State.hwP_lag (f : ClassP → ClassP) : (s.hwP f).lag = s.lag := rfl
@[simp] theorem State.hwP_ready (f : ClassP → ClassP) : (s.hwP f).ready = s.ready := rfl
@[simp] theorem State.hwP_coincNow (f : ClassP → ClassP) : (s.hwP f).coincNow = s.coincNow := rfl
@[simp] theorem State.hwP_profNow (f : ClassP → ClassP) : (s.hwP f).profNow = s.profNow := rfl
@[simp] theorem State.hwP_wear (f : ClassP → ClassP) : (s.hwP f).wear = s.wear := rfl
@[simp] theorem State.hwP_slot (f : ClassP → ClassP) : (s.hwP f).slot = s.slot := rfl
@[simp] theorem State.hwP_boot (f : ClassP → ClassP) : (s.hwP f).boot = s.boot := rfl
@[simp] theorem State.hwP_pwr (f : ClassP → ClassP) : (s.hwP f).pwr = s.pwr := rfl
@[simp] theorem State.hwP_tb (f : ClassP → ClassP) : (s.hwP f).tb = s.tb := rfl
@[simp] theorem State.hwP_eth (f : ClassP → ClassP) : (s.hwP f).eth = s.eth := rfl
@[simp] theorem State.hwP_ske (f : ClassP → ClassP) : (s.hwP f).ske = s.ske := rfl
@[simp] theorem State.hwP_enum (f : ClassP → ClassP) : (s.hwP f).enum = s.enum := rfl
@[simp] theorem State.hwP_ch (f : ClassP → ClassP) : (s.hwP f).ch = s.ch := rfl
@[simp] theorem State.hwP_cells (f : ClassP → ClassP) : (s.hwP f).cells = s.cells := rfl
@[simp] theorem State.hwP_blocks (f : ClassP → ClassP) : (s.hwP f).blocks = s.blocks := rfl
@[simp] theorem State.hwP_hk (f : ClassP → ClassP) : (s.hwP f).hk = s.hk := rfl
@[simp] theorem State.hwP_therm (f : ClassP → ClassP) : (s.hwP f).therm = s.therm := rfl
@[simp] theorem State.hwP_cal (f : ClassP → ClassP) : (s.hwP f).cal = s.cal := rfl
@[simp] theorem State.hwP_regions (f : ClassP → ClassP) : (s.hwP f).regions = s.regions := rfl
@[simp] theorem State.hwP_mem (f : ClassP → ClassP) : (s.hwP f).mem = s.mem := rfl
@[simp] theorem State.hwP_cq (f : ClassP → ClassP) : (s.hwP f).cq = s.cq := rfl
@[simp] theorem State.hwP_biasTest (f : ClassP → ClassP) : (s.hwP f).biasTest = s.biasTest := rfl
@[simp] theorem State.hwP_look (f : ClassP → ClassP) : (s.hwP f).look = s.look := rfl
@[simp] theorem State.hwP_memCfg (f : ClassP → ClassP) : (s.hwP f).memCfg = s.memCfg := rfl
@[simp] theorem State.hwP_lad (f : ClassP → ClassP) : (s.hwP f).lad = s.lad := rfl
@[simp] theorem State.hwP_rej (f : ClassP → ClassP) : (s.hwP f).rej = s.rej := rfl
@[simp] theorem State.hwP_est (f : ClassP → ClassP) : (s.hwP f).est = s.est := rfl
@[simp] theorem State.hwP_kept (f : ClassP → ClassP) : (s.hwP f).kept = s.kept := rfl
@[simp] theorem State.hwP_seq (f : ClassP → ClassP) : (s.hwP f).seq = s.seq := rfl
@[simp] theorem State.hwP_mc (f : ClassP → ClassP) : (s.hwP f).mc = s.mc := rfl
@[simp] theorem State.hwP_isl (f : ClassP → ClassP) : (s.hwP f).isl = s.isl := rfl
@[simp] theorem State.hwP_obs (f : ClassP → ClassP) : (s.hwP f).obs = s.obs := rfl

/-! ### State.count -/
@[simp] theorem State.count_pending (lo hi ev qual : Nat) (loc : Loc) (n : Nat) : (s.count lo hi ev qual loc n).pending = s.pending := rfl
@[simp] theorem State.count_free (lo hi ev qual : Nat) (loc : Loc) (n : Nat) : (s.count lo hi ev qual loc n).free = s.free := rfl
@[simp] theorem State.count_fuse (lo hi ev qual : Nat) (loc : Loc) (n : Nat) : (s.count lo hi ev qual loc n).fuse = s.fuse := rfl
@[simp] theorem State.count_p (lo hi ev qual : Nat) (loc : Loc) (n : Nat) : (s.count lo hi ev qual loc n).p = s.p := rfl
@[simp] theorem State.count_lag (lo hi ev qual : Nat) (loc : Loc) (n : Nat) : (s.count lo hi ev qual loc n).lag = s.lag := rfl
@[simp] theorem State.count_ready (lo hi ev qual : Nat) (loc : Loc) (n : Nat) : (s.count lo hi ev qual loc n).ready = s.ready := rfl
@[simp] theorem State.count_coincNow (lo hi ev qual : Nat) (loc : Loc) (n : Nat) : (s.count lo hi ev qual loc n).coincNow = s.coincNow := rfl
@[simp] theorem State.count_profNow (lo hi ev qual : Nat) (loc : Loc) (n : Nat) : (s.count lo hi ev qual loc n).profNow = s.profNow := rfl
@[simp] theorem State.count_wear (lo hi ev qual : Nat) (loc : Loc) (n : Nat) : (s.count lo hi ev qual loc n).wear = s.wear := rfl
@[simp] theorem State.count_jnl (lo hi ev qual : Nat) (loc : Loc) (n : Nat) : (s.count lo hi ev qual loc n).jnl = s.jnl := rfl
@[simp] theorem State.count_slot (lo hi ev qual : Nat) (loc : Loc) (n : Nat) : (s.count lo hi ev qual loc n).slot = s.slot := rfl
@[simp] theorem State.count_boot (lo hi ev qual : Nat) (loc : Loc) (n : Nat) : (s.count lo hi ev qual loc n).boot = s.boot := rfl
@[simp] theorem State.count_pwr (lo hi ev qual : Nat) (loc : Loc) (n : Nat) : (s.count lo hi ev qual loc n).pwr = s.pwr := rfl
@[simp] theorem State.count_tb (lo hi ev qual : Nat) (loc : Loc) (n : Nat) : (s.count lo hi ev qual loc n).tb = s.tb := rfl
@[simp] theorem State.count_eth (lo hi ev qual : Nat) (loc : Loc) (n : Nat) : (s.count lo hi ev qual loc n).eth = s.eth := rfl
@[simp] theorem State.count_ske (lo hi ev qual : Nat) (loc : Loc) (n : Nat) : (s.count lo hi ev qual loc n).ske = s.ske := rfl
@[simp] theorem State.count_enum (lo hi ev qual : Nat) (loc : Loc) (n : Nat) : (s.count lo hi ev qual loc n).enum = s.enum := rfl
@[simp] theorem State.count_ch (lo hi ev qual : Nat) (loc : Loc) (n : Nat) : (s.count lo hi ev qual loc n).ch = s.ch := rfl
@[simp] theorem State.count_cells (lo hi ev qual : Nat) (loc : Loc) (n : Nat) : (s.count lo hi ev qual loc n).cells = s.cells := rfl
@[simp] theorem State.count_blocks (lo hi ev qual : Nat) (loc : Loc) (n : Nat) : (s.count lo hi ev qual loc n).blocks = s.blocks := rfl
@[simp] theorem State.count_hk (lo hi ev qual : Nat) (loc : Loc) (n : Nat) : (s.count lo hi ev qual loc n).hk = s.hk := rfl
@[simp] theorem State.count_therm (lo hi ev qual : Nat) (loc : Loc) (n : Nat) : (s.count lo hi ev qual loc n).therm = s.therm := rfl
@[simp] theorem State.count_cal (lo hi ev qual : Nat) (loc : Loc) (n : Nat) : (s.count lo hi ev qual loc n).cal = s.cal := rfl
@[simp] theorem State.count_regions (lo hi ev qual : Nat) (loc : Loc) (n : Nat) : (s.count lo hi ev qual loc n).regions = s.regions := rfl
@[simp] theorem State.count_mem (lo hi ev qual : Nat) (loc : Loc) (n : Nat) : (s.count lo hi ev qual loc n).mem = s.mem := rfl
@[simp] theorem State.count_cq (lo hi ev qual : Nat) (loc : Loc) (n : Nat) : (s.count lo hi ev qual loc n).cq = s.cq := rfl
@[simp] theorem State.count_biasTest (lo hi ev qual : Nat) (loc : Loc) (n : Nat) : (s.count lo hi ev qual loc n).biasTest = s.biasTest := rfl
@[simp] theorem State.count_look (lo hi ev qual : Nat) (loc : Loc) (n : Nat) : (s.count lo hi ev qual loc n).look = s.look := rfl
@[simp] theorem State.count_memCfg (lo hi ev qual : Nat) (loc : Loc) (n : Nat) : (s.count lo hi ev qual loc n).memCfg = s.memCfg := rfl
@[simp] theorem State.count_lad (lo hi ev qual : Nat) (loc : Loc) (n : Nat) : (s.count lo hi ev qual loc n).lad = s.lad := rfl
@[simp] theorem State.count_rej (lo hi ev qual : Nat) (loc : Loc) (n : Nat) : (s.count lo hi ev qual loc n).rej = s.rej := rfl
@[simp] theorem State.count_est (lo hi ev qual : Nat) (loc : Loc) (n : Nat) : (s.count lo hi ev qual loc n).est = s.est := rfl
@[simp] theorem State.count_kept (lo hi ev qual : Nat) (loc : Loc) (n : Nat) : (s.count lo hi ev qual loc n).kept = s.kept := rfl
@[simp] theorem State.count_seq (lo hi ev qual : Nat) (loc : Loc) (n : Nat) : (s.count lo hi ev qual loc n).seq = s.seq := rfl
@[simp] theorem State.count_mc (lo hi ev qual : Nat) (loc : Loc) (n : Nat) : (s.count lo hi ev qual loc n).mc = s.mc := rfl
@[simp] theorem State.count_isl (lo hi ev qual : Nat) (loc : Loc) (n : Nat) : (s.count lo hi ev qual loc n).isl = s.isl := rfl

/-! ### State.startTxn -/
@[simp] theorem State.startTxn_pending (a n : Nat) (w : Waiter) (x : Option Wear) : (s.startTxn a n w x).pending = s.pending := rfl
@[simp] theorem State.startTxn_free (a n : Nat) (w : Waiter) (x : Option Wear) : (s.startTxn a n w x).free = s.free := rfl
@[simp] theorem State.startTxn_fuse (a n : Nat) (w : Waiter) (x : Option Wear) : (s.startTxn a n w x).fuse = s.fuse := rfl
@[simp] theorem State.startTxn_p (a n : Nat) (w : Waiter) (x : Option Wear) : (s.startTxn a n w x).p = s.p := rfl
@[simp] theorem State.startTxn_lag (a n : Nat) (w : Waiter) (x : Option Wear) : (s.startTxn a n w x).lag = s.lag := rfl
@[simp] theorem State.startTxn_ready (a n : Nat) (w : Waiter) (x : Option Wear) : (s.startTxn a n w x).ready = s.ready := rfl
@[simp] theorem State.startTxn_coincNow (a n : Nat) (w : Waiter) (x : Option Wear) : (s.startTxn a n w x).coincNow = s.coincNow := rfl
@[simp] theorem State.startTxn_profNow (a n : Nat) (w : Waiter) (x : Option Wear) : (s.startTxn a n w x).profNow = s.profNow := rfl
@[simp] theorem State.startTxn_wear (a n : Nat) (w : Waiter) (x : Option Wear) : (s.startTxn a n w x).wear = s.wear := rfl
@[simp] theorem State.startTxn_slot (a n : Nat) (w : Waiter) (x : Option Wear) : (s.startTxn a n w x).slot = s.slot := rfl
@[simp] theorem State.startTxn_boot (a n : Nat) (w : Waiter) (x : Option Wear) : (s.startTxn a n w x).boot = s.boot := rfl
@[simp] theorem State.startTxn_pwr (a n : Nat) (w : Waiter) (x : Option Wear) : (s.startTxn a n w x).pwr = s.pwr := rfl
@[simp] theorem State.startTxn_tb (a n : Nat) (w : Waiter) (x : Option Wear) : (s.startTxn a n w x).tb = s.tb := rfl
@[simp] theorem State.startTxn_eth (a n : Nat) (w : Waiter) (x : Option Wear) : (s.startTxn a n w x).eth = s.eth := rfl
@[simp] theorem State.startTxn_ske (a n : Nat) (w : Waiter) (x : Option Wear) : (s.startTxn a n w x).ske = s.ske := rfl
@[simp] theorem State.startTxn_enum (a n : Nat) (w : Waiter) (x : Option Wear) : (s.startTxn a n w x).enum = s.enum := rfl
@[simp] theorem State.startTxn_ch (a n : Nat) (w : Waiter) (x : Option Wear) : (s.startTxn a n w x).ch = s.ch := rfl
@[simp] theorem State.startTxn_cells (a n : Nat) (w : Waiter) (x : Option Wear) : (s.startTxn a n w x).cells = s.cells := rfl
@[simp] theorem State.startTxn_blocks (a n : Nat) (w : Waiter) (x : Option Wear) : (s.startTxn a n w x).blocks = s.blocks := rfl
@[simp] theorem State.startTxn_hk (a n : Nat) (w : Waiter) (x : Option Wear) : (s.startTxn a n w x).hk = s.hk := rfl
@[simp] theorem State.startTxn_therm (a n : Nat) (w : Waiter) (x : Option Wear) : (s.startTxn a n w x).therm = s.therm := rfl
@[simp] theorem State.startTxn_cal (a n : Nat) (w : Waiter) (x : Option Wear) : (s.startTxn a n w x).cal = s.cal := rfl
@[simp] theorem State.startTxn_regions (a n : Nat) (w : Waiter) (x : Option Wear) : (s.startTxn a n w x).regions = s.regions := rfl
@[simp] theorem State.startTxn_mem (a n : Nat) (w : Waiter) (x : Option Wear) : (s.startTxn a n w x).mem = s.mem := rfl
@[simp] theorem State.startTxn_cq (a n : Nat) (w : Waiter) (x : Option Wear) : (s.startTxn a n w x).cq = s.cq := rfl
@[simp] theorem State.startTxn_biasTest (a n : Nat) (w : Waiter) (x : Option Wear) : (s.startTxn a n w x).biasTest = s.biasTest := rfl
@[simp] theorem State.startTxn_look (a n : Nat) (w : Waiter) (x : Option Wear) : (s.startTxn a n w x).look = s.look := rfl
@[simp] theorem State.startTxn_memCfg (a n : Nat) (w : Waiter) (x : Option Wear) : (s.startTxn a n w x).memCfg = s.memCfg := rfl
@[simp] theorem State.startTxn_lad (a n : Nat) (w : Waiter) (x : Option Wear) : (s.startTxn a n w x).lad = s.lad := rfl
@[simp] theorem State.startTxn_rej (a n : Nat) (w : Waiter) (x : Option Wear) : (s.startTxn a n w x).rej = s.rej := rfl
@[simp] theorem State.startTxn_est (a n : Nat) (w : Waiter) (x : Option Wear) : (s.startTxn a n w x).est = s.est := rfl
@[simp] theorem State.startTxn_kept (a n : Nat) (w : Waiter) (x : Option Wear) : (s.startTxn a n w x).kept = s.kept := rfl
@[simp] theorem State.startTxn_seq (a n : Nat) (w : Waiter) (x : Option Wear) : (s.startTxn a n w x).seq = s.seq := rfl
@[simp] theorem State.startTxn_mc (a n : Nat) (w : Waiter) (x : Option Wear) : (s.startTxn a n w x).mc = s.mc := rfl
@[simp] theorem State.startTxn_isl (a n : Nat) (w : Waiter) (x : Option Wear) : (s.startTxn a n w x).isl = s.isl := rfl
@[simp] theorem State.startTxn_obs (a n : Nat) (w : Waiter) (x : Option Wear) : (s.startTxn a n w x).obs = s.obs := rfl

/-! ### State.linkSend -/
@[simp] theorem State.linkSend_pending (down : Bool) (prio : Nat) (ws : List Word) : (s.linkSend down prio ws).pending = s.pending := rfl
@[simp] theorem State.linkSend_free (down : Bool) (prio : Nat) (ws : List Word) : (s.linkSend down prio ws).free = s.free := rfl
@[simp] theorem State.linkSend_fuse (down : Bool) (prio : Nat) (ws : List Word) : (s.linkSend down prio ws).fuse = s.fuse := rfl
@[simp] theorem State.linkSend_p (down : Bool) (prio : Nat) (ws : List Word) : (s.linkSend down prio ws).p = s.p := rfl
@[simp] theorem State.linkSend_lag (down : Bool) (prio : Nat) (ws : List Word) : (s.linkSend down prio ws).lag = s.lag := rfl
@[simp] theorem State.linkSend_ready (down : Bool) (prio : Nat) (ws : List Word) : (s.linkSend down prio ws).ready = s.ready := rfl
@[simp] theorem State.linkSend_coincNow (down : Bool) (prio : Nat) (ws : List Word) : (s.linkSend down prio ws).coincNow = s.coincNow := rfl
@[simp] theorem State.linkSend_profNow (down : Bool) (prio : Nat) (ws : List Word) : (s.linkSend down prio ws).profNow = s.profNow := rfl
@[simp] theorem State.linkSend_wear (down : Bool) (prio : Nat) (ws : List Word) : (s.linkSend down prio ws).wear = s.wear := rfl
@[simp] theorem State.linkSend_jnl (down : Bool) (prio : Nat) (ws : List Word) : (s.linkSend down prio ws).jnl = s.jnl := rfl
@[simp] theorem State.linkSend_slot (down : Bool) (prio : Nat) (ws : List Word) : (s.linkSend down prio ws).slot = s.slot := rfl
@[simp] theorem State.linkSend_boot (down : Bool) (prio : Nat) (ws : List Word) : (s.linkSend down prio ws).boot = s.boot := rfl
@[simp] theorem State.linkSend_pwr (down : Bool) (prio : Nat) (ws : List Word) : (s.linkSend down prio ws).pwr = s.pwr := rfl
@[simp] theorem State.linkSend_tb (down : Bool) (prio : Nat) (ws : List Word) : (s.linkSend down prio ws).tb = s.tb := rfl
@[simp] theorem State.linkSend_eth (down : Bool) (prio : Nat) (ws : List Word) : (s.linkSend down prio ws).eth = s.eth := rfl
@[simp] theorem State.linkSend_ske (down : Bool) (prio : Nat) (ws : List Word) : (s.linkSend down prio ws).ske = s.ske := rfl
@[simp] theorem State.linkSend_enum (down : Bool) (prio : Nat) (ws : List Word) : (s.linkSend down prio ws).enum = s.enum := rfl
@[simp] theorem State.linkSend_cells (down : Bool) (prio : Nat) (ws : List Word) : (s.linkSend down prio ws).cells = s.cells := rfl
@[simp] theorem State.linkSend_blocks (down : Bool) (prio : Nat) (ws : List Word) : (s.linkSend down prio ws).blocks = s.blocks := rfl
@[simp] theorem State.linkSend_hk (down : Bool) (prio : Nat) (ws : List Word) : (s.linkSend down prio ws).hk = s.hk := rfl
@[simp] theorem State.linkSend_therm (down : Bool) (prio : Nat) (ws : List Word) : (s.linkSend down prio ws).therm = s.therm := rfl
@[simp] theorem State.linkSend_cal (down : Bool) (prio : Nat) (ws : List Word) : (s.linkSend down prio ws).cal = s.cal := rfl
@[simp] theorem State.linkSend_regions (down : Bool) (prio : Nat) (ws : List Word) : (s.linkSend down prio ws).regions = s.regions := rfl
@[simp] theorem State.linkSend_mem (down : Bool) (prio : Nat) (ws : List Word) : (s.linkSend down prio ws).mem = s.mem := rfl
@[simp] theorem State.linkSend_cq (down : Bool) (prio : Nat) (ws : List Word) : (s.linkSend down prio ws).cq = s.cq := rfl
@[simp] theorem State.linkSend_biasTest (down : Bool) (prio : Nat) (ws : List Word) : (s.linkSend down prio ws).biasTest = s.biasTest := rfl
@[simp] theorem State.linkSend_look (down : Bool) (prio : Nat) (ws : List Word) : (s.linkSend down prio ws).look = s.look := rfl
@[simp] theorem State.linkSend_memCfg (down : Bool) (prio : Nat) (ws : List Word) : (s.linkSend down prio ws).memCfg = s.memCfg := rfl
@[simp] theorem State.linkSend_lad (down : Bool) (prio : Nat) (ws : List Word) : (s.linkSend down prio ws).lad = s.lad := rfl
@[simp] theorem State.linkSend_rej (down : Bool) (prio : Nat) (ws : List Word) : (s.linkSend down prio ws).rej = s.rej := rfl
@[simp] theorem State.linkSend_est (down : Bool) (prio : Nat) (ws : List Word) : (s.linkSend down prio ws).est = s.est := rfl
@[simp] theorem State.linkSend_kept (down : Bool) (prio : Nat) (ws : List Word) : (s.linkSend down prio ws).kept = s.kept := rfl
@[simp] theorem State.linkSend_seq (down : Bool) (prio : Nat) (ws : List Word) : (s.linkSend down prio ws).seq = s.seq := rfl
@[simp] theorem State.linkSend_mc (down : Bool) (prio : Nat) (ws : List Word) : (s.linkSend down prio ws).mc = s.mc := rfl
@[simp] theorem State.linkSend_isl (down : Bool) (prio : Nat) (ws : List Word) : (s.linkSend down prio ws).isl = s.isl := rfl
@[simp] theorem State.linkSend_obs (down : Bool) (prio : Nat) (ws : List Word) : (s.linkSend down prio ws).obs = s.obs := rfl

end Sys2Proof.Machine
end

