-- ==== Sys2Proof/Laws/Frames.lean ====
section
/-! SUPPORT. What the shared operations can change: a response, a journal transaction, a record or an event on its way out. -/
namespace Sys2Proof.Machine

variable {s t u : State}

/-- Two states differ in the Skeic interface only. -/
def OnlySkeic (s t : State) : Prop := t = { s with ske := t.ske }

/-- Two states differ in what leaves the device only: queues and ports, counters, chain links, held boot events, the regions
(which records staged in the spill area) and the time protocol's port records, which hold when a frame left. -/
def OnlyOut (s t : State) : Prop :=
  t = { s with eth := t.eth, obs := t.obs, ch := t.ch, boot := t.boot, regions := t.regions, tb := { s.tb with asp := t.tb.asp } }

theorem OnlyOut.rfl : OnlyOut s s := by rw [OnlyOut]

theorem OnlyOut.trans (h : OnlyOut s t) (g : OnlyOut t u) : OnlyOut s u := by
  unfold OnlyOut at h g ⊢
  rw [h] at g
  rw [g]

theorem OnlySkeic.trans (h : OnlySkeic s t) (g : OnlySkeic t u) : OnlySkeic s u := by
  unfold OnlySkeic at h g ⊢
  rw [h] at g
  rw [g]

/-- Words written into a mailbox change the Skeic interface only. -/
theorem setMws_only (s : State) (m i : Nat) (ws : List Word) : OnlySkeic s (s.setMws m i ws) := by
  induction ws generalizing s i with
  | nil => rfl
  | cons w r ih => exact OnlySkeic.trans (t := s.setMw m i w) (by rfl) (ih _ _)

/-- A response changes the Skeic interface only. -/
theorem respond_only (s : State) (m c : Nat) (p : List Word) : OnlySkeic s (s.respond m c p) := by
  unfold State.respond
  simp only
  split
  · rfl
  · refine OnlySkeic.trans (setMws_only s m 0 (responseWords (s.mw m 0) (s.mw m 1) (s.mw m 2) (s.mw m 3) c p (s.mbx m).key)) ?_
    generalize s.setMws m 0 _ = t
    split <;> rfl

/-- A change that writes class P answers or starts its transaction: Skeic interface and journal only. -/
theorem commitAnswer_only (s : State) (a n m : Nat) (p : List Word) :
    s.commitAnswer a n m p = { s with ske := (s.commitAnswer a n m p).ske, jnl := (s.commitAnswer a n m p).jnl } := by
  unfold State.commitAnswer
  split
  · have h := respond_only s m 0 p
    rw [OnlySkeic] at h
    rw [h]
  · rfl

theorem setPort_only (s : State) (p : Nat) (f : EthPort → EthPort) : OnlyOut s (s.setPort p f) := by rfl

theorem setQueue_only (s : State) (q : Nat) (f : Queue → Queue) : OnlyOut s (s.setQueue q f) := by rfl

/-- An item put on the wire: the port, and the time protocol's record of it. -/
theorem putWire_only (s : State) (p : Nat) (it : Item) : OnlyOut s (s.putWire p it) := by
  unfold State.putWire
  simp only
  split <;> rfl

theorem countC_only (s : State) (ev qual n : Nat) : OnlyOut s (s.countC ev qual n) := by rfl

theorem setDeficit_only (s : State) (p k v : Nat) : OnlyOut s (s.setDeficit p k v) := by
  unfold State.setDeficit
  split <;> rfl

theorem release_only (s : State) (d : Dgram) : OnlyOut s (s.release d) := by
  unfold State.release
  split <;> rfl

theorem idle_only (s : State) (p k : Nat) : OnlyOut s (s.idle p k) := by
  unfold State.idle
  split
  · exact .rfl
  · exact setDeficit_only _ _ _ _

/-- A datagram sent from the round robin. -/
theorem sendDgram_only (s : State) (p k : Nat) (d : Dgram) : OnlyOut s (s.sendDgram p k d) := by
  unfold State.sendDgram
  simp only
  exact (((setDeficit_only _ _ _ _).trans (setPort_only _ _ _)).trans (idle_only _ _ _)).trans (putWire_only _ _ _)

theorem visit_only (s : State) (p k : Nat) : OnlyOut s (s.visit p k) :=
  (setDeficit_only _ _ _ _).trans (setPort_only _ _ _)

/-- A choice of the deficit round robin. -/
theorem drr_only (n : Nat) (s : State) (p : Nat) : OnlyOut s (State.drr n s p) := by
  induction n generalizing s with
  | zero => exact .rfl
  | succ n ih =>
    unfold State.drr
    simp only
    split
    · split
      · exact sendDgram_only _ _ _ _
      · split
        · exact .rfl
        · exact (visit_only _ _ _).trans (ih _)
    · split
      · exact .rfl
      · exact (visit_only _ _ _).trans (ih _)

/-- A port chooses what it sends next. -/
theorem choose_only (s : State) (p : Nat) : OnlyOut s (s.choose p) := by
  unfold State.choose
  simp only
  split
  · exact .rfl
  · split
    · exact (setPort_only _ _ _).trans (putWire_only _ _ _)
    · split
      · exact (setPort_only _ _ _).trans (putWire_only _ _ _)
      · split
        · exact (setPort_only _ _ _).trans (putWire_only _ _ _)
        · split
          · exact .rfl
          · exact drr_only _ _ _

theorem toPort_only (s : State) (d : Dgram) (p : Nat) : OnlyOut s (s.toPort d p) := (setPort_only _ _ _).trans (choose_only _ _)

theorem toCtl_only (s : State) (p : Nat) (it : Item) : OnlyOut s (s.toCtl p it) := (setPort_only _ _ _).trans (choose_only _ _)

/-- A fold of changes of one kind is such a change. -/
theorem foldl_only {β : Type} (l : List β) (f : State → β → State) (h : ∀ s b, OnlyOut s (f s b)) (s : State) :
    OnlyOut s (l.foldl f s) := by
  induction l generalizing s with
  | nil => exact .rfl
  | cons b r ih => exact (h s b).trans (ih _)

theorem countDrop_only (s : State) (ps : List Nat) : OnlyOut s (s.countDrop ps) :=
  foldl_only _ _ (fun _ _ => setPort_only _ _ _) s

theorem dropDgram_only (s : State) (d : Dgram) (ps : List Nat) : OnlyOut s (s.dropDgram d ps) :=
  (countDrop_only _ _).trans (release_only _ _)

/-- A datagram sent on its way (R431, R517). -/
theorem route_only (s : State) (d : Dgram) : OnlyOut s (s.route d) := by
  unfold State.route
  simp only
  split
  · split
    · exact dropDgram_only _ _ _
    · split
      · exact OnlyOut.trans (t := s.linkSend false d.linkPrio d.payload) (by rfl) (release_only _ _)
      · rfl
  · have f := fun (l : List Nat) (e : Dgram) t => foldl_only l (fun t p => State.toPort t e p) (fun t p => toPort_only t e p) t
    split <;> split <;> first | exact dropDgram_only _ _ _ | exact (countDrop_only _ _).trans (f _ _ _)

theorem closeDgram_only (s : State) (q : Nat) : OnlyOut s (s.closeDgram q) := by
  unfold State.closeDgram
  simp only
  split
  · exact .rfl
  · exact (setQueue_only _ _ _).trans (route_only _ _)

theorem discardRec_only (s : State) (q : Nat) : OnlyOut s (s.discardRec q) :=
  (setQueue_only _ _ _).trans (countC_only _ _ _ _)

theorem noteSpilt_only (s : State) (x : List Word) : OnlyOut s (s.noteSpilt x) := by
  unfold State.noteSpilt
  simp only
  split
  · rfl
  · exact .rfl

/-- A record joins the open datagram of a queue (R424, R429). -/
theorem addRecord_only (s : State) (q : Nat) (r : List Word) : OnlyOut s (s.addRecord q r) := by
  unfold State.addRecord
  simp only
  have a : OnlyOut s (if recBytes (s.queue q).cur + 4 * r.length ≤ s.roomNow q (s.bindOf q) then s else s.closeDgram q) := by
    split
    · exact .rfl
    · exact closeDgram_only _ _
  generalize (if recBytes (s.queue q).cur + 4 * r.length ≤ s.roomNow q (s.bindOf q) then s else s.closeDgram q) = t at *
  have b := fun f => a.trans (((setQueue_only t q f).trans (noteSpilt_only _ r)).trans (countC_only _ 0x20 (s.bindOf q).cls 1))
  split
  · exact (b _).trans (closeDgram_only _ _)
  · exact b _

/-- A record put into a queue (R422 to R430). -/
theorem enqueue_only (s : State) (q : Nat) (r : List Word) : OnlyOut s (s.enqueue q r).2 := by
  unfold State.enqueue
  simp only
  split
  · exact .rfl
  · split
    · exact discardRec_only _ _
    · split
      · exact discardRec_only _ _
      · exact addRecord_only _ _ _

/-- A record put into every queue that takes it (R422). -/
theorem enqueueAll_only (s : State) (cls : Nat) (takes : Binding → Bool) (r : Binding → List Word) :
    OnlyOut s (s.enqueueAll cls takes r) := by
  unfold State.enqueueAll
  refine foldl_only _ _ (fun t q => ?_) s
  simp only
  split
  · exact enqueue_only _ _ _
  · exact .rfl

/-- An event (R446, R613). -/
theorem event_only (s : State) (level inst code : Nat) (det : List Nat) : OnlyOut s (s.event level inst code det) := by
  unfold State.event
  split
  · rfl
  · unfold State.pushEvent
    exact OnlyOut.trans (t := { s with eth := { s.eth with evSeq := wrap 16 (s.eth.evSeq + 1) } }) (by rfl)
      (enqueueAll_only _ _ _ _)

theorem chipEvent_only (s : State) (code : Nat) (det : List Nat) : OnlyOut s (s.chipEvent code det) := event_only _ _ _ _ _

/-- Commands that wait are untouched by a response, a commit or an event. -/
@[simp] theorem respond_pending (s : State) (m c : Nat) (p : List Word) : (s.respond m c p).pending = s.pending := by
  rw [respond_only s m c p]

@[simp] theorem commitAnswer_pending (s : State) (a n m : Nat) (p : List Word) : (s.commitAnswer a n m p).pending = s.pending := by
  rw [commitAnswer_only s a n m p]

@[simp] theorem event_pending (s : State) (l i c : Nat) (d : List Nat) : (s.event l i c d).pending = s.pending := by
  rw [event_only s l i c d]

@[simp] theorem enqueueAll_pending (s : State) (c : Nat) (f : Binding → Bool) (r : Binding → List Word) :
    (s.enqueueAll c f r).pending = s.pending := by
  rw [enqueueAll_only s c f r]

end Sys2Proof.Machine
end

