-- ==== Sys2Proof/Laws/Skeic.lean ====
section
/-! SUPPORT. What executing a placed Skeic message answers, one lemma per way (R463, R470, R471, R580, R581, R624). -/
namespace Sys2Proof.Machine

/-- A message whose turn has come and that is applied at once answers status 00h with its payload. -/
theorem skeic_done {s t : State} {op : Nat} {m : Fin 64} {body : State → Res} {p : List Word} (h : s.turn m op)
    (hb : body s = .done t p) : s.skeic op m body = .next (t.respond m 0 p) := by
  obtain ⟨h1, h2, h3⟩ := h
  unfold State.skeic
  cases hq : isQuery op <;> cases hr : serviceOnly op <;> cases hs : s.pwr.safe <;> simp_all

/-- A message whose turn has come and that its command turns away answers with that status. -/
theorem skeic_status {s : State} {op : Nat} {m : Fin 64} {body : State → Res} {c : Nat} (h : s.turn m op)
    (hb : body s = .status c) : s.skeic op m body = .next (s.respond m c []) := by
  obtain ⟨h1, h2, h3⟩ := h
  unfold State.skeic
  cases hq : isQuery op <;> cases hr : serviceOnly op <;> cases hs : s.pwr.safe <;> simp_all

/-- A message whose turn has come and that writes class P starts its transaction, if none is in progress. -/
theorem skeic_commit {s t : State} {op n : Nat} {m : Fin 64} {body : State → Res} {p : List Word} (h : s.turnP m op)
    (hb : body s = .commit t n p) : s.skeic op m body = .next (t.commitAnswer (op / 256) n m p) := by
  obtain ⟨⟨h1, h2, h3⟩, h4⟩ := h
  unfold State.skeic
  cases hq : isQuery op <;> cases hr : serviceOnly op <;> cases hs : s.pwr.safe <;> simp_all

/-- A message whose turn has come and whose response follows a later event is executing from now on. -/
theorem skeic_later {s t : State} {op : Nat} {m : Fin 64} {body : State → Res} (h : s.turn m op)
    (hb : body s = .later t) :
    s.skeic op m body = .next (({ t with ske := { t.ske with order := t.ske.order.erase m } }.setMbx m
        (fun b => if b.st = 2 then { b with st := 3 } else b))) := by
  obtain ⟨h1, h2, h3⟩ := h
  unfold State.skeic
  cases hq : isQuery op <;> cases hr : serviceOnly op <;> cases hs : s.pwr.safe <;> simp_all

/-- A message whose turn has come and that has to wait leaves the state as it is. -/
theorem skeic_wait {s : State} {op : Nat} {m : Fin 64} {body : State → Res} (h : s.turn m op)
    (hb : body s = .wait) : s.skeic op m body = .next s := by
  obtain ⟨h1, h2, h3⟩ := h
  unfold State.skeic
  cases hq : isQuery op <;> cases hr : serviceOnly op <;> cases hs : s.pwr.safe <;> simp_all

/-- A message whose turn has come and that is a host error stops the block. -/
theorem skeic_err {s : State} {op : Nat} {m : Fin 64} {body : State → Res} {w : String} (h : s.turn m op)
    (hb : body s = .err w) : s.skeic op m body = .fault (.hostError w) := by
  obtain ⟨h1, h2, h3⟩ := h
  unfold State.skeic
  cases hq : isQuery op <;> cases hr : serviceOnly op <;> cases hs : s.pwr.safe <;> simp_all

/-- Where the mailbox holds no such message, the state stays (log 3). -/
theorem skeic_stutter {s : State} {op : Nat} {m : Fin 64} {body : State → Res} (h : s.holds m op = false) :
    s.skeic op m body = .next s := by
  simp [State.skeic, h]

end Sys2Proof.Machine
end

