-- ==== Sys2Proof/Laws/Tables.lean ====
section
/-! SUPPORT. Sparse tables, which hold every addressed buffer of the block: a read after a write, and that every operation
keeps the canonical form. -/
namespace Sys2Proof.Machine

variable {α : Type}

/-- A read of an entry just put gives it; every other entry reads as before. -/
theorem tfind_tput (t : Tab α) (n m : Nat) (v : α) : tfind (tput t n v) m = if m = n then some v else tfind t m := by
  induction t with
  | nil => simp only [tput, tfind, eq_comm]
  | cons e r ih =>
    obtain ⟨k, x⟩ := e
    unfold tput
    split <;> rename_i h1
    · simp only [tfind, eq_comm]
    · split <;> rename_i h2
      · subst h2; simp only [tfind, eq_comm]; split <;> simp_all
      · simp only [tfind, ih]; split <;> split <;> simp_all

/-- A read of an entry just deleted finds none; every other entry reads as before. -/
theorem tfind_tdel (t : Tab α) (n m : Nat) : tfind (tdel t n) m = if m = n then none else tfind t m := by
  induction t with
  | nil => simp [tdel, tfind]
  | cons e r ih =>
    obtain ⟨k, x⟩ := e
    unfold tdel at ih ⊢
    by_cases h : k = n
    · subst h; simp only [List.filter, bne_self_eq_false, ih, tfind, eq_comm]; split <;> simp_all
    · rw [List.filter_cons_of_pos (by simpa using h)]
      simp only [tfind, ih]
      split <;> split <;> simp_all

/-- A table reads at a key just set what was set there, and elsewhere as before. -/
@[simp] theorem tget_tset [DecidableEq α] (d : α) (t : Tab α) (n m : Nat) (v : α) :
    tget d (tset d t n v) m = if m = n then v else tget d t m := by
  unfold tget tset
  split <;> rename_i h
  · rw [tfind_tdel]; split <;> simp [h]
  · rw [tfind_tput]; split <;> simp

/-- A table reads at a key just changed the changed entry, and elsewhere as before. -/
@[simp] theorem tget_tmod [DecidableEq α] (d : α) (t : Tab α) (n m : Nat) (f : α → α) :
    tget d (tmod d t n f) m = if m = n then f (tget d t n) else tget d t m := tget_tset d t n m _

/-- A table with ascending keys lists nothing below or at its first key but that entry. -/
theorem sorted_cons (k : Nat) (x : α) (r : Tab α) :
    Tab.sorted ((k, x) :: r) = true ↔ (∀ e ∈ r, k < e.1) ∧ Tab.sorted r = true := by
  induction r generalizing k x with
  | nil => simp [Tab.sorted]
  | cons e r ih =>
    obtain ⟨j, y⟩ := e
    simp only [Tab.sorted, Bool.and_eq_true, decide_eq_true_eq, ih, List.mem_cons, forall_eq_or_imp]
    constructor
    · rintro ⟨h, h1, h2⟩; exact ⟨⟨h, fun e he => Nat.lt_trans h (h1 e he)⟩, h1, h2⟩
    · rintro ⟨⟨h, -⟩, h1, h2⟩; exact ⟨h, h1, h2⟩

/-- The entries of a table after one is put. -/
theorem mem_tput {t : Tab α} {n : Nat} {v : α} {e : Nat × α} (h : e ∈ tput t n v) : e = (n, v) ∨ e ∈ t := by
  induction t with
  | nil => simp_all [tput]
  | cons a r ih =>
    unfold tput at h
    split at h
    · simp_all
    · split at h <;> rename_i hn <;> simp only [List.mem_cons] at h ⊢
      · exact h.imp_right .inr
      · obtain rfl | h := h
        · exact .inr (.inl rfl)
        · exact (ih h).imp_right .inr

/-- Putting an entry keeps the keys ascending. -/
theorem sorted_tput (t : Tab α) (n : Nat) (v : α) (h : Tab.sorted t = true) : Tab.sorted (tput t n v) = true := by
  induction t with
  | nil => simp [tput, Tab.sorted]
  | cons a r ih =>
    obtain ⟨k, x⟩ := a
    obtain ⟨h1, h2⟩ := (sorted_cons k x r).1 h
    unfold tput
    split <;> rename_i hk
    · exact (sorted_cons n v _).2 ⟨fun e he => by
        obtain rfl | he := List.mem_cons.1 he
        · exact hk
        · exact Nat.lt_trans hk (h1 e he), h⟩
    · split <;> rename_i hn
      · subst hn; exact (sorted_cons n v r).2 ⟨h1, h2⟩
      · refine (sorted_cons k x _).2 ⟨fun e he => ?_, ih h2⟩
        obtain rfl | he := mem_tput he
        · omega
        · exact h1 e he

/-- Dropping entries keeps the keys ascending. -/
theorem sorted_filter (t : Tab α) (p : Nat × α → Bool) (h : Tab.sorted t = true) : Tab.sorted (t.filter p) = true := by
  induction t with
  | nil => simp [Tab.sorted]
  | cons a r ih =>
    obtain ⟨k, x⟩ := a
    obtain ⟨h1, h2⟩ := (sorted_cons k x r).1 h
    rw [List.filter_cons]
    split
    · exact (sorted_cons k x _).2 ⟨fun e he => h1 e (List.mem_filter.1 he).1, ih h2⟩
    · exact ih h2

/-- Setting an entry keeps the canonical form. -/
theorem wf_tset [DecidableEq α] (d : α) (t : Tab α) (n : Nat) (v : α) (h : Tab.wf d t = true) : Tab.wf d (tset d t n v) = true := by
  unfold Tab.wf at h ⊢
  simp only [Bool.and_eq_true, List.all_eq_true, decide_eq_true_eq] at h ⊢
  obtain ⟨h1, h2⟩ := h
  unfold tset
  split <;> rename_i hv
  · exact ⟨sorted_filter t _ h1, fun e he => h2 e (List.mem_filter.1 he).1⟩
  · refine ⟨sorted_tput t n v h1, fun e he => ?_⟩
    obtain rfl | he := mem_tput he
    · exact hv
    · exact h2 e he

/-- Changing an entry keeps the canonical form. -/
theorem wf_tmod [DecidableEq α] (d : α) (t : Tab α) (n : Nat) (f : α → α) (h : Tab.wf d t = true) :
    Tab.wf d (tmod d t n f) = true := wf_tset d t n _ h

/-- Changing the values of a table and nothing else keeps the keys ascending. -/
theorem sorted_map (t : Tab α) (f : Nat × α → α) (h : Tab.sorted t = true) :
    Tab.sorted (t.map (fun e => (e.1, f e))) = true := by
  induction t with
  | nil => simp [Tab.sorted]
  | cons a r ih =>
    obtain ⟨k, x⟩ := a
    obtain ⟨h1, h2⟩ := (sorted_cons k x r).1 h
    refine (sorted_cons k _ _).2 ⟨fun e he => ?_, ih h2⟩
    obtain ⟨y, hy, rfl⟩ := List.mem_map.1 he
    exact h1 y hy

/-- Changing every entry keeps the canonical form. -/
theorem wf_tmap [DecidableEq α] (d : α) (t : Tab α) (f : Nat → α → α) (h : Tab.wf d t = true) :
    Tab.wf d (tmap d t f) = true := by
  unfold Tab.wf at h ⊢
  simp only [Bool.and_eq_true, List.all_eq_true, decide_eq_true_eq] at h ⊢
  exact ⟨sorted_filter _ _ (sorted_map t (fun e => f e.1 e.2) h.1), fun e he => by
    simpa using (List.mem_filter.1 he).2⟩

/-- The addressed buffers of State.reset: mailbox memory in the canonical form, and firmware slots with ascending keys (a
slot lists each word written, whatever its value: log 6). -/
theorem reset_buffers_wf : Tab.wf 0 State.reset.ske.mem = true ∧ Tab.sorted State.reset.slot = true := by decide

end Sys2Proof.Machine
end

