-- ==== Sys2Proof/WellFormed.lean ====
section
/-! DEFINITION. Which operands a command can have: the widths and counts that the spec gives what comes from outside the
block. The types of Sys2Proof/Syntax.lean hold the instance numbers within their ranges. -/
namespace Sys2Proof

/-- No value stands twice in a list. -/
def distinct : List Nat → Bool
  | [] => true
  | a :: r => !r.contains a && distinct r

/-- A signed value fits in n bits of two's complement. -/
def fitsI (n : Nat) (i : Int) : Bool := decide (-(2 ^ (n - 1) : Int) ≤ i) && decide (i < 2 ^ (n - 1))

/-- A Skeic datagram: UDP port, VID and payload length of an Ethernet frame (R452). -/
def Arrival.wf (d : Arrival) : Bool := d.udp < 65536 && d.vid < 4096 && d.bytes.length ≤ 9216

/-- A received frame: address, tag and field widths; its length holds its payload (R414, R418). -/
def RxFrame.wf (f : RxFrame) : Bool :=
  f.mac < 2 ^ 48 && f.vid.all (· < 4096) && f.etype < 65536 && f.udp < 65536 && f.proto < 256 &&
    (f.ip == 0 || f.ip == 4 || f.ip == 6) && f.bytes.length ≤ f.size

/-- A state report: address, scales and state codes in their widths (R515). -/
def ChainReport.wf (r : ChainReport) : Bool := r.from_ < 8 && r.sT < 512 && r.sL < 512 && r.dev < 8 && r.spin < 4

/-- A forwarded datagram: the widths of its header and binding (R428, R421). -/
def FwdDgram.wf (d : FwdDgram) : Bool :=
  d.chain < 8 && d.queue < 32768 && d.cls < 16 && d.port < 8 && d.dest < 1024 && d.pcp < 8 && d.dscp < 64 &&
    d.seq < 2 ^ 32 && d.lost < 2 ^ 32

/-- A pass measurement: the number of entries of each table (R565, R643). -/
def CalMeas.wf (m : CalMeas) : Bool :=
  m.walkHi.length == 64 && m.walkLo.length == 64 && m.satHi.length == 16 && m.satLo.length == 16 &&
    m.intHi.length == 16 && m.intLo.length == 16

/-- The operands of a command are within what the spec gives them. -/
def Instr.wf : Instr → Bool
  | .skeicMessageArrival d => d.wf
  | .forwardedMessageArrival _ msg => 4 ≤ msg.length && msg.length ≤ 1024
  | .wakeFrame mac dport d => mac < 2 ^ 48 && dport < 65536 && d.wf
  | .pwrStateGet _ mv ma => mv < 65536 && ma < 65536
  | .pwrRailRead _ rails power => rails.length == 5 && rails.all (fun r => r.1 < 65536 && r.2 < 65536) && power < 65536
  | .tbStatusGet _ e => fitsI 16 e
  | .calStatusGet _ _ khz mv => khz < 65536 && mv < 65536
  | .sampleTick xs => distinct (xs.map (fun x => x.ch.val)) && xs.all (fun x => x.code < 1024)
  | .laneMarker _ _ laneNo addr _ _ _ => laneNo < 4 && addr < 8
  | .stateReportReceive _ r => r.wf
  | .forwardedDatagram d => d.wf
  | .ethFrameReceive _ f => f.wf
  | .addressResolution l => l.all (fun e => e.1 < 2 && e.2.1 < 2 ^ 128 && e.2.2 < 2 ^ 48)
  | .caSample code => fitsI 24 code
  | .temperatureReading ts => ts.length == 12 && ts.all (fitsI 16)
  | .calPassComplete ms _ => distinct (ms.map (fun m => m.ch.val)) && ms.all CalMeas.wf
  | .mapperCopyReceive tick _ _ _ _ _ status fit => tick < 2 ^ 64 && status.length == 3 && fit.length == 3
  | .triggerWordReceive _ _ phase => decide (0 ≤ phase) && decide (phase < 1)
  | _ => true

end Sys2Proof
end

