-- ==== Sys2Proof/Tests/Slice0.lean ====
section
/-! SUPPORT. Tests: an ill-formed operand for each check of WellFormed, worked examples of the spec, and for each statement of
Certificates/Slice0/Obligations.lean that has hypotheses a state and operands that meet them. -/
namespace Sys2Proof.Tests
open Sys2Proof Sys2Proof.Machine

set_option Elab.async false

/-- A device in RUN with every domain on, its firmware serving, its sample clock locked. -/
def up : State := { State.reset with
  pwr := { State.reset.pwr with powerUp := false, good := true, rails := 5, dev := .run, on := BitVec.allOnes 96 },
  boot := { State.reset.boot with stage := 4 }, ske := { State.reset.ske with serving := true },
  tb := { State.reset.tb with locked := true } }

/-- Parts of a state changed. -/
def pwr' (f : Power → Power) (s : State := up) : State := { s with pwr := f s.pwr }
def boot' (f : Boot → Boot) (s : State := up) : State := { s with boot := f s.boot }
def tb' (f : TimeBase → TimeBase) (s : State := up) : State := { s with tb := f s.tb }
def ske' (f : Skeic → Skeic) (s : State := up) : State := { s with ske := f s.ske }
def jnl' (f : Journal → Journal) (s : State := up) : State := { s with jnl := f s.jnl }
def p' (f : ClassP → ClassP) (s : State := up) : State := { s with p := f s.p }
def isl' (f : Island → Island) (s : State := up) : State := { s with isl := f s.isl }
def mc' (f : Motion → Motion) (s : State := up) : State := { s with mc := f s.mc }
def seq' (f : Seq → Seq) (s : State := up) : State := { s with seq := f s.seq }
def kept' (f : Kept → Kept) (s : State := up) : State := { s with kept := f s.kept }
def enum' (f : Enum → Enum) (s : State := up) : State := { s with enum := f s.enum }
def hk' (f : Hk → Hk) (s : State := up) : State := { s with hk := f s.hk }
def cq' (f : Cq → Cq) (s : State := up) : State := { s with cq := f s.cq }
def cell' (f : Cell → Cell) (s : State := up) : State := s.setCell 0 f
def blk' (f : Block → Block) (s : State := up) : State := s.setBlk 0 f
def reg' (f : Region → Region) (s : State := up) : State := s.setReg 0 f

/-- A message with an opcode and payload words placed in mailbox 0, from a service session. -/
def msg (op : Nat) (ws : List Word := []) (s : State := up) : State :=
  ((s.setMws 0 0 [BitVec.ofNat 32 op, 0, pack [(1, 16), (ws.length, 10)]]).setMws 0 4 ws).setMbx 0
    (fun b => { b with st := 2, service := true })

/-- Every condition of a message's turn, computed. -/
def turnB (s : State) (m : Fin 64) (op : Nat) : Bool :=
  s.holds m op && (isQuery op || (!s.behind m && (!s.pwr.safe || op == 0x0107))) && (!serviceOnly op || (s.mbx m).service)

theorem turn_of {s : State} {m : Fin 64} {op : Nat} (h : turnB s m op = true) : s.turn m op := by
  unfold turnB at h
  unfold State.turn
  simp only [Bool.and_eq_true, Bool.or_eq_true, Bool.not_eq_true', beq_iff_eq] at h
  obtain ⟨⟨h1, h2⟩, h3⟩ := h
  refine ⟨h1, fun hq => ?_, fun hr => ?_⟩
  · obtain h2 | ⟨h4, h5⟩ := h2
    · simp [h2] at hq
    · exact ⟨h4, fun hs => by simpa [hs] using h5⟩
  · simpa [hr] using h3

theorem turnP_of {s : State} {m : Fin 64} {op : Nat} (h : (turnB s m op && s.jnl.txn.isNone) = true) : s.turnP m op := by
  simp only [Bool.and_eq_true] at h
  exact ⟨turn_of h.1, by simpa using h.2⟩

/-! ### Hypotheses of the statements can be met -/

theorem witness_BlockAndRegionRestartsRun :
    (up.dom 32 = true ∧ (up.reg 0).restart = false ∧ (up.reg 0).disabled = false ∧ up.pwr.safe = false ∧
      (up.blk 0).held = false ∧ (up.blk 0).starts.length < 3) ∧
    (let s := blk' (fun b => { b with starts := [3, 2, 1] })
     s.dom 32 = true ∧ (s.blk 0).held = false ∧
      3 ≤ ((s.blk 0).starts.filter (fun x => decide (s.tb.tick < x + 1600000000))).length) ∧
    ((blk' (fun b => { b with restart := true })).blk 0).restart = true ∧
    (up.dom 64 = true ∧ (up.reg 0).disabled = false ∧ up.pwr.safe = false ∧ (up.reg 0).restart = false ∧ (up.reg 0).fails = 0) ∧
    (let s := tb' (fun t => { t with tick := 1600007 }) (reg' (fun g => { g with resumed := some 7, fails := 1 }))
     s.dom 64 = true ∧ (s.reg 0).disabled = false ∧ s.pwr.safe = false ∧ (s.reg 0).restart = false ∧
      (s.reg 0).resumed = some 7 ∧ s.tb.tick ≤ 7 + 1600000 ∧ 1 ≤ (s.reg 0).fails) ∧
    (let s := reg' (fun g => { g with restart := true, fails := 1 })
     (s.reg 0).restart = true ∧ (s.reg 0).fails ≠ 0) := by decide +kernel

theorem witness_SafeStateIsEnteredAndRefusesChanges :
    let safe := pwr' (fun x => { x with safe := true, safeCause := 1 })
    let c := msg 0x0202 [] safe
    let r := msg 0x0107 [] safe
    let q := msg 0x0201 [] safe
    (c.pwr.safe = true ∧ cmdOp (.pwrStateSet 0) = some (0, 0x0202) ∧ c.holds 0 0x0202 = true ∧ isQuery 0x0202 = false ∧
      c.behind 0 = false) ∧
    (r.pwr.safe = true ∧ r.holds 0 0x0107 = true ∧ r.behind 0 = false) ∧
    (q.pwr.safe = true ∧ q.holds 0 0x0201 = true ∧ isQuery 0x0201 = true) := by decide +kernel

theorem witness_ChipFaultEntersSafeState :
    (up.pwr.safe = false ∧ up.pwr.alive = true ∧ up.pwr.good = true ∧ up.boot.phase ≠ 2 ∧ up.pwr.dev ≠ .off ∧ up.pwr.dev ≠ .sleep ∧
      up.pwr.dev ≠ .park ∧ up.isl.fault = false) ∧
    (pwr' (fun x => { x with safe := true })).pwr.safe = true := by decide +kernel

theorem witness_WarmResetsKeepWhatTheTableSays :
    (up.pwr.alive = true ∧ up.pwr.failing = false ∧ up.pwr.powerUp = false ∧ up.pwr.good = true ∧ up.pwr.dev ≠ .sleep ∧
      up.pwr.dev ≠ .off) ∧
    (let s := pwr' (fun x => { x with dev := .sleep })
     s.pwr.alive = true ∧ s.pwr.failing = false ∧ s.pwr.powerUp = false ∧ s.pwr.dev = .sleep) ∧
    (let s := pwr' (fun x => { x with dev := .off })
     s.pwr.alive = true ∧ s.pwr.failing = false ∧ s.pwr.powerUp = false ∧ s.pwr.dev = .off) ∧
    (let s := ske' (fun x => { x with resetDue := true })
     s.ske.resetDue = true ∧ s.pwr.good = true ∧ s.pwr.failing = false) ∧
    (let s := boot' (fun x => { x with phase := 1 })
     s.boot.phase = 1 ∧ s.inFrame = false ∧ s.cal.run.bind (·.part) = none ∧ Tab.sorted s.regions = true) ∧
    (let s : State := { boot' (fun x => { x with phase := 1 }) with cal := { up.cal with run := some { mbx := 0, left := [], part := some 7 } } }
     s.boot.phase = 1 ∧ s.cal.run.bind (·.part) = some 7 ∧ 7 < 8 ∧ (448 : Fin 512).val / 64 = 7) ∧
    (let s := boot' (fun x => { x with phase := 2 }) (pwr' (fun x => { x with dev := .park }))
     s.boot.phase = 2 ∧ s.pwr.alive = true ∧ s.pwr.good = true ∧ s.pwr.safe = false ∧ s.pwr.dev = .park) := by decide +kernel

theorem witness_BootAndWatchdogRun :
    (let s := boot' (fun x => { x with stage := 0 })
     s.pwr.good = true ∧ s.boot.phase = 0 ∧ s.pwr.failing = false ∧ s.boot.stage = 0 ∧ s.jnl.held.boot.trial = false) ∧
    (let s := jnl' (fun x => { x with held := { x.held with boot := { x.held.boot with trial := true, slot := 1 } } })
       (boot' (fun x => { x with stage := 0 }))
     s.boot.stage = 0 ∧ s.jnl.held.boot.trial = true ∧ s.jnl.readOnly = false) ∧
    (let s := boot' (fun x => { x with stage := 1 })
     s.pwr.good = true ∧ s.boot.phase = 0 ∧ s.pwr.failing = false ∧ s.boot.stage = 1 ∧ s.imageCheck s.boot.slot ≠ 0 ∧
      s.boot.second = false) ∧
    (let s := boot' (fun x => { x with stage := 1, slot := 1, second := true })
     s.pwr.good = true ∧ s.boot.stage = 1 ∧ s.imageCheck s.boot.slot ≠ 0 ∧ s.boot.second = true) ∧
    (boot' (fun x => { x with stage := 2 })).boot.stage = 2 ∧
    (let s := (pwr' (fun x => { x with dev := .park, on := 0 }) (boot' (fun x => { x with stage := 3 }))).writePar PWR_BOOT_STATE 1 0
     s.boot.stage = 3 ∧ s.val PWR_BOOT_STATE = 1 ∧ s.pwr.safe = false ∧ s.therm.st ≠ 3 ∧ s.pwr.dev = .park ∧
      s.dom 88 = false ∧ s.dom 90 = false ∧ s.pwr.leaving = 0) ∧
    ((boot' (fun x => { x with stage := 3 })).val PWR_BOOT_STATE ≠ 1) ∧
    (up.boot.stage = 4 ∧ up.boot.phase = 0 ∧ up.ske.resetDue = false ∧ up.pwr.dev ≠ .sleep ∧ up.pwr.dev ≠ .off ∧
      (up.boot.dogs.filter (fun x => decide (up.tb.tick < x + 16000000000))).length < 2 ∧ up.pwr.good = true ∧
      up.pwr.failing = false ∧ up.cal.run = none) ∧
    (ske' (fun x => { x with resetDue := true })).ske.resetDue = true ∧
    (let s := boot' (fun x => { x with dogMask := 1 }) (ske' (fun x => { x with serving := false }))
     s.ske.serving = false ∧ s.boot.stage = 4 ∧ s.boot.dogMask ≠ 0) := by decide +kernel

theorem witness_PowerCommandsComplete :
    (msg 0x0201).turn 0 0x0201 ∧ (msg 0x0204).turn 0 0x0204 ∧ (msg 0x0205).turn 0 0x0205 ∧
    ((msg 0x0202 [4]).turn 0 0x0202 ∧ ((msg 0x0202 [4]).mbx 0).wakeWait = false ∧ ((msg 0x0202 [4]).pw 0 0).toNat ≤ 4 ∧
      (msg 0x0202 [4]).pwr.dev = .run ∧ (msg 0x0202 [4]).pwr.trans = none ∧ (msg 0x0202 [4]).pwr.dev ≠ (msg 0x0202 [4]).allowed (devOf 4)) ∧
    ((msg 0x0202).turn 0 0x0202 ∧ (msg 0x0202).pwr.trans = none ∧ (msg 0x0202).pwr.dev = (msg 0x0202).allowed (devOf 0)) ∧
    (let s := msg 0x0202 [3] (pwr' (fun x => { x with dev := .park, on := 0 }))
     s.turn 0 0x0202 ∧ ((s.pw 0 0).toNat = 3 ∧ s.follower = false ∧ s.ch.mems = [] ∧ s.pwr.trans = none ∧
      s.pwr.dev ≠ s.allowed (devOf 3) ∧ s.pwr.dev = .park ∧ s.dom 88 = false ∧ s.dom 90 = false ∧ s.pwr.leaving = 0)) ∧
    (let s := msg 0x0202 [] (pwr' (fun x => { x with trans := some { next := .quiet, target := .park } }))
     s.turn 0 0x0202 ∧ s.pwr.trans.isSome = true) ∧
    (let s := msg 0x0203 [1, 0, 0, 1]
     let d := msg 0x0203 [0, 0, 0x100] (pwr' (fun x => { x with on := switchMask x.on 64 false }))
     let ds := (List.range 96).filter (fun n => (d.pw 0 (n / 32)).bit (n % 32))
     let ro := msg 0x0203 [1, 0, 0, 1] (jnl' (fun j => { j with readOnly := true }))
     let x : Txn := { seq := 1, subj := 2, recs := [.dom up.p.dom], left := 1, waiter := .domains 0 3 true 0 }
     let c := jnl' (fun j => { j with txn := some x })
     let k := pwr' (fun x => { x with dev := .park }) c
     (c.jnl.txn = some x ∧ x.left ≤ 1 ∧ x.recs = [.dom c.p.dom] ∧ c.jnl.log = [] ∧ c.pwr.dev = .run ∧ c.follower = false) ∧
     (k.jnl.txn = some x ∧ k.pwr.dev = .park) ∧
     s.turnP 0 0x0203 ∧ ((s.pw 0 3).fld 31 1 = 0 ∧ (s.pw 0 3).bit 0 = true ∧ s.jnl.readOnly = false) ∧
     ro.turnP 0 0x0203 ∧ ((ro.pw 0 3).fld 31 1 = 0 ∧ (ro.pw 0 3).bit 0 = true ∧ ro.jnl.readOnly = true) ∧
     d.turnP 0 0x0203 ∧ (d.pw 0 3).fld 31 1 = 0 ∧ ds.contains 84 = false ∧ ds.contains 72 = true ∧ d.dom 72 = true ∧
      (∀ r, r < 8 → ds.contains (72 + r) = true → d.dom (72 + r) = true →
        ((ds.filter (· < 72)).foldl (fun k n => switchMask k n ((d.pw 0 3).bit 0)) d.pwr.on).getLsbD (64 + r) = false)) := by
  refine ⟨turn_of ?_, turn_of ?_, turn_of ?_, ⟨turn_of ?_, ?_⟩, ⟨turn_of ?_, ?_⟩, ⟨turn_of ?_, ?_⟩, ⟨turn_of ?_, ?_⟩, ?_, ?_,
    turnP_of ?_, ?_, turnP_of ?_, ?_, turnP_of ?_, ?_⟩ <;> decide +kernel

/-- A datagram of given words from port A. -/
def gram (ws : List Word) : Arrival := { port := .a, src := {}, udp := 0, vid := 0, bytes := wordsBytes ws }

/-- A wake message: PWR_STATE_SET with sequence 1 toward PARK, and its trailer under a key. -/
def wakeGram (key : List Byte) : Arrival :=
  let ws : List Word := [0x0202, 1, pack [(0, 16), (1, 10)], 0, 2]
  gram (ws ++ trailer key ws)

/-- A parameter's working value put in place, in force at once. -/
def par' (p : Par) (v : Nat) (s : State := up) : State :=
  { s with p := { s.p with par := tset p.dflt s.p.par (parKey p.subj p.idx 0) v } }

set_option synthInstance.maxSize 1000 in
theorem witness_SupplyAndTransitionEventsRun :
    (pwr' (fun x => { x with alive := false })).pwr.alive = false ∧
    (let s := pwr' (fun x => { x with rails := 3 }) State.reset
     s.pwr.alive = true ∧ s.pwr.powerUp = true ∧ s.pwr.rails < 4) ∧
    (let s := pwr' (fun x => { x with rails := 4 }) State.reset
     s.pwr.alive = true ∧ s.pwr.powerUp = true ∧ s.pwr.rails = 4) ∧
    (up.pwr.alive = true ∧ up.pwr.failing = false ∧ up.isl.fault = false ∧ up.jnl.readOnly = false) ∧
    (pwr' (fun x => { x with failing := true })).pwr.failing = true ∧
    (up.pwr.safe = false ∧ up.pwr.alive = true ∧ up.pwr.good = true ∧ up.boot.phase ≠ 2 ∧ up.pwr.dev ≠ .off ∧
      up.tb.locked = true ∧ ¬ RefCountOk 0 ∧ RefCountOk 5000) ∧
    (up.dom 64 = true ∧ (up.reg 0).disabled = false ∧ up.pwr.safe = false ∧ (up.reg 0).restart = false ∧
      (up.reg 0).resumed = none) ∧
    (let s := pwr' (fun x => { x with falling := 3 })
     1 ≤ s.pwr.falling ∧ s.pwr.falling < 4) ∧
    (let x : Trans := { next := .quiet, target := .quiet }
     let s := pwr' (fun y => { y with trans := some x })
     s.pwr.trans = some x ∧ s.stepDone x = true ∧ s.pwr.wake = none ∧ x.next = x.target ∧ s.pwr.queue = []) ∧
    up.pwr.leaving = 0 ∧
    (let s := seq' (fun q => { q with shots := [{ idx := 0, frame := 0, fire := 0, fired := true }] }) (pwr' (fun y => { y with leaving := 1 }))
     s.pwr.leaving.getLsbD 90 = false ∧ s.seq.shots.any (fun x => x.fired && !x.placed) = true) ∧
    (let x : Trans := { next := .quiet, target := .park }
     let s := pwr' (fun y => { y with trans := some x })
     s.pwr.trans = some x ∧ s.stepDone x = true ∧ x.next ≠ x.target ∧ x.next ≠ .sleep ∧ x.next ≠ .off) ∧
    (let x : Trans := { next := .quiet, target := .quiet }
     let s := mc' (fun y => { y with okRun := 2500 }) (isl' (fun y => { y with released := true })
       (pwr' (fun y => { y with dev := .park, trans := some x })))
     s.pwr.trans = some x ∧ s.pwr.dev = .park ∧ x.next = .quiet ∧ s.isl.released = true ∧ s.seq.run = 0 ∧
      2500 ≤ s.mc.okRun) ∧
    (let s := pwr' (fun y => { y with on := (1 : BitVec 96) <<< 94, leaving := (1 : BitVec 96) <<< 5 })
     s.pwr.leaving.getLsbD (5 : Fin 96) = true ∧ s.dom (5 : Fin 96) = false ∧ s.seq.shots = []) ∧
    (let s := pwr' (fun y => { y with dev := .sleep, on := 0 })
     let d := wakeGram []
     s.pwr.dev = .sleep ∧ s.pwr.trans = none ∧ s.pwr.safe = false ∧ s.pwr.on = 0 ∧ s.pwr.leaving = 0 ∧ d.port.n = s.val PWR_WAKE_PORT ∧
      s.macOf d.port.n = s.macOf 0 ∧ (wd (bytesWords d.bytes) 0).fld 15 0 = 0x0202 ∧ (wd (bytesWords d.bytes) 4).fld 2 0 ≤ 2) ∧
    (let d := gram [0x0202, 1, 0, 0]
     let s := pwr' (fun y => { y with dev := .sleep, wake := some d })
     s.pwr.wake = some d ∧ s.wakeOk d = false) := by
  unfold RefCountOk
  and_intros <;> decide +kernel

theorem witness_wakeMessage :
    let d := wakeGram up.wakeKey
    let s := pwr' (fun y => { y with dev := .sleep, wake := some d })
    s.pwr.wake = some d ∧ s.wakeOk d = true ∧ headerOk (bytesWords d.bytes) = true ∧ (wd (bytesWords d.bytes) 0).fld 15 0 = 0x0202 ∧
      (s.mbx ((wd (bytesWords d.bytes) 0).fld 21 16)).st = 0 := by decide +kernel

/-- A wake message with a reserved header bit set, and its trailer. -/
theorem witness_wakeHostError :
    let ws : List Word := [0x0202, 1, pack [(0, 16), (1, 10), (0, 5), (1, 1)], 0, 2]
    let d := gram (ws ++ trailer up.wakeKey ws)
    let s := pwr' (fun y => { y with dev := .sleep, wake := some d })
    s.pwr.wake = some d ∧ s.wakeOk d = true ∧ headerOk (bytesWords d.bytes) = false ∧ (wd (bytesWords d.bytes) 0).fld 15 0 = 0x0202 ∧
      (s.mbx ((wd (bytesWords d.bytes) 0).fld 21 16)).st = 0 := by decide +kernel

theorem witness_sleepAndOff :
    (let x : Trans := { next := .sleep, target := .sleep }
     let s := pwr' (fun y => { y with trans := some x, offCommitted := true })
     s.pwr.trans = some x ∧ s.stepDone x = true ∧ s.pwr.queue = [] ∧ s.inFrame = false) ∧
    (let x : Trans := { next := .off, target := .off }
     let s := pwr' (fun y => { y with trans := some x, falling := 4 })
     s.pwr.trans = some x ∧ s.stepDone x = true ∧ s.pwr.queue = []) := by decide +kernel

theorem witness_DomainIsOnOnlyWhileItsParentIs : Parented 0 ∧ Parented (BitVec.allOnes 96) ∧ 95 < 96 := by
  unfold Parented
  decide +kernel

theorem witness_TimeBaseCommandsComplete :
    let fol := enum' (fun x => { x with addr := some 1, cond := false })
    let src2 := par' TB_SOURCE 2
    let src0 := par' TB_SOURCE 0
    ((msg 0x0301).turn 0 0x0301 ∧ (msg 0x0301).follower = false) ∧
    ((msg 0x0301 [] fol).turn 0 0x0301 ∧ (msg 0x0301 [] fol).follower = true) ∧
    (msg 0x0302).turn 0 0x0302 ∧
    ((msg 0x0303 [] fol).turn 0 0x0303 ∧ (msg 0x0303 [] fol).follower = true) ∧
    ((msg 0x0303 [] (tb' (fun x => { x with fit := some default }))).turn 0 0x0303 ∧
      (msg 0x0303 [] (tb' (fun x => { x with fit := some default }))).tb.fit = some default) ∧
    ((msg 0x0303).turn 0 0x0303 ∧ (msg 0x0303).follower = false ∧ (msg 0x0303).tb.fit = none) ∧
    ((msg 0x0304).turn 0 0x0304 ∧ (msg 0x0304).pw 0 2 = 0 ∧ (msg 0x0304).val TB_SOURCE = 1) ∧
    ((msg 0x0304 [] src2).turn 0 0x0304 ∧ (msg 0x0304 [] src2).follower = false ∧ (msg 0x0304 [] src2).val TB_SOURCE = 2) ∧
    ((msg 0x0304 [5] src0).turn 0 0x0304 ∧ (msg 0x0304 [5] src0).val TB_SOURCE = 0 ∧ (msg 0x0304 [5] src0).seq.run = 0 ∧
      (msg 0x0304 [5] src0).pw 0 0 = 5 ∧ (msg 0x0304 [5] src0).pw 0 1 = 0 ∧ (msg 0x0304 [5] src0).tb.copies = [] ∧
      (msg 0x0304 [5] src0).ch.down.st ≠ 2) ∧
    ((msg 0x0304 [] (seq' (fun x => { x with run := 1 }) src0)).turn 0 0x0304 ∧
      (msg 0x0304 [] (seq' (fun x => { x with run := 1 }) src0)).seq.run ≠ 0 ∧
      (msg 0x0304 [] (seq' (fun x => { x with run := 1 }) src0)).val TB_SOURCE = 0) := by
  refine ⟨⟨turn_of ?_, ?_⟩, ⟨turn_of ?_, ?_⟩, turn_of ?_, ⟨turn_of ?_, ?_⟩, ⟨turn_of ?_, ?_⟩, ⟨turn_of ?_, ?_⟩,
    ⟨turn_of ?_, ?_⟩, ⟨turn_of ?_, ?_⟩, ⟨turn_of ?_, ?_⟩, turn_of ?_, ?_⟩ <;> decide +kernel

/-- Both sides of the comparison with TB_STEP_NS: a time of 5 s steps, a time of 0 does not. -/
theorem witness_timeSetSteps :
    let s := msg 0x0304 [5] (par' TB_SOURCE 0)
    (s.val TB_STEP_NS : Rat) < (((5 : Nat) : Rat) * 1000000000 - s.tb.map.at s.fineNow).abs ∧
      (((0 : Nat) : Rat) * 1000000000 - s.tb.map.at s.fineNow).abs ≤ (s.val TB_STEP_NS : Rat) := by decide +kernel

theorem witness_ClockAndTimeSourceEventsRun :
    (let s := tb' (fun x => { x with locked := false })
     s.tb.locked = false ∧ 2 ≤ s.pwr.rails ∧ s.boot.phase ≠ 2 ∧ s.follower = false ∧ s.tb.isGm = false ∧
      s.work TB_GM_PRIORITY1 0 = 255) ∧
    (up.tb.locked = true ∧ up.dom 93 = true) ∧
    (let s := (tb' (fun x => { x with isGm := true })).setPort 0 (fun e => { e with up := true })
     s.tb.locked = true ∧ s.asOn Port.a.n = true ∧ (s.port Port.a.n).up = true ∧ s.follower = false ∧ s.tb.isGm = true ∧
      s.tb.fit = none ∧ (s.port 0).wire = none ∧ (s.port 0).ctl = [] ∧ (s.port 0).wait = []) ∧
    (let s := up.setAsp 0 (fun a => { a with reqAt := some (7, 1), respAt := some (7, 2, 3) })
     (s.asp 0).reqAt = some (7, 1) ∧ (s.asp 0).respAt = some (7, 2, 3)) ∧
    (let s := par' TB_SOURCE 2 (tb' (fun x => { x with ppsIn := some 3 }))
     s.tb.locked = true ∧ s.follower = false ∧ s.lag = [] ∧ s.plan.slew = 0 ∧ s.work TB_SOURCE 0 = 2 ∧ 4 ≤ s.work TB_FIT_COUNT 0 ∧
      s.tb.ppsIn = some 3 ∧ s.tb.state ≠ 2) ∧
    (par' TB_SOURCE 2).tb.ppsIn = none ∧
    (let f : Fit := { a := 0, b := 1600000000, base := 0, x0 := 0, msq := 0, n := 4 }
     let s := par' TB_SOURCE 2 (tb' (fun x => { x with ppsIn := some 3, state := 2, fit := some f }))
     s.tb.ppsIn = some 3 ∧ s.tb.state = 2 ∧ s.tb.fit = some f ∧ s.tb.bad < 3) ∧
    (up.val TB_PPS_OUT_WIDTH_US ≠ 0 ∧ up.tb.ppsLast = none ∧ up.ppsSecond.map (·.1) = some 0) ∧
    (let s := tb' (fun x => { x with tick := 1000 })
     s.val TB_PPS_OUT_WIDTH_US ≠ 0 ∧ s.ppsSecond = none) ∧
    (let s := par' TB_PPS_OUT_WIDTH_US 100 (tb' (fun x => { x with tick := 160000, ppsOut := true }))
     s.tb.ppsAt + 16 * usTicks (s.val TB_PPS_OUT_WIDTH_US) ≤ 16 * s.tb.tick) ∧
    (let s := par' TB_PPS_OUT_WIDTH_US 999990 (tb' (fun x => { x with tick := 1599990000, ppsOut := true, ppsLast := some 0, ppsAt := 10000000 }))
     let t := s.tb.map.at s.fineNow
     let next : Int := max ((t / 1000000000).floor + 1) (s.tb.ppsLast.getD 0 + 1)
     let edge : Rat := 16 * (s.tb.tick : Nat) + (next * 1000000000 - t) / (256 * s.tb.map.b) * 16
     edge ≤ (s.tb.ppsAt + 16 * usTicks (s.val TB_PPS_OUT_WIDTH_US) : Nat) ∧ edge ≤ (16 * s.tb.tick + 16 * usTicks 10 : Nat)) ∧
    (par' TB_PPS_OUT_WIDTH_US 0).val TB_PPS_OUT_WIDTH_US = 0 ∧
    (let s := tb' (fun x => { x with state := 1, tick := 1600000000000 })
     s.follower = false ∧ s.tb.locked = true ∧ s.val TB_SOURCE ≠ 0 ∧ (s.tb.state = 1 ∨ s.tb.state = 2) ∧
      s.tb.stampAt + usTicks (1000 * s.val TB_FIT_TIMEOUT_MS) ≤ s.tb.tick) := by
  and_intros <;> decide +kernel

/-- The clause of an edge more than 1 microsecond from the fit: the fit puts it at 0, the stamp says 3 s. -/
theorem witness_ppsEdgeAway :
    let f : Fit := { a := 0, b := 1600000000, base := 0, x0 := 0, msq := 0, n := 4 }
    let s := par' TB_SOURCE 2 (tb' (fun x => { x with ppsIn := some 3, state := 2, fit := some f }))
    let y : Rat := (s.tb.tick : Nat) - (s.valI TB_PPS_IN_DELAY_NS 0 : Rat) * (16 / 10)
    1000 < (f.time y - (((3 : Int) * 1000000000 : Int) : Rat)).abs := by decide +kernel

theorem witness_ppsOutIsNotYetDue :
    let s := tb' (fun x => { x with ppsLast := some 0 })
    s.tb.ppsLast = some 0 ∧ s.ppsSecond.map (·.1) = some 0 := by decide +kernel

theorem witness_MappedTimeIsContinuousAndIncreasing :
    let m : Mapper := {}
    let lead := tb' (fun t => { t with copies := [(t.tick + 5, m)] })
    0 < m.b ∧ m.ppb ≤ 50000 ∧ (0 : Rat) < 1 ∧ m.f0 + 256 * (0 : Nat) ≤ 0 ∧ (0 : Rat).abs ≤ (up.val TB_STEP_NS : Rat) ∧
      up.mapsHere ∧ lead.tb.tick < lead.mapEdge := by
  unfold State.mapsHere
  decide +kernel

theorem witness_FrontEndCommandsComplete :
    let r := msg 0x0401 [448 + 64 * 512]
    let b := msg 0x0404 [512 * 512]
    let q := msg 0x0405 [512 * 512]
    let bound := p' (fun x => { x with bind := [(0, { cls := 5, port := 1 })] })
    let c := msg 0x0408 [2 + 32, 0x800000, 0, 1, 0, 0x10000] bound
    let h : CqHeld := { e := { ch := 0, first := 0, frame := 0 }, num := 1, dest := 0 }
    let t0 : BiasTest := { mbx := 0, all := 3, cap := 2, dc := 3 }
    let held := cq' (fun x => { x with full := [h] }) (bound.setMem 0 (fun x => { x with st := 0 }))
    (r.turn 0 0x0401 ∧ (r.pw 0 0).fld 31 16 = 0 ∧ (r.pw 0 0).fld 15 9 ≤ 64 ∧ (r.pw 0 0).fld 8 0 + (r.pw 0 0).fld 15 9 ≤ 512) ∧
    (b.turn 0 0x0404 ∧ (b.pw 0 0).fld 31 19 = 0 ∧ (b.pw 0 0).fld 8 0 + (b.pw 0 0).fld 18 9 ≤ 512 ∧ b.biasTest = none ∧
      (b.pw 0 0).fld 18 9 ≠ 0) ∧
    (let s : State := cell' (fun x => { x with measuring := true }) { up with biasTest := some t0 }
     s.biasTest = some t0 ∧ (s.cell 0).measuring = true ∧ t0.all.getLsbD (0 : Fin 512) = true ∧
      t0.cap ||| chBit 0 = t0.all ∧ t0.dc = t0.all ∧ t0.early.getLsbD (0 : Fin 512) = false) ∧
    (q.turn 0 0x0405 ∧ (q.pw 0 0).fld 31 19 = 0 ∧ (q.pw 0 0).fld 8 0 + (q.pw 0 0).fld 18 9 ≤ 512) ∧
    ((msg 0x0406 [511]).turn 0 0x0406 ∧ ((msg 0x0406 [511]).pw 0 0).fld 31 9 = 0) ∧ (msg 0x0407).turnP 0 0x0407 ∧
    (c.turn 0 0x0408 ∧ (c.pw 0 0).fld 31 6 = 0 ∧ (c.pw 0 0).fld 4 0 = 2 ∧ (c.pw 0 1).fld 23 0 ≤ 8388608 ∧
      (c.pw 0 1).fld 23 0 ≠ 0 ∧ (c.pw 0 1).fld 31 24 = 0 ∧ (c.pw 0 2).fld 31 15 = 0 ∧
      (∀ i, i < 8 → (c.pw 0 (5 + i)).fld 15 9 = 0 ∧ (c.pw 0 (5 + i)).fld 31 25 = 0) ∧
      (c.cqChannels 0 2).Nodup ∧ c.bound 0 = true) ∧
    (msg 0x0409).turn 0 0x0409 ∧ (msg 0x040A).turn 0 0x040A ∧
    (let s := cq' (fun x => { x with st := 1, start := 0 })
     s.cq.st = 1 ∧ s.cq.start ≤ s.tb.tick) ∧
    up.cq.st ≠ 1 ∧
    (let s := cq' (fun x => { x with st := 2 })
     2 ≤ s.cq.st ∧ s.cq.full = [] ∧ (∀ x ∈ s.cq.chs, x.left = 0 ∨ s.muted x.ch = true ∨ s.blockUp (x.ch / 16) = false) ∧
      ∀ h ∈ s.cq.closing, s.muted h.e.ch = true ∨ s.blockUp (h.e.ch / 16) = false) ∧
    (up.cq.full = [] ∧ up.cq.closing = []) ∧
    (let o : CqHeld := { e := { ch := 1, first := 0, frame := 0 }, num := 0, dest := 0 }
     let s := cq' (fun x => { x with num := 1, full := [h], closing := [o] }) (up.setCell 1 (fun x => { x with mute := true }))
     let t := cq' (fun x => { x with num := 1, full := [h], closing := [o] })
     (s.cq.full = [h] ∧ h.num = s.cq.num ∧ s.cq.closing = [o] ∧ o.num ≠ s.cq.num ∧ s.muted o.e.ch = true) ∧
     (t.cq.full = [h] ∧ h.num = t.cq.num ∧ t.cq.closing = [o] ∧ t.muted o.e.ch = false ∧ t.blockUp (o.e.ch / 16) = true ∧
      o.num ≠ h.num)) ∧
    (let q : Cq := { held.cq with full := [] }
     let record := held.cqRecord h.e h.num (tget 0 held.cq.drops h.e.ch)
     held.cq.full = h :: [] ∧ held.cq.closing = [] ∧ held.portFree (h.e.ch / 64) = true ∧ held.stages record = true ∧
      (({ held with cq := q } : State).enqueue h.dest record).1 = true) := by
  refine ⟨⟨turn_of ?_, ?_⟩, ⟨turn_of ?_, ?_⟩, ?_, ⟨turn_of ?_, ?_⟩, ⟨turn_of ?_, ?_⟩, turnP_of ?_, ⟨turn_of ?_, ?_⟩, turn_of ?_,
    turn_of ?_, ?_⟩ <;> decide +kernel

theorem witness_CellEventsRun :
    (up.dom 0 = true ∧ up.dom (511 / 16) = true) ∧
    (let s := cell' (fun x => { x with settled := true, due := true })
     s.dom 0 = true ∧ (s.cell 0).settled = true ∧ (s.cell 0).due = true ∧ s.pendingRange 0 = none ∧
      s.biasPending 0 = false ∧ s.mayAct 0 = true ∧ s.longGap 0 = true ∧ s.biasTest = none) ∧
    (let s := cell' (fun x => { x with measuring := true })
     (s.cell 0).measuring = true ∧ s.biasTest = none) ∧
    up.val FE_BIAS_TEST_INTERVAL_MS ≠ 0 ∧
    (let x := (cell' (fun x => { x with runA := 4096, seenB := [(1, 0), (2, 0), (3, 0), (4, 0)], codeA := 1, codeB := 1 })).cell 0
     4096 ≤ x.runA ∧ 4 ≤ (x.seenB.filter (fun e => decide (up.tb.tick ≤ e.2 + 8192))).length ∧ ¬ (x.codeA = x.codeB ∧ (x.codeA = 0 ∨ x.codeA = 1023))) ∧
    (let x := (cell' (fun x => { x with codeA := 1023, codeB := 1023 })).cell 0
     x.codeA = x.codeB ∧ x.codeA = 1023) ∧
    (par' FE_INTERLEAVE_TRACK 0).val FE_INTERLEAVE_TRACK = 0 ∧ up.val FE_INTERLEAVE_TRACK ≠ 0 ∧
    (-512 ≤ (up.cell 0).offA ∧ (up.cell 0).offA ≤ 512) ∧
    (let x := (cell' (fun x => { x with conv := true, skew := 240 })).cell 0
     x.conv = true ∧ x.skew = 240) ∧
    (up.cell 0).conv = false ∧ (up.cell 0).recover ≤ up.tb.tick ∧
    (let s := seq' (fun x => { x with shots := [{ idx := 0, frame := 0, fire := 0, fired := true, win := 64, part := 1, opened := 1 }] })
     s.permitted 0 = false) ∧
    (let s := cell' (fun x => { x with target := some true })
     s.permitted 0 = true ∧ s.pendingRange 0 = some true ∧ s.mayAct 0 = true ∧ s.calibrating 0 = false ∧
      tfind s.ready (parKey 4 0 0) = none) ∧
    (up.permitted 0 = true ∧ up.pendingRange 0 = none ∧ up.calibrating 0 = false) ∧
    (let s : State := { up with cal := { up.cal with run := some { mbx := 0, left := [], part := some 0 } } }
     s.permitted 0 = true ∧ s.calibrating 0 = true) ∧
    ((cell' (fun x => { x with changing := true })).cell 0).changing = true ∧
    (let s := up.writePar FE_INPUT_BIAS_MV 900 0
     s.permitted 0 = true ∧ s.biasPending 0 = true ∧ s.pendingRange 0 = none ∧ s.mayAct 0 = true ∧ s.longGap 0 = true) := by decide +kernel

theorem witness_GainRangeIsDecidedAtWindowClose :
    let x : Shot := { idx := 0, frame := 0, fire := 0, fired := true, win := 64, part := 1, opened := 1, sats := 1 }
    let y : Shot := { x with sats := 0, peaks := [(0, 236)] }
    let at' (z : Shot) (f : Cell → Cell) : State :=
      cell' f (seq' (fun q => { q with shots := [z] }) (tb' (fun t => { t with tick := 64 })))
    (let s := at' x id
     s.shot 0 = some x ∧ x.opensOn 0 = true ∧ x.winEnd ≤ s.tb.tick ∧ x.closed.getLsbD 0 = false ∧
      s.cur FE_GAIN_MODE 0 = 0 ∧ (s.cell 0).low = false ∧ x.sats.getLsbD 0 = true ∧ y.sats.getLsbD 0 = false) ∧
    (let s := at' y (fun c => { c with low := true, quiet := 15 })
     s.shot 0 = some y ∧ y.opensOn 0 = true ∧ y.winEnd ≤ s.tb.tick ∧ (s.cell 0).low = true ∧ tget 0 y.peaks 0 = 236 ∧
      0 < s.val FE_GAIN_UP_WINDOWS) ∧
    (let s := at' x (fun c => { c with low := true, quiet := 15 })
     s.val FE_GAIN_UP_WINDOWS ≤ (s.cell 0).quiet + 1 ∧ tget 0 x.peaks 0 < 236) ∧
    (up.writePar FE_GAIN_MODE 1 0).cur FE_GAIN_MODE 0 = 0 ∧ (par' FE_GAIN_MODE 1).cur FE_GAIN_MODE 0 ≠ 0 ∧
    (tfind up.lag (parKey 4 0 0) = none ∧ (up.cell 0).back = none) ∧
    (let s := up.writePar FE_GAIN_MODE 1 0
     tfind s.lag (parKey 4 0 0) = some 0 ∧ s.work FE_GAIN_MODE 0 = 1) ∧
    (let s := up.writePar FE_GAIN_MODE 2 0
     tfind s.lag (parKey 4 0 0) = some 0 ∧ s.work FE_GAIN_MODE 0 = 2) := by decide +kernel

/-! Parts for the detection chain: a detection, a shot that took channels 0 and 1, a return. -/
def det0 : Det :=
  { nd := 10, tsq := 0, v := 0, low := false, peak := 9, peakAt := 11, ys := [9], ysAt := 10, span := 1, closed := true }
def shot0 : Shot := { idx := 0, frame := 0, fire := 0, fired := true, win := 64, part := 3, opened := 3 }
def ret0 : Ret := { shot := 0, idx := 0, frame := 0, ch := 0, nd := 10, fin := 0 }
/-- A state at a tick with one shot. -/
def shot' (x : Shot) (tick : Nat := 1000) (s : State := up) : State :=
  seq' (fun q => { q with shots := [x] }) (tb' (fun t => { t with tick := tick }) s)
/-- The same with pulse detections in channel 0. -/
def dets' (ds : List Det) (x : Shot := shot0) (s : State := up) : State := cell' (fun c => { c with dets := ds }) (shot' x 1000 s)
/-- Returns waiting in block 0. -/
def rets' (rs : List Ret) (x : Shot := shot0) (s : State := up) : State :=
  blk' (fun b => { b with rets := rs }) (shot' x 1000 s)

theorem witness_DetectionCommandsComplete :
    let a := msg 0x0501 [448 + 64 * 512]
    let b := msg 0x0504 [12 * 524288 + 512 * 512, 0x10000, 0, 0, 0, 0, 0]
    let b1 := msg 0x0504 [1 * 524288 + 512, 0x1000, 0, 0, 0, 0, 0]
    let c := msg 0x0506 [32 * 32 + 2 * 2048, 0x00020001]
    let t6 := msg 0x0508 [6 * 512, 0, 0]
    let t7 := msg 0x0508 [511 + 7 * 512, 0x10000]
    (a.turn 0 0x0501 ∧ (a.pw 0 0).fld 31 16 = 0 ∧ (a.pw 0 0).fld 15 9 ≤ 64 ∧ (a.pw 0 0).fld 8 0 + (a.pw 0 0).fld 15 9 ≤ 512) ∧
    (b.turnP 0 0x0504 ∧ (b.pw 0 0).fld 31 24 = 0 ∧ (b.pw 0 0).fld 22 19 = 12 ∧ (b.pw 0 0).fld 8 0 + (b.pw 0 0).fld 18 9 ≤ 512) ∧
    (b1.turnP 0 0x0504 ∧ (b1.pw 0 0).fld 31 24 = 0 ∧ (b1.pw 0 0).fld 22 19 = 1 ∧
      ∀ i, i < 11 → entry ((span 1 6).map (b1.pw 0)) (1 + i) = 0) ∧
    ((msg 0x0505).turn 0 0x0505 ∧ ((msg 0x0505).pw 0 0).fld 31 9 = 0) ∧
    (c.turnP 0 0x0506 ∧ (c.pw 0 0).fld 31 18 = 0 ∧ (c.pw 0 0).fld 4 0 + (c.pw 0 0).fld 10 5 ≤ 32 ∧
      (c.pw 0 1).fld 15 0 &&& (c.pw 0 1).fld 31 16 = 0) ∧
    ((msg 0x0507).turn 0 0x0507 ∧ ((msg 0x0507).pw 0 0).fld 31 9 = 0) ∧
    (t6.turnP 0 0x0508 ∧ (t6.pw 0 0).fld 31 12 = 0 ∧ (t6.pw 0 0).fld 11 9 = 6 ∧ (wd ((span 1 (tableLen 6)).map (t6.pw 0)) 1).fld 31 16 = 0) ∧
    (t7.turnP 0 0x0508 ∧ (t7.pw 0 0).fld 31 12 = 0 ∧ (t7.pw 0 0).fld 11 9 = 7 ∧
      (wd ((span 1 (tableLen 7)).map (t7.pw 0)) 0).fld 31 16 ≠ 0) ∧
    ((msg 0x0509 [0xFFF]).turn 0 0x0509 ∧ ((msg 0x0509 [0xFFF]).pw 0 0).fld 31 12 = 0) := by
  refine ⟨⟨turn_of ?_, ?_⟩, ⟨turnP_of ?_, ?_⟩, ⟨turnP_of ?_, ?_⟩, ⟨turn_of ?_, ?_⟩, ⟨turnP_of ?_, ?_⟩, ⟨turn_of ?_, ?_⟩,
    ⟨turnP_of ?_, ?_⟩, ⟨turnP_of ?_, ?_⟩, turn_of ?_, ?_⟩ <;> decide +kernel

theorem witness_SampleTickAndCellEventsRun :
    let k : TrkSet := { floor := 1, bl := 6, clip := 3, noise := 9 }
    let t : Trk := { b := 4, ms := 1, v := 0, hold := none }
    let x : Cell := { lo := some t, hi := some t }
    let h : Smp := { n := 0, code := 1, sat := false, sv := 0, ex := false, b := 0 }
    up.tb.locked = true ∧
    (x.trk = some t ∧ t.held 5 = false ∧ x.inDet 5 = false ∧
      (((4 * 1 : Nat) : Rat) - t.b) * (((4 * 1 : Nat) : Rat) - t.b) ≤ (k.clip * k.clip : Nat) * t.ms) ∧
    (let x := { x with hist := [h, h] }
     x.trk = some t ∧ t.held 5 = false ∧ (x.hist.take 2).length = 2 ∧ ∀ m ∈ x.hist.take 2, m.ex = false) ∧
    (let s := cell' (fun c => { c with det := some det0 }) (tb' (fun t => { t with tick := 74 }))
     (s.cell 0).det = some det0 ∧ det0.nd + 64 ≤ s.tb.tick) ∧
    (let s := cell' (fun c => { c with override := some 7, hi := some t })
     (s.cell 0).override = some 7 ∧ (s.cell 0).trk = some t ∧ t.hold = none) ∧
    (let t := { t with hold := some 0 }
     let s := cell' (fun c => { c with hi := some t }) (tb' (fun t => { t with tick := 2049 }))
     (s.cell 0).trk = some t ∧ t.hold = some 0 ∧ 0 + 2048 < s.tb.tick) ∧
    (let s := cell' (fun c => { c with firstUsed := some 0, blind := true }) (tb' (fun t => { t with tick := 2049 }))
     (s.cell 0).firstUsed = some 0 ∧ 0 + 2048 < s.tb.tick ∧ (up.cell 0).firstUsed = none) ∧
    (let s := cell' (fun c => { c with firstUsed := some 0, blind := true }) (tb' (fun t => { t with tick := 2048 }))
     (s.cell 0).firstUsed = some 0 ∧ s.tb.tick ≤ 0 + 2048) ∧
    (let s := cell' (fun c => { c with cmpArmed := false })
     s.blockWorks (0 / 16) = true ∧ (s.cell 0).changing = false ∧ (s.cell 0).cmpArmed = false ∧
      min (s.cell 0).capA (s.cell 0).capB ≤ s.tb.tick) ∧
    (up.blockWorks (0 / 16) = true ∧ (up.cell 0).changing = false ∧ (up.cell 0).cmpArmed = true ∧
      min (up.cell 0).capA (up.cell 0).capB ≤ up.tb.tick) ∧
    (let s := cell' (fun c => { c with capA := 1, capB := 1 })
     s.blockWorks (0 / 16) = true ∧ (s.cell 0).changing = false ∧ (s.cell 0).cmpArmed = true ∧ s.tb.tick < min (s.cell 0).capA (s.cell 0).capB) ∧
    65536 ≤ ((cell' (fun c => { c with stampN := 65536 })).cell 0).stampN ∧
    (let s := cell' (fun c => { c with old := some Coef.builtIn, j := 64 })
     (s.cell 0).old.isSome = true ∧ 64 ≤ (s.cell 0).j) := by decide +kernel

theorem witness_ReturnsFlowFromCellToRegion :
    let ready (s : State) : Bool := (s.cell 0).dets.find? (fun d => !d.done) == some det0 && s.correlable 0 det0.nd &&
      !det0.masked
    (let s := dets' [det0]
     let mine := (s.cands 0).filter (fun x => (x.2.headD default).nd == det0.nd)
     ready s = true ∧ mine.find? (fun x => !(s.cands 0).any (fun y => y.1 ≠ x.1 && shares x.2 y.2)) = some (0, [det0]) ∧
       s.shot 0 = some shot0) ∧
    (let s := dets' [det0] (x := { shot0 with part := 2 })
     ready s = true ∧ (s.cands 0).filter (fun x => (x.2.headD default).nd == det0.nd) = []) ∧
    (let sh := { shot0 with slots := [(0, 4)] }
     shot' sh |>.shot 0 |>.isSome) ∧
    up.regionWorks 0 = true ∧
    (let s := (reg' (fun g => { g with rrLeft := 1 })).setBlk 0 (fun b => { b with out := [ret0] })
     s.weight 0 ≠ 0 ∧ (s.reg 0).rrLeft ≠ 0 ∧ (s.blk (4 * 0 + (s.reg 0).rr)).out = [ret0]) ∧
    (let s := up.setBlk 3 (fun b => { b with out := [ret0] })
     (s.reg 0).rrLeft = 0 ∧ (∀ e, e < 2 → (s.blk (4 * 0 + ((s.reg 0).rr + 1 + e) % 4)).out = []) ∧
      s.weight (4 * 0 + ((s.reg 0).rr + 1 + 2) % 4) ≠ 0 ∧ (s.blk (4 * 0 + ((s.reg 0).rr + 1 + 2) % 4)).out = [ret0]) ∧
    (let s := rets' [{ ret0 with tested := true, passed := true }]
     (∀ e, e < 0 → ∀ x ∈ (s.blk 0).rets, x.passed = true → x.ch % 16 ≠ ((s.blk 0).last + 1 + e) % 16) ∧
      (s.blk 0).rets.find? (fun x => x.passed && x.ch % 16 == ((s.blk 0).last + 1 + 0) % 16) =
        some { ret0 with tested := true, passed := true }) ∧
    (let s := shot' shot0
     s.shot 0 = some shot0 ∧ shot0.took 0 = true ∧ s.valFor shot0 DET_ECHO_POLICY 0 = 0) ∧
    (let s := par' DET_ECHO_POLICY 1 (shot' shot0)
     s.shot 0 = some shot0 ∧ shot0.took 0 = true ∧ s.valFor shot0 DET_ECHO_POLICY 0 ≠ 0 ∧ shot0.searchEnd ≤ s.tb.tick ∧
       s.slotsReady 0 shot0 = true) := by decide +kernel

/-- The coincidence test's clauses: a pattern that rejects, a channel with four echoes already, and a return that passes. -/
theorem witness_coincidenceTest :
    let ready (s : State) (sh : Shot) : Bool := (s.blk 0).rets.filter (fun r => !r.tested && (match s.shot r.shot with
        | some sh => decide (r.born + s.valFor sh DET_COINC_WINDOW_TK 0 + 2 ≤ s.tb.tick)
        | none => true)) == [ret0] && s.shot ret0.shot == some sh && ret0.ch / 16 == 0
    let full := { shot0 with slots := [(0, 4)] }
    let bad : State := { rets' [ret0] with coincNow := [(0, [pack [(0, 5), (1, 6), (0, 4), (3, 3)], 0x00000001])] }
    (ready (rets' [ret0] full) full = true ∧ (rets' [ret0] full).coincides full ret0 = true ∧
      (rets' [ret0] full).valFor full DET_ECHO_POLICY 0 = 0 ∧ 4 ≤ tget 0 full.slots ret0.ch) ∧
    (ready (rets' [ret0]) shot0 = true ∧ (rets' [ret0]).coincides shot0 ret0 = true ∧
      (rets' [ret0]).valFor shot0 DET_ECHO_POLICY 0 = 0 ∧ tget 0 shot0.slots ret0.ch < 4 ∧ shot0.lad = 0 ∧
      (((rets' [ret0]).blk 0).rets.filter (fun x => x.ch == ret0.ch && x.passed)).length < 8) ∧
    (ready bad shot0 = true ∧ bad.coincides shot0 ret0 = false) := by decide +kernel

theorem witness_coincidenceTestOrder (r : Ret) : [r].mergeSort (fun x y => x.nd ≤ y.nd) = r :: [] := List.mergeSort_singleton r

/-! Chapter 06. -/
/-- A bank of entries 2,000 tk apart, the n-th with a fourth word and the code number 0 of two sub-pulses. -/
def bankOf (w3 : List Nat) : Bank :=
  { w := [(0, BitVec.ofNat 32 w3.length), (1, 100000), (2, 12)] ++
      w3.zipIdx.flatMap (fun e => [(2 ^ 20 + 4 * e.2, BitVec.ofNat 32 (2000 * e.2)), (2 ^ 20 + 4 * e.2 + 1, 0x80), (2 ^ 20 + 4 * e.2 + 2, 8),
        (2 ^ 20 + 4 * e.2 + 3, BitVec.ofNat 32 e.1)]) ++ [(3 * 2 ^ 20, 0x0802)]
    image := true }
/-- Bank 0 holding one entry, its image valid. -/
def bank1' (s : State := up) : State := kept' (fun k => { k with bank0 := bankOf [0] }) s
/-- The sequencer running in a frame that ends at a tick, a latch taken for the next. -/
def running' (bound : Nat) (latch : List Latch) (s : State := up) : State :=
  seq' (fun q => { q with run := 1, bound := bound, latch := latch, rdNext := 1, frames := [{ seq := 0, start := 0, bank := 0 }] }) s

theorem witness_ShotSequencerCommandsComplete :
    let st := msg 0x0601
    let w := msg 0x0604 [1 + 786431 * 256, 1, 7 * 256]
    let arm := msg 0x0605
    let dis := msg 0x0606
    let disL := msg 0x0606 [] (running' 100 [{ seq := 1, start := 100, bank := 0, run := true }])
    let disS := msg 0x0606 [] (seq' (fun q => { q with run := 2 }) (running' 100 []))
    let start := msg 0x0607
    let start1 := msg 0x0607 [1, 5000, 0] (bank1' (enum' (fun e => { e with cond := true }) up))
    let stop := msg 0x0608
    let stop0 := msg 0x0608 [] (running' 100 [])
    let stop1 := msg 0x0608 [1] (running' 100 [])
    let get := msg 0x0609
    let set2 := msg 0x060A [2 * 8 + 7]
    let set1 := msg 0x060A [0] (shot' { shot0 with fired := false, blanked := true } 1000
      (p' (fun p => { p with strings := [(0, (3, 3, 0))] })))
    let set0 := msg 0x060A [0xFFFF0000 + 8]
    let run := msg 0x060B [1]
    let runD := msg 0x060B [1] (p' (fun p => { p with strings := [(0, (3, 3, 0))] }))
    st.turn 0 0x0601 ∧
    (w.turn 0 0x0604 ∧ (w.pw 0 0).fld 7 3 = 0 ∧ (w.pw 0 1).fld 31 10 = 0 ∧ (w.pw 0 0).fld 2 0 = 1 ∧ (w.pw 0 1).fld 9 0 = 1 ∧
      (w.pw 0 0).fld 31 8 + (w.pw 0 1).fld 9 0 = sectionWords 1 ∧
      (∀ i, i < 1 → bankReserved 1 (786431 + i) (w.pw 0 (2 + i)) = true) ∧ w.seq.check = none) ∧
    (arm.turn 0 0x0605 ∧ arm.seq.check = none) ∧
    (seq' (fun q => { q with check := some (3, 1) })).seq.check = some (3, 1) ∧
    (dis.turn 0 0x0606 ∧ dis.seq.check = none ∧ dis.seq.latch = [] ∧ dis.seq.run ≠ 2) ∧
    (disL.turn 0 0x0606 ∧ disL.seq.check = none ∧ disL.seq.latch ≠ []) ∧
    (disS.turn 0 0x0606 ∧ disS.seq.check = none ∧ disS.seq.run = 2 ∧ disS.seq.bound ≤ disS.tb.tick + 4096) ∧
    (start.turn 0 0x0607 ∧ (start.pw 0 0).fld 31 1 = 0 ∧ start.seq.check = none ∧ start.ch.measuring = none ∧
      start.kept.armed = false ∧ (start.bank start.kept.active).image = false) ∧
    (start1.turn 0 0x0607 ∧ (start1.pw 0 0).fld 31 1 = 0 ∧ start1.seq.check = none ∧ start1.ch.measuring = none ∧ start1.seq.run = 0 ∧
      start1.dom 90 = true ∧ start1.pwr.settling.getLsbD 90 = false ∧ start1.tb.locked = true ∧ start1.enum.cond = true ∧
      (start1.bank start1.kept.active).image = true ∧
      (start1.bank start1.bankNext).headerOk = true) ∧
    (stop.turn 0 0x0608 ∧ (stop.pw 0 0).fld 31 1 = 0 ∧ stop.seq.check = none ∧ stop.seq.run = 0) ∧
    (stop0.turn 0 0x0608 ∧ (stop0.pw 0 0).fld 31 1 = 0 ∧ stop0.seq.check = none ∧ stop0.seq.run ≠ 0 ∧
      (stop0.pw 0 0).bit 0 = false) ∧
    (stop1.turn 0 0x0608 ∧ (stop1.pw 0 0).fld 31 1 = 0 ∧ stop1.seq.check = none ∧ stop1.inFrame = true ∧
      (stop1.pw 0 0).bit 0 = true) ∧
    (get.turn 0 0x0609 ∧ (get.pw 0 0).fld 31 3 = 0) ∧
    (set2.turnP 0 0x060A ∧ (set2.pw 0 0).fld 15 5 = 0 ∧ (set2.pw 0 0).fld 4 3 = 2 ∧ set2.seq.check = none) ∧
    (set1.turnP 0 0x060A ∧ (set1.pw 0 0).fld 15 5 = 0 ∧ (set1.pw 0 0).fld 4 3 = 0 ∧ set1.seq.check = none ∧ (set1.string 0) = (3, 3, 0) ∧
      set1.seq.shots = [{ shot0 with fired := false, blanked := true }]) ∧
    (set0.turnP 0 0x060A ∧ (set0.pw 0 0).fld 15 5 = 0 ∧ (set0.pw 0 0).fld 4 3 = 1 ∧ set0.seq.check = none ∧
      (set0.string 0).1 ≠ 2 ∧ set0.seq.proofRun = []) ∧
    (run.turn 0 0x060B ∧ (run.pw 0 0).fld 31 8 = 0 ∧ run.seq.check = none ∧ (run.pw 0 0).bit 0 = true ∧ (run.string 0).1 ≠ 3) ∧
    (runD.turn 0 0x060B ∧ (runD.pw 0 0).fld 31 8 = 0 ∧ runD.seq.check = none ∧
      (∀ k, k < 8 → (runD.pw 0 0).bit k = true → (runD.string k).1 = 3)) ∧
    (seq' (fun q => { q with proofRun := [(3, 2, 1)] })).seq.proofRun = [(3, 2, 1)] := by
  refine ⟨turn_of ?_, ⟨turn_of ?_, ?_⟩, ⟨turn_of ?_, ?_⟩, ?_, ⟨turn_of ?_, ?_⟩, ⟨turn_of ?_, ?_⟩, ⟨turn_of ?_, ?_⟩,
    ⟨turn_of ?_, ?_⟩, ⟨turn_of ?_, ?_⟩, ⟨turn_of ?_, ?_⟩, ⟨turn_of ?_, ?_⟩, ⟨turn_of ?_, ?_⟩, ⟨turn_of ?_, ?_⟩, ⟨turnP_of ?_, ?_⟩,
    ⟨turnP_of ?_, ?_⟩, ⟨turnP_of ?_, ?_⟩, ⟨turn_of ?_, ?_⟩, ⟨turn_of ?_, ?_⟩, ?_⟩ <;> decide +kernel

set_option synthInstance.maxSize 1000 in
theorem witness_FramesRunFromTheLatchedBank :
    let l1 : Latch := { seq := 1, start := 100, bank := 1, swap := true, run := true }
    let l2 : Latch := { seq := 2, start := 4196, bank := 1, run := true }
    (let s := bank1' (running' 4096 [])
     s.follower = false ∧ s.seq.run = 1 ∧ s.seq.latch = [] ∧ s.seq.first = none ∧ s.nextFrame.2 ≤ s.tb.tick + 4096 ∧
      (s.bank s.bankNext).headerOk = true) ∧
    (let s := running' 5000 []
     s.follower = false ∧ s.seq.run = 1 ∧ s.tb.tick + 4096 < s.nextFrame.2) ∧
    (let s := running' 4096 []
     s.nextFrame.2 ≤ s.tb.tick + 4096 ∧ (s.bank s.bankNext).headerOk = false) ∧
    (let s := running' 100 ([l1] ++ [l2])
     s.seq.latch = [l1] ++ [l2] ∧ s.follower = false ∧ s.seq.run = 1) ∧
    (up.work REJ_GROUP_SHOTS 0 = 0 ∨ up.work REJ_GROUP_MIN 0 ≤ up.work REJ_GROUP_SHOTS 0) ∧
    (let s := seq' (fun q => { q with first := some 0 }) (running' 0 [l1])
     s.seq.latch = l1 :: [] ∧ s.seq.first = some 0 ∧ s.seq.run = 1 ∧ 0 ≤ s.tb.tick) ∧
    (let s := running' 0 [l1, l2]
     s.seq.latch = l1 :: [l2] ∧ l1.swap = true ∧ s.inFrame = true ∧ s.seq.bound ≤ s.tb.tick ∧ s.seq.run = 1) ∧
    (let s := running' 0 [l2]
     s.seq.latch = l2 :: [] ∧ l2.swap = false ∧ s.seq.disarmAt = false ∧ s.inFrame = true ∧ s.seq.bound ≤ s.tb.tick ∧ s.seq.run = 1) ∧
    (let s := seq' (fun q => { q with run := 2 }) (running' 0 [])
     s.seq.latch = [] ∧ s.inFrame = true ∧ s.seq.bound ≤ s.tb.tick ∧ s.seq.run = 2) ∧
    (let s := seq' (fun q => { q with run := 2, first := some 0, frames := [] }) (running' 0 [])
     s.seq.first = some 0 ∧ 0 ≤ s.tb.tick ∧ s.seq.run = 2) ∧
    (shot0.angles = none ∧ (shot' shot0).seq.shots.find? (fun x => x.fired && !x.recorded) = some shot0) ∧
    (let x := { shot0 with angles := some (0, 0, 0, true) }
     (shot' x).seq.shots.find? (fun x => x.fired && !x.recorded) = some x ∧ x.angles.isSome = true) ∧
    (let f : Frame := { seq := 0, start := 0, bank := 0, ovr := true }
     let x := { shot0 with placed := true, recorded := true }
     let s := seq' (fun q => { q with frames := [f] }) (shot' x)
     s.seq.frames = f :: [] ∧ f.ovr = true ∧
      ∀ x ∈ s.seq.shots, x.frame = f.seq → x.fired = true ∧ x.placed = true ∧ x.recorded = true) := by
  and_intros <;> decide +kernel

set_option synthInstance.maxSize 1000 in
theorem witness_RateScaleRunsAndDropsEntries :
    (let s := bank1' (running' 100 [])
     let s := seq' (fun q => { q with rdNext := 0, rdAcc := 0, rdS := 256 }) s
     let x := (s.bank 0).shot 0 0 0 256 false
     s.nextEntry = some (0, 0, 0, 0, 256, false, 0) ∧ x.diag = false ∧ 256 ≤ 0 + 256 ∧ (s.bank 0).entryOk 0 = true ∧
      s.spaced x = true ∧ s.flightOk 0 x = true) ∧
    (let s := kept' (fun k => { k with bank0 := bankOf [0, 0, 0] })
       (seq' (fun q => { q with rdNext := 1, rdAcc := 100, rdS := 64 }) (running' 100 []))
     let x := (s.bank 0).shot 1 0 0 64 false
     s.nextEntry = some (0, 1, 0, 0, 64, false, 100) ∧ s.seq.rdNext ≠ 0 ∧ 100 + 64 < 256 ∧ x.diag = false ∧
      (s.bank 0).entryOk 1 = true ∧ s.spaced x = true) ∧
    (let s := kept' (fun k => { k with bank0 := { w := [(0, 1)], image := true } })
       (seq' (fun q => { q with rdNext := 0 }) (running' 100 []))
     s.nextEntry = some (0, 0, 0, 0, 256, false, 0) ∧ (s.bank 0).entryOk 0 = false) ∧
    (let s := kept' (fun k => { k with bank0 := bankOf [0, 4] })
       (seq' (fun q => { q with rdNext := 1 }) (running' 100 []))
     let x := (s.bank 0).shot 1 0 0 256 false
     s.nextEntry = some (0, 1, 0, 0, 256, false, 0) ∧ x.diag = true ∧ (s.bank 0).entryOk 1 = true ∧ s.spaced x = true ∧
      s.flightOk 0 x = true) ∧
    (let s := bank1' (running' 100 [{ seq := 1, start := 100, bank := 0, run := true }])
     s.nextEntry = some (0, 0, 1, 100, 256, true, 0) ∧ s.seq.rdNext ≠ 0) ∧
    up.nextEntry = none := by
  and_intros <;> decide +kernel

theorem witness_ShotsFireOrRunDark :
    let x : Shot := { idx := 0, frame := 0, fire := 5, run := true }
    let at' (x : Shot) : State := enum' (fun e => { e with cond := true }) (seq' (fun q => { q with inhibit := false }) (shot' x))
    ((at' x).nextShot = some x ∧ x.blanked = false) ∧
    (let y := { x with blanked := true }
     let s := at' y
     s.nextShot = some y ∧ y.blanked = true ∧ y.shifted = false ∧ s.emits y = true ∧ s.seq.lastPat ≠ some (y.string, y.applied) ∧
      s.shot y.fire = some y ∧ y.fire ≤ s.tb.tick ∧ y.proof = none ∧ s.enum.cond = true ∧ s.follower = false ∧ s.live y = true ∧
      s.darkCause y = 0 ∧ y.hot = false ∧ y.hist = false ∧ s.gapOk y = true) ∧
    (let y := { x with blanked := true, diag := false }
     let s := seq' (fun q => { q with lastPat := some (0, 0) }) (at' y)
     s.nextShot = some y ∧ s.emits y = true ∧ s.seq.lastPat = some (y.string, y.applied)) ∧
    (let y := { x with blanked := true }
     let s := seq' (fun q => { q with inhibit := false, shots := [{ x with fire := 0, fired := true }, y] })
       (enum' (fun e => { e with cond := true }) (tb' (fun t => { t with tick := 9 })))
     s.nextShot = some y ∧ s.shot y.fire = some y ∧ s.enum.cond = true ∧ s.live y = true ∧ s.darkCause y = 0 ∧ y.hot = false ∧ s.gapOk y = false) ∧
    (let y := { x with blanked := true, hot := true }
     (at' y).nextShot = some y ∧ (at' y).live y = true ∧ (at' y).darkCause y = 0) ∧
    (let y := { x with blanked := true, gone := true }
     (at' y).nextShot = some y ∧ (at' y).shot y.fire = some y ∧ y.fire ≤ (at' y).tb.tick ∧ y.proof = none ∧ (at' y).live y = false) ∧
    (let y := { x with fired := true, offs := [0, 40] }
     let s := shot' y
     s.seq.shots.reverse.find? (fun x => x.fired && x.dark == 0) = some y ∧ s.follower = false ∧ y.judged < y.pulses ∧
      (s.strobes y).getD y.judged 0 < 16 * (s.tb.tick + 1) ∧ y.judged + 1 < y.pulses) ∧
    (let y := { x with fired := true, offs := [0, 40] }
     let s := shot' y 4
     s.seq.shots.reverse.find? (fun x => x.fired && x.dark == 0) = some y ∧ y.judged < y.pulses ∧
      16 * (s.tb.tick + 1) ≤ (s.strobes y).getD y.judged 0) ∧
    (let y := { x with fired := true }
     let s := shot' y
     s.seq.shots.reverse.find? (fun x => x.fired && x.dark == 0) = some y ∧ s.follower = false ∧ y.judged < y.pulses ∧
      (s.strobes y).getD y.judged 0 < 16 * (s.tb.tick + 1) ∧ y.judged + 1 = y.pulses ∧ y.proof = none ∧ (s.string y.string).1 ≠ 3) ∧
    (let s := seq' (fun q => { q with subs := [(0, 10, 20)] })
     s.emf 15 = some 0 ∧ (pwr' (fun p => { p with dev := .quiet })).running = false) ∧
    (let e : Ems := { word := 5 }
     0 < e.period ∧ (0 : Rat) < (e.period : Nat)) ∧
    (let s := p' (fun p => { p with strings := [(0, (1, 0, 2))] }) (shot' { x with fired := true })
     s.val SHOT_DIAG_CONFIRM ≤ 2 + 1 ∧ (s.string 0).1 ≠ 2 ∧ (s.string 0).2.2 = 2) ∧
    Tab.sorted (seq' (fun q => { q with heat := [(0, 500)] })).seq.heat = true := by
  and_intros <;> decide +kernel

/-! Chapters 07 and 08. -/
def seg0 : Seg := { ch := 0, shot := 0, idx := 0, frame := 0, nd := some 10, first := 5, len := 16 }
def grp0 : Grp := { ch := 0, prof := [0, 0, 0], frame := 0, last := 0, firstIdx := 0, lastIdx := 0 }
def prov0 : Prov := { r := ret0, entry := 0 }
/-- Returns in region 0's confirmation engine, at a tick. -/
def eng' (ps : List Prov) (x : Shot := shot0) (tick : Nat := 1000) (s : State := up) : State :=
  reg' (fun g => { g with eng := ps }) (shot' x tick s)
/-- A lookback in a state. -/
def look' (f : Look → Look) (s : State := up) : State := { s with look := f s.look }
/-- A stamp and a train of 16 stamps 1000 ticks apart. -/
def stamp0 : Stamp := { t := 4096000, ch := 0, inten := 0 }
def train0 : Train :=
  { st := (List.range 16).map (fun (k : Nat) => { stamp0 with t := 4096000 * (k : Int), k := (k : Int) }), per := 256000, phi := 0, var := 0, n := 16
    inten := 0, fitAt := 0 }
def est' (f : Est → Est) (s : State := up) : State := { s with est := f s.est }

theorem witness_CaptureCommandsComplete :
    let prof := msg 0x0704 [3, 256 + 128 * 512, 6399, 64 + 1 * 128]
    let dump (s : State) := msg 0x0709 [512 * 512, 5, 0, 0, 0xFFFFFFFF, 0, 6250]
      (p' (fun p => { p with bind := [(5, { cls := 3, port := 1 })] }) s)
    let frozen := look' (fun l => { l with st := 2 })
    let off := pwr' (fun p => { p with on := setDom p.on 94 false })
    (msg 0x0701).turn 0 0x0701 ∧
    (prof.turnP 0 0x0704 ∧ (prof.pw 0 0).fld 31 2 = 0 ∧ profileOk (prof.pw 0 1) (prof.pw 0 2) (prof.pw 0 3) = true) ∧
    ((msg 0x0705 [3]).turn 0 0x0705 ∧ ((msg 0x0705 [3]).pw 0 0).fld 31 2 = 0) ∧
    ((msg 0x0706 [7]).turn 0 0x0706 ∧ ((msg 0x0706 [7]).pw 0 0).fld 31 3 = 0) ∧
    ((msg 0x0707 [] off).turn 0 0x0707 ∧ (msg 0x0707 [] off).acts 94 = false) ∧
    ((msg 0x0707).turn 0 0x0707 ∧ (msg 0x0707).acts 94 = true ∧ (msg 0x0707).look.st = 0) ∧
    ((msg 0x0707 [] frozen).turn 0 0x0707 ∧ (msg 0x0707 [] frozen).acts 94 = true ∧ (msg 0x0707 [] frozen).look.st ≠ 0) ∧
    ((msg 0x0708).turn 0 0x0708 ∧ Tab.sorted (msg 0x0708).regions = true) ∧
    ((dump up).turn 0 0x0709 ∧ ((dump up).pw 0 0).fld 31 19 = 0 ∧ ((dump up).pw 0 1).fld 31 15 = 0 ∧ ((dump up).pw 0 6).fld 31 13 = 0 ∧
      ((dump up).pw 0 0).fld 18 9 = 512 ∧ ((dump up).pw 0 0).fld 8 0 + 512 ≤ 512 ∧ 1 ≤ ((dump up).pw 0 6).fld 12 0 ∧
      ((dump up).pw 0 6).fld 12 0 ≤ 6250 ∧ ((dump up).bindOf (((dump up).pw 0 1).fld 14 0)).port ≠ 0 ∧ (dump up).look.st ≠ 2) ∧
    ((dump frozen).turn 0 0x0709 ∧ (dump frozen).look.st = 2 ∧
      ((dump frozen).bindOf (((dump frozen).pw 0 1).fld 14 0)).port ≠ 0) := by
  refine ⟨turn_of ?_, ⟨turnP_of ?_, ?_⟩, ⟨turn_of ?_, ?_⟩, ⟨turn_of ?_, ?_⟩, ⟨turn_of ?_, ?_⟩, ⟨turn_of ?_, ?_⟩, ⟨turn_of ?_, ?_⟩,
    ⟨turn_of ?_, ?_⟩, ⟨turn_of ?_, ?_⟩, turn_of ?_, ?_⟩ <;> decide +kernel

theorem witness_CaptureAndMemoryEventsRun :
    (let g := { seg0 with smp := List.replicate 16 { n := 0, code := 1, sat := false, sv := 0, ex := false, b := 0 } }
     let s := cell' (fun c => { c with segs := [g] })
     (s.cell 0).segs.find? (fun g => !g.ended && decide (g.len ≤ g.smp.length)) = some g) ∧
    (let g := { seg0 with ended := true, fate := 3 }
     ((cell' (fun c => { c with segs := [g] })).cell 0).segs.find? (·.ended) = some g ∧ g.fate = 3) ∧
    (let g := { seg0 with ended := true }
     let s := cell' (fun c => { c with segs := [g] }) (up.setMem 0 (fun x => { x with st := 0 }))
     (s.cell 0).segs.find? (·.ended) = some g ∧ g.fate ≠ 3 ∧ s.regionWorks (0 / 64) = true ∧
      (s.reg (0 / 64)).queued + g.bytes ≤ 262144 ∧ s.portBusy 0 = false ∧ (s.reg 0).noSeg = false ∧ s.writesTo 0 = some false ∧
      (s.reg 0).wq = []) ∧
    (let g := { seg0 with ended := true }
     let s := blk' (fun b => { b with rd := [grp0] }) (cell' (fun c => { c with segs := [g] }) (up.setMem 0 (fun x => { x with st := 0 })))
     (s.cell 0).segs.find? (·.ended) = some g ∧ g.fate ≠ 3 ∧ s.regionWorks (0 / 64) = true ∧
      (s.reg (0 / 64)).queued + g.bytes ≤ 262144 ∧ s.portBusy 0 = true) ∧
    (let g := { seg0 with ended := true }
     let z : Smp := { n := 0, code := 1, sat := false, sv := 0, ex := false, b := 0 }
     let s := reg' (fun x => { x with wq := List.replicate 128 { seg0 with packing := true, smp := List.replicate 1024 z } }) (cell' (fun c => { c with segs := [g] }))
     (s.cell 0).segs.find? (·.ended) = some g ∧ g.fate ≠ 3 ∧ s.regionWorks (0 / 64) = true ∧
      262144 < (s.reg (0 / 64)).queued + g.bytes) ∧
    (let s := blk' (fun b => { b with rd := [grp0] }) (up.setMem 0 (fun x => { x with st := 0 }))
     (s.blk 0).rd ≠ [] ∧ s.bankFits 0 (s.blk 0).rd = true) ∧
    (let b : Block := { acc := [{ grp0 with acc := 1, closed := true }, grp0] }
     b.complete = true ∧ b.rd = []) ∧
    (let b : Block := {}
     b.complete = false) ∧
    (let g := { grp0 with ending := true, endAt := 9 }
     let s := blk' (fun b => { b with acc := [g] }) (tb' (fun t => { t with tick := 9 }))
     (s.blk (0 / 16)).acc.find? (fun g => g.ch == 0 && g.ending && !g.closed && g.opens.isEmpty &&
        decide (g.endAt ≤ s.tb.tick)) = some g ∧ g.acc = 0) ∧
    (let g := { grp0 with ending := true, acc := 1 }
     let s := blk' (fun b => { b with acc := [g] })
     (s.blk (0 / 16)).acc.find? (fun g => g.ch == 0 && g.ending && !g.closed && g.opens.isEmpty &&
        decide (g.endAt ≤ s.tb.tick)) = some g ∧ g.acc ≠ 0) ∧
    ((up.memCh 0).st ≠ 0 ∧ up.pwr.good = true ∧ ((up.setMem 0 (fun x => { x with st := 1 })).memCh 0).st = 1 ∧
      (up.setMem 0 (fun x => { x with st := 1 })).pwr.good = true) ∧
    (let s := up.setMem 0 (fun x => { x with st := 0 })
     (s.memCh 0).st = 0 ∧ 240 ≤ ((240 : Int) - (s.memCh 0).temp).natAbs ∧ (∀ e ∈ s.mem, e.2.st ≠ 1) ∧
      ((239 : Int) - (s.memCh 0).temp).natAbs < 240) ∧
    (up.pwr.alive = true ∧ up.chipRuns = true ∧ up.restarting = false) ∧
    (let s := reg' (fun x => { x with ring := [{ seg0 with spill := true }, seg0] })
     ((s.reg 0).ring.filter (fun g => g.spill == false))[0]? = some seg0) ∧
    ((up.reg 0).disabled = false ∧ up.dom (64 + 0) = true ∧ up.pwr.safe = false) ∧
    (look' (fun l => { l with st := 1 })).look.st = 1 ∧
    (let d : Dump := { left := [(0, seg0), (0, { seg0 with first := 9 })], dest := 5, rate := 1 }
     let s := look' (fun l => { l with st := 2, dump := some d })
     let t := reg' (fun x => { x with ring := [seg0, { seg0 with first := 9 }] }) s
     let held (s : State) := d.left.filter (fun e => (s.reg e.1).ring.any (fun g => g.ch == e.2.ch && g.first == e.2.first))
     s.look.dump = some d ∧ held s = [] ∧ t.look.dump = some d ∧ held t = (0, seg0) :: [(0, { seg0 with first := 9 })]) := by
  and_intros <;> decide +kernel

theorem witness_LadderScaleFollowsThePressure :
    (let l : Ladder := {}
     3 ≤ 3 ∧ (l.step ≠ 3 ∧ l.sL = 256) ∧
      let l : Ladder := { step := 2, hiRun := 100 }
      l.step ≠ 3 ∧ (l.sample 3 1000 true false).step = 3) ∧
    (let l : Ladder := { step := 3, sL := 224 }
     l.step = 3 ∧ l.entered = false) := by decide +kernel

theorem witness_RejectionCommandsComplete :
    (msg 0x0801).turn 0 0x0801 ∧ (msg 0x0804).turn 0 0x0804 ∧ (msg 0x0805 [1]).turn 0 0x0805 := by
  refine ⟨turn_of ?_, turn_of ?_, turn_of ?_⟩ <;> decide +kernel

theorem witness_ConfirmationEngineEventsRun :
    (let s := reg' (fun g => { g with fifo := [ret0] })
     s.regionWorks 0 = true ∧ (s.reg 0).fifo = ret0 :: [] ∧
      ret0.ch / 64 = 0) ∧
    (let s := pwr' (fun p => { p with safe := true }) (reg' (fun g => { g with fifo := [ret0] }))
     s.regionWorks 0 = true ∧ (s.reg 0).fifo = ret0 :: [] ∧ s.pwr.safe = true ∧ (s.reg 0).eng = []) ∧
    (let s := eng' [prov0]
     let qs := s.queueList.filter (fun q => (s.bindOf q).port ≠ 0 && (s.bindOf q).cls == 1 && (s.bindOf q).has 0)
     (s.reg 0).eng.find? (fun p => p.rec_ = 0) = some prov0 ∧ prov0.decided = none ∧ s.tb.tick ≤ ret0.fin + recordTicks ∧ qs = []) ∧
    (let s := eng' [prov0] (s := p' (fun p => { p with bind := [(2, { cls := 1, port := 1, count := 512 })] }))
     let qs := s.queueList.filter (fun q => (s.bindOf q).port ≠ 0 && (s.bindOf q).cls == 1 && (s.bindOf q).has 0)
     (s.reg 0).eng.find? (fun p => p.rec_ = 0) = some prov0 ∧ s.tb.tick ≤ ret0.fin + recordTicks ∧ qs = [2] ∧
      16 ≤ s.room (s.bindOf 2) ∧ (s.queue 2).held + (s.queue 2).resv + 32 ≤ 1024 * (s.bindOf 2).depth ∧
      s.poolUsed + 32 * 1 ≤ 16 * 2 ^ 20) ∧
    (let s := shot' shot0
     s.shot 0 = some shot0 ∧ shot0.took 0 = true ∧ shot0.final.getLsbD 0 = false ∧ s.echoesFinal 0 shot0 = true) ∧
    (let t : Trk := default
     let p := { prov0 with r := { ret0 with uses := [1000] } }
     let s := est' (fun e => { e with trains := [(0, train0)] }) (eng' [p] (tick := 90000))
     t.hold = none ∧
     (s.reg 0).eng.Pairwise (fun p q => ¬ (q.r.ch = p.r.ch ∧ q.r.nd = p.r.nd ∧ q.r.shot = p.r.shot)) ∧
      (∀ p ∈ (s.reg 0).eng, p.r.ch / 64 = 0) ∧ p.decided = none ∧ p.foreign = false ∧
      p.entry + usTicks (s.valFor shot0 REJ_FOREIGN_HOLD_US 0) ≤ s.tb.tick ∧ s.foreignPasses p = false ∧
      p.entry + decisionTicks ≤ s.tb.tick) ∧
    ((1000 : Nat) < prov0.entry + decisionTicks) ∧
    (let p := { prov0 with rec_ := 1, id := 1 }
     let s (d : Option Nat) : State :=
       { eng' [{ p with decided := d }] with rej := { up.rej with out := [(1, 0)] } }
     (∀ d ∈ [none, some 0, some 4], (s d).rej.out = (1, 0) :: [] ∧ (s d).collected < 8192 ∧
       ((s d).reg 0).eng.find? (fun p => p.rec_ = 1 && p.id == 1 && !p.sent) = some { p with decided := d })) ∧
    (let x := { shot0 with final := 1 }
     let s := par' DET_NORETURN_MODE 1 (shot' x)
     s.shot 0 = some x ∧ s.noReturn x 0 = true ∧ x.placed = false) ∧
    (shot' shot0).noReturn shot0 0 = false ∧
    (let x := { shot0 with final := 3 }
     let s := shot' x
     s.seq.shots.find? (fun x => x.fired && !x.placed) = some x ∧
      (∀ c, c < 512 → x.took c = true → s.channelDone x c = true) ∧ s.segsPending x = false) ∧
    (let x := { shot0 with final := 3 }
     let s := cell' (fun c => { c with segs := [{ seg0 with fate := 2 }] }) (shot' x)
     s.seq.shots.find? (fun x => x.fired && !x.placed) = some x ∧ s.segsPending x = true) ∧
    (let s := shot' shot0
     s.seq.shots.find? (fun x => x.fired && !x.placed) = some shot0 ∧ shot0.took 1 = true ∧ s.channelDone shot0 1 = false) := by
  and_intros <;> decide +kernel

theorem witness_SunAndForeignTrainEventsRun :
    up.dom (0 / 16) = true ∧ (up.cell 0).sun = false ∧ ((cell' (fun c => { c with sun := true })).cell 0).sun = true ∧
    (let s := est' (fun e => { e with q := [stamp0] })
     s.est.q = stamp0 :: [] ∧ ∀ e ∈ s.est.trains, (256 : Rat) < (stamp0.at - e.2.near stamp0.at).abs) ∧
    (let s := est' (fun e => { e with q := [stamp0], trains := [(0, train0)] })
     s.est.q = stamp0 :: [] ∧ (0, train0) ∈ s.est.trains ∧ (stamp0.at - train0.near stamp0.at).abs ≤ (0 : Rat) ∧
      (∀ e ∈ s.est.trains, e ≠ (0, train0) → (0 : Rat) < 0)) ∧
    (let t := { train0 with st := [] }
     let s := est' (fun e => { e with trains := [(31, t)] })
     tfind s.est.trains 31 = some t ∧ s.gated t.st = []) ∧
    (let s := est' (fun e => { e with trains := [(31, train0)] }) (par' REJ_TRAIN_REPORT_MS 0)
     tfind s.est.trains 31 = some train0 ∧ s.gated train0.st ≠ [] ∧ s.val REJ_TRAIN_REPORT_MS = 0) ∧
    (par' REJ_TRAIN_REPORT_MS 100).val REJ_TRAIN_REPORT_MS ≠ 0 := by
  and_intros <;> decide +kernel

theorem witness_WeatherClassifierRunsOncePerChannelShot :
    (let s := shot' shot0
     s.shot 0 = some shot0 ∧ shot0.took 0 = true ∧ shot0.final.getLsbD 0 = false) ∧
    (let x := { shot0 with final := 3 }
     let s := eng' [prov0, { prov0 with r := { ret0 with nd := 30, echo := 1 } }] x
     s.shot 0 = some x ∧ x.took 0 = true ∧ x.final.getLsbD 0 = true ∧ x.wx.getLsbD 0 = false ∧ x.final.getLsbD 1 = true ∧
      x.took 1 = true ∧ x.listened 1 = true ∧ x.final.getLsbD (0 + 1) = true ∧
      (s.reg (0 / 64)).eng.Pairwise (fun p q => ¬ (q.r.ch = p.r.ch ∧ q.r.nd = p.r.nd ∧ q.r.shot = p.r.shot)) ∧
      prov0 ∈ (s.reg (0 / 64)).eng ∧ prov0.r.ch = 0 ∧ prov0.r.shot = 0 ∧ prov0.decided = none) := by
  and_intros <;> decide +kernel

/-! Chapters 09 and 10. -/
/-- Active values of the safety parameters. -/
def saf' (vs : List (Nat × Nat)) (s : State := up) : State := isl' (fun x => { x with active := some vs }) s

theorem witness_MotionCommandsComplete :
    let w : List Word := [2 + 2 * 4 + 1 * 16 + 3 * 4096, 5, 100, 0]
    let start := msg 0x0904 w
    let stopped := msg 0x0904 w (mc' (fun x => { x with safeStop := some (1, 2) }))
    let read := msg 0x0906 [1 + 2 * 16384] (mc' (fun x => { x with cap := [[1], [2], [3]] }))
    let restart := msg 0x0907 [3] (mc' (fun x => { x with offSpin := 1, offMir := 1, started := true }))
    let restartM (ms : List (Nat × Rat × Rat)) := msg 0x0907 [2] (mc' (fun x => { x with offMir := 1, started := true, mirs := ms }))
    let restart0 := msg 0x0907 [0] (mc' (fun x => { x with safeStop := some (1, 2) }))
    (msg 0x0901).turn 0 0x0901 ∧
    (start.turn 0 0x0904 ∧ (start.pw 0 0).fld 31 20 = 0 ∧ (start.pw 0 0).fld 3 2 = 2 ∧ (start.pw 0 0).fld 11 4 ≠ 0 ∧
      start.pw 0 2 ≠ 0 ∧ (start.pw 0 0).fld 19 12 ≠ 0 ∧ start.engineOn = true ∧ start.mc.safeStop = none) ∧
    (stopped.turn 0 0x0904 ∧ stopped.mc.safeStop ≠ none) ∧
    (msg 0x0905).turn 0 0x0905 ∧
    (read.turn 0 0x0906 ∧ (read.pw 0 0).fld 31 24 = 0 ∧ (read.pw 0 0).fld 23 14 = 2 ∧ read.mc.cap[1 + 0]? = some [2]) ∧
    (restart.turn 0 0x0907 ∧ (restart.pw 0 0).fld 31 2 = 0 ∧ restart.mc.safeStop = none ∧ (restart.pw 0 0).bit 0 = true ∧
      restart.mc.offSpin ≠ 0 ∧ restart.mc.axes % 2 = 1 ∧ (restart.pw 0 0).bit 1 = true ∧ restart.mc.offMir ≠ 0 ∧
      restart.mc.axes / 2 % 2 = 1 ∧ restart.mc.started = true) ∧
    ((restartM [(9, 0, 2), (5, 0, 1)]).turn 0 0x0907 ∧ (restartM [(9, 0, 2), (5, 0, 1)]).mc.mirs = (9, 0, 2) :: (5, 0, 1) :: [] ∧
      (restartM [(9, 0, 2), (5, 0, 1)]).mc.offMir ≠ 0 ∧ ((restartM []).pw 0 0).bit 1 = true ∧ ((restartM []).pw 0 0).bit 0 = false ∧
      (restartM []).mc.mirs.length ≤ 1) ∧
    ((msg 0x0907 [3]).turn 0 0x0907 ∧ ((msg 0x0907 [3]).pw 0 0).fld 31 2 = 0 ∧ (msg 0x0907 [3]).mc.safeStop = none ∧
      (msg 0x0907 [3]).mc.started = false) ∧
    (restart0.turn 0 0x0907 ∧ (restart0.pw 0 0).fld 31 2 = 0 ∧ restart0.mc.safeStop ≠ none) := by
  refine ⟨turn_of ?_, ⟨turn_of ?_, ?_⟩, ⟨turn_of ?_, ?_⟩, turn_of ?_, ⟨turn_of ?_, ?_⟩, ⟨turn_of ?_, ?_⟩, ⟨turn_of ?_, ?_⟩, ⟨turn_of ?_, ?_⟩, turn_of ?_, ?_⟩ <;>
    decide +kernel

theorem witness_MotionLoopsRun :
    State.reset.engineOn = false ∧ up.engineOn = true ∧ up.mirrorDue = true ∧ up.spinDue = true ∧ up.mc.mirOn = false ∧
    (let s := tb' (fun t => { t with tick := 16001 })
     s.mirrorDue = false ∧ s.spinDue = false) ∧
    (let s := hk' (fun h => { h with ca := (100, false, true) }) (mc' (fun x => { x with mirOn := true }))
     s.mc.mirOn = true ∧ s.mc.offMir = 0 ∧ s.hk.ca.2.2 = true) ∧
    (let s := mc' (fun x => { x with mirOn := true })
     s.engineOn = true ∧ s.mirrorDue = true ∧ s.mc.mirOn = true ∧ s.hk.ca.2.2 = false ∧
      (s.mc.parking && s.isl.out &&& brkBits == 0) = false ∧ s.mc.inj = none) ∧
    (let s := mc' (fun x => { x with mirOn := true, parking := true })
     s.mc.mirOn = true ∧ s.hk.ca.2.2 = false ∧ (s.mc.parking && s.isl.out &&& brkBits == 0) = true) ∧
    (isl' (fun x => { x with test := some { mbx := 0 } })).isl.test = some { mbx := 0 } ∧
    (up.isl.test = none ∧ up.mc.spin = 0) ∧
    (let s := mc' (fun x => { x with spin := 1 })
     let u := s.loopPars .spin
     s.spinDue = true ∧ s.isl.test = none ∧ s.mc.spin = 1 ∧ s.mc.inj = none ∧ u.val MC_OSC_ACTION ≠ 2 ∧ u.noHandover = true ∧
      s.mc.safeStop = none) ∧
    (let s := mc' (fun x => { x with spin := 3, known := true }) (running' 100000 [])
     let u := s.loopPars .spin
     s.spinDue = true ∧ s.isl.test = none ∧ s.mc.spin = 3 ∧ s.mc.inj = none ∧ u.val MC_OSC_ACTION ≠ 2 ∧ s.mc.trial = none ∧ u.noHandover = false ∧
      absR (wrapHalf (u.thetaRef - u.theta_ s.tb.tick)) ≤ (u.val MC_HANDOVER_ABORT : Rat) / 65536) := by
  and_intros <;> decide +kernel

/-- A response word of the motor link with sequence 255: sync, currents, voltage, status, check. -/
def linkWord (status : Nat) : BitVec 80 :=
  let hi := packNat [(status, 8), (24000, 16), (5, 16), (3, 16), (255, 8), (0x5A, 8)]
  BitVec.ofNat 80 (hi * 256 + linkCrc hi)

theorem witness_MotionEventsRun :
    (up.engineOn = true ∧ linkOk (linkWord 0) = true ∧ (linkWord 0).toNat / 2 ^ 64 % 256 = wrap 8 (up.mc.sentSeq + 255) ∧
      (linkWord 0).getLsbD 15 = false) ∧
    (linkOk (linkWord 128) = true ∧ (linkWord 128).getLsbD 15 = true ∧ up.mc.offSpin = 0) ∧
    (linkOk 0 = false ∧ 2 ≤ (mc' (fun x => { x with bad := 2 })).mc.bad) ∧
    State.reset.engineOn = false ∧
    (let s := mc' (fun x => { x with illegal := [0, 0, 0] })
     4 ≤ (s.mc.travel :: s.mc.illegal.filter (fun (t : Nat) => decide (s.mc.travel < t + 4 * s.mc.lines))).length ∧ s.mc.offSpin = 0) ∧
    up.mc.known = false ∧
    (let s := mc' (fun x => { x with known := true, count := 16385 })
     s.mc.known = true ∧ s.mc.count = 1 * ((4 * s.mc.lines : Nat) : Int) + 1 ∧ 4 < 4 * s.mc.lines) ∧
    ((shot' shot0).shot 0 = some shot0 ∧ shot0.fired = true ∧ shot0.angles = none ∧ (shot' shot0).anglesReady 0 = false ∧
      (shot' shot0 80000).anglesReady 0 = true) ∧
    (mc' (fun x => { x with inj := some default })).mc.inj = some default ∧
    up.isl.command = none ∧ (isl' (fun x => { x with command := some (1, 2) })).isl.command = some (1, 2) ∧
    (let s := isl' (fun x => { x with released := true })
     s.engineOn = true ∧ s.isl.released = true ∧ s.mc.started = false ∧ s.mc.safeStop = none ∧ s.mc.axes % 2 = 1 ∧
      s.mc.axes / 2 % 2 = 1) ∧
    (let s := mc' (fun x => { x with offSpin := 1, offMir := 1 }) (isl' (fun x => { x with released := true }))
     s.mc.offSpin ≠ 0 ∧ s.mc.offMir ≠ 0 ∧ s.mc.started = false) ∧
    up.isl.released = false := by
  and_intros <;> decide +kernel

/-- Two away from an index line, either side: the count is not a multiple of the revolution within one. -/
theorem witness_indexError (k e : Int) (h1 : -1 ≤ e) (h2 : e ≤ 1) :
    (mc' (fun x => { x with known := true, count := 2 })).mc.count ≠ k * ((4 * up.mc.lines : Nat) : Int) + e := by
  have h : (mc' (fun x => { x with known := true, count := 2 })).mc.count = 2 := rfl
  have hl : ((4 * up.mc.lines : Nat) : Int) = 16384 := rfl
  rw [h, hl]
  omega

theorem witness_ProfileGeneratorFollowsItsTarget :
    up.mc.parking = false ∧ up.mc.safeStop = none ∧ (0 : Rat) < 1 ∧ absR 1 ≤ (1 : Rat) ∧ absR (-1) ≤ (1 : Rat) ∧ absR 0 ≤ (1 : Rat) ∧
    (let g : Gen := { r := 0, v := 0, a := 0 }
     g.v + g.a * absR g.a / (2 * 1) < (1 : Rat) ∧ (0 : Rat) < g.v + g.a * absR g.a / (2 * 1) + 1 ∧
      g.v + g.a * absR g.a / (2 * 1) = (0 : Rat) ∧ absR g.a ≤ (1 : Rat)) := by
  and_intros <;> decide +kernel

theorem witness_IslandCommandsComplete :
    let wr := msg 0x0A02 [0 + 7 * 256 + 1 * 2048, 3]
    let wr1 := msg 0x0A02 [2, 1000]
    let rd (v : Nat) (p : Nat) := msg 0x0A03 [BitVec.ofNat 32 (p + v * 32768)]
    let park (s : State) := pwr' (fun x => { x with dev := .park }) s
    let ackT := msg 0x0A05 [256] (isl' (fun x => { x with msgFault := true, us := 100000 }) (saf' [(safKey SAF_MSG_MODE 0, 1)]))
    let ackF := msg 0x0A05 [1024] (isl' (fun x => { x with fbk := 1 }))
    let bt := msg 0x0A06 [] (park (saf' [] (isl' (fun x => { x with tested := true }))))
    let ack := msg 0x0A05 [1] (isl' (fun x => { x with fa := 1, pair := [(0, 2)] }))
    (msg 0x0A01).turn 0 0x0A01 ∧
    (wr.turn 0 0x0A02 ∧ SAF_SIN_FUNC.idx = (wr.pw 0 0).fld 7 0 ∧ (wr.pw 0 0).fld 31 17 = 0 ∧ SAF_SIN_FUNC.ok 3 = true ∧
      (wr.pw 0 1).toNat = 3 ∧ (wr.pw 0 0).fld 10 8 + (wr.pw 0 0).fld 14 11 ≤ 8) ∧
    (wr1.turn 0 0x0A02 ∧ SAF_SIN_FILTER_US.idx = (wr1.pw 0 0).fld 7 0 ∧ SAF_SIN_FILTER_US.insts = 1 ∧
      SAF_SIN_FILTER_US.ok (wr1.pw 0 1).toNat = true) ∧
    ((rd 0 2).turn 0 0x0A03 ∧ ((rd 0 2).pw 0 0).fld 16 15 = 0 ∧ SAF_SIN_FILTER_US.idx = ((rd 0 2).pw 0 0).fld 7 0) ∧
    ((rd 1 2).turn 0 0x0A03 ∧ ((rd 1 2).pw 0 0).fld 16 15 = 1 ∧ (rd 1 2).isl.active = none) ∧
    ((rd 2 9).turn 0 0x0A03 ∧ ((rd 2 9).pw 0 0).fld 16 15 = 2 ∧ (safFuse 9).isSome = true ∧ safFuse 2 = none) ∧
    ((rd 3 2).turn 0 0x0A03 ∧ ((rd 3 2).pw 0 0).fld 16 15 = 3) ∧
    (ack.turn 0 0x0A05 ∧ (ack.pw 0 0).fld 31 14 = 0 ∧ (ack.pw 0 0).bit 0 = true ∧ ack.isl.fa.getLsbD 0 = true ∧
      ack.isl.fb.getLsbD 0 = false ∧ 2 ≤ ack.pair 0 ∧ ack.maxSum ≤ ack.safEff SAF_EN_LIMIT_NJ ∧
      ack.isl.fbk = (ack.isl.out >>> 2).setWidth 2) ∧
    (ackT.turn 0 0x0A05 ∧ ackT.saf SAF_MSG_MODE = 1 ∧ ackT.pwr.dev = .run ∧
      ackT.isl.msgAt + 1000 * ackT.saf SAF_MSG_TIMEOUT_MS ≤ ackT.isl.us ∧ (ackT.pw 0 0).bit 8 = true ∧
      ack.saf SAF_MSG_MODE = 0 ∧ ackF.isl.fbk ≠ (ackF.isl.out >>> 2).setWidth 2) ∧
    ((msg 0x0A06).turn 0 0x0A06 ∧ (msg 0x0A06).pwr.dev ≠ .park) ∧
    (bt.turn 0 0x0A06 ∧ bt.pwr.dev = .park ∧ bt.pwr.trans = none ∧ bt.mayRelease = true ∧ bt.isl.out &&& brkBits = 0 ∧
      bt.isl.fbk = 0) ∧
    (let s := msg 0x0A07 [768 + 256 * 1024]
     s.turn 0 0x0A07 ∧ (s.pw 0 0).fld 31 19 = 0 ∧ (s.pw 0 0).fld 18 10 = 256 ∧ (s.pw 0 0).fld 9 0 + (s.pw 0 0).fld 18 10 = 1024) := by
  refine ⟨turn_of ?_, ⟨turn_of ?_, ?_⟩, ⟨turn_of ?_, ?_⟩, ⟨turn_of ?_, ?_⟩, ⟨turn_of ?_, ?_⟩, ⟨turn_of ?_, ?_⟩, ⟨turn_of ?_, ?_⟩,
    ⟨turn_of ?_, ?_⟩, ⟨turn_of ?_, ?_⟩, ⟨turn_of ?_, ?_⟩, ⟨turn_of ?_, ?_⟩, turn_of ?_, ?_⟩ <;> decide +kernel

/-- The clauses of a parameter commit, whatever the check of the staged set is: a message that gives it, and one that does not. -/
theorem witness_safCommit (k : Word) :
    let park := pwr' (fun x => { x with dev := .park })
    let ro := jnl' (fun x => { x with readOnly := true }) park
    let busy := jnl' (fun x => { x with txn := some { seq := 1, subj := 2, left := 1, waiter := .none } }) park
    ((msg 0x0A04 [k]).turn 0 0x0A04 ∧ (msg 0x0A04 [k]).pw 0 0 = k ∧ (msg 0x0A04 [k]).pwr.dev = .run) ∧
    ((msg 0x0A04 [k + 1]).pw 0 0 = k + 1 ∧ k + 1 ≠ k) ∧
    ((msg 0x0A04 [k] park).turn 0 0x0A04 ∧ (msg 0x0A04 [k] park).pw 0 0 = k ∧ (msg 0x0A04 [k] park).pwr.dev ≠ .run ∧
      (msg 0x0A04 [k] park).jnl.txn = none ∧ (msg 0x0A04 [k] park).jnl.readOnly = false) ∧
    ((msg 0x0A04 [k] busy).turn 0 0x0A04 ∧ (msg 0x0A04 [k] busy).pw 0 0 = k ∧ (msg 0x0A04 [k] busy).pwr.dev ≠ .run ∧
      (msg 0x0A04 [k] busy).jnl.txn ≠ none) ∧
    ((msg 0x0A04 [k] ro).turn 0 0x0A04 ∧ (msg 0x0A04 [k] ro).pw 0 0 = k ∧ (msg 0x0A04 [k] ro).pwr.dev ≠ .run ∧
      (msg 0x0A04 [k] ro).jnl.txn = none ∧ (msg 0x0A04 [k] ro).jnl.readOnly = true) := by
  by_cases h : k = 0
  · subst h
    refine ⟨⟨turn_of ?_, ?_⟩, ?_, ⟨turn_of ?_, ?_⟩, ⟨turn_of ?_, ?_⟩, turn_of ?_, ?_⟩ <;> decide +kernel
  · have e (t : Tab Word) : tset 0 t 4 k = tput t 4 k := if_neg h
    refine ⟨⟨turn_of ?_, ?_, ?_⟩, ⟨?_, ?_⟩, ⟨turn_of ?_, ?_, ?_, ?_, ?_⟩, ⟨turn_of ?_, ?_, ?_, ?_⟩, turn_of ?_, ?_, ?_, ?_, ?_⟩ <;>
      first | decide +kernel | (simp only [msg, State.setMws, State.setMw, Nat.zero_mul, Nat.zero_add, e]; rfl) | (show Dev.park ≠ Dev.run; decide) | skip
    · by_cases h1 : k + 1 = 0
      · rw [h1]
        decide +kernel
      · have e (t : Tab Word) : tset 0 t 4 (k + 1) = tput t 4 (k + 1) := if_neg h1
        simp only [msg, State.setMws, State.setMw, Nat.zero_mul, Nat.zero_add, e]
        rfl
    · intro h2
      have := congrArg BitVec.toNat h2
      bv_omega
    · exact Option.some_ne_none _

theorem witness_IslandInputsAndEnablesRun :
    up.isl.differ < 2 ∧ (let s := isl' (fun x => { x with differ := 2 })
      2 ≤ s.isl.differ ∧ s.isl.fault = false) ∧
    (let s := saf' [(safKey SAF_SIN_FUNC 0, 2)]
     s.pairFunc 0 ≠ 0 ∧ s.pairFunc 1 = 0 ∧ s.pair 0 ≠ 3 ∧ 10 * tget 0 s.isl.eq 0 < 1000 * s.saf SAF_SIN_DISC_MS ∧
      s.isl.fa.getLsbD 0 = false) ∧
    (let s := isl' (fun x => { x with eq := [(0, 5000)] }) (saf' [(safKey SAF_SIN_FUNC 0, 2)])
     1000 * s.saf SAF_SIN_DISC_MS ≤ 10 * tget 0 s.isl.eq 0) ∧
    (let s := isl' (fun x => { x with out := 63, tested := true, run := true })
     s.isl.out.getLsbD 5 = true ∧ s.isl.fault = false ∧ up.isl.out.getLsbD 5 = false) ∧
    (let s := isl' (fun x => { x with encB := { known := true, count := 7, illegal := [0, 0, 0] } })
     let ill (x : IslEnc) := x.travel :: x.illegal.filter (fun (n : Nat) => decide (x.travel < n + 4 * s.saf SAF_ENC_LINES))
     s.isl.test = none ∧ s.isl.encA.known = false ∧ s.isl.encB.known = true ∧ (ill s.isl.encA).length < 4 ∧ 4 ≤ (ill s.isl.encB).length) ∧
    (match exec .stateRequest up with | .next t => !t.isl.fault | _ => false) = true := by
  and_intros <;> decide +kernel

theorem witness_BrakeAndStopsRun :
    let after (s : State) : State := match exec .islandSpeedEvaluation s with | .next t => t | _ => s
    let beyond (s : State) : Bool := [(s.isl.encA, (after s).isl.encA), (s.isl.encB, (after s).isl.encB)].any (fun p =>
      match s.envelope p.1.w0 with | some e => decide (e < p.2.speed) | none => false)
    (let s := isl' (fun x => { x with stop := 1, us := 300000, encB := { now := 60000 } }) (saf' [])
     s.isl.fault = false ∧ s.isl.stop = 1 ∧ s.isl.holding = 0 ∧ beyond s = true) ∧
    (let s := isl' (fun x => { x with stop := 1, encA := { still := 999 } })
     s.isl.stop = 1 ∧ s.isl.holding = 0 ∧ beyond s = false ∧ 1000 ≤ (after s).isl.encA.still) ∧
    (let s := isl' (fun x => { x with stop := 2 })
     s.isl.stop = 2 ∧ s.isl.holding = 0 ∧ (after s).isl.encA.speed ≤ (s.saf SAF_BRK_MAX_RPS : Rat) / 256) ∧
    (let s := isl' (fun x => { x with rest := true, encA := { still := 999 }, out := brkBits })
     s.isl.stop = 0 ∧ s.isl.rest = true ∧ 1000 ≤ (after s).isl.encA.still ∧ s.isl.out &&& brkBits = brkBits) ∧
    (let s := saf' [] (isl' (fun x => { x with tested := true })
       (pwr' (fun y => { y with dev := .park, trans := some { next := .quiet, target := .quiet } })))
     s.requestsRelease = true ∧ s.mayRelease = true ∧ s.isl.out &&& (tqBits ||| brkBits) = 0) ∧
    (let s := saf' [] (isl' (fun x => { x with tested := true, rising := some 0, us := 10000 }))
     s.isl.rising = some 0 ∧ 0 + 10000 ≤ s.isl.us ∧ s.mayRelease = true ∧ s.isl.out &&& brkBits = 0) ∧
    (isl' (fun x => { x with fbk := 3 })).isl.fbk = 3 ∧
    (let s := isl' (fun x => { x with rising := some 0, us := 9999 })
     s.isl.rising = some 0 ∧ s.isl.us < 0 + 10000) ∧
    (let s := isl' (fun x => { x with out := brkBits })
     s.isl.fault = false ∧ s.isl.holding = 0 ∧ s.isl.out &&& brkBits = brkBits ∧
      s.isl.fbk.getLsbD 0 ≠ s.isl.out.getLsbD 2 ∧ s.isl.us ≤ tget 0 s.isl.fbAt 0 + 1000 * s.saf SAF_BRK_FB_MS) ∧
    (let s := isl' (fun x => { x with out := brkBits, us := 50001 })
     tget 0 s.isl.fbAt 1 + 1000 * s.saf SAF_BRK_FB_MS < s.isl.us) ∧
    (let s := isl' (fun x => { x with stop := 1, us := 3000000 })
     s.isl.stop = 1 ∧ s.isl.holding = 0 ∧ s.isl.since + 1000 * s.saf SAF_SS_TMAX_MS ≤ s.isl.us ∧ s.isl.fault = false) ∧
    up.isl.stop ≠ 1 ∧
    (let b : BrakeTest := { mbx := 0, k := 1249 }
     (isl' (fun x => { x with test := some b })).isl.test = some b ∧ up.pwr.on.getLsbD 88 = true ∧ b.k < b.length) ∧
    (pwr' (fun x => { x with on := 0 })).pwr.on.getLsbD 88 = false ∧
    (let b : BrakeTest := { mbx := 0, phase := 1, k := 7500 }
     b.length ≤ b.k ∧ b.phase < 2) ∧
    (let b : BrakeTest := { mbx := 0, phase := 2, k := 1250, seen := 6250 }
     (isl' (fun x => { x with test := some b })).isl.test = some b ∧ b.length ≤ b.k ∧ 2 ≤ b.phase ∧ 6250 ≤ b.seen) ∧
    up.isl.report = false ∧
    (let s := isl' (fun x => { x with report := true })
     s.isl.report = true ∧ s.pwr.dev = .run) := by
  and_intros <;> decide +kernel

theorem witness_IslandEnergyAndMessagesRun :
    ((∀ k, k < 8 → up.safEff SAF_EN_GAIN k ≤ up.safEff SAF_EN_GAIN 0) ∧ up.isl.enInh = false ∧
      up.isl.encA.angle = false ∧ up.isl.encB.angle = false ∧
      (isl' (fun x => { x with encA := { known := true } })).isl.encA.angle = true ∧ (isl' (fun x => { x with enInh := true })).isl.enInh = true) ∧
    up.seq.report = none ∧ (seq' (fun q => { q with report := some 3 })).seq.report = some 3 ∧
    (up.pwr.dev ≠ .sleep ∧ up.pwr.dev ≠ .off ∧ up.operating = true ∧ up.fabricTakes = true ∧
      (pwr' (fun x => { x with good := false })).fabricTakes = false ∧ (pwr' (fun x => { x with good := false })).operating = true ∧
      State.reset.operating = false) ∧
    (let s := isl' (fun x => { x with told := [up.s0, up.s1, w32 up.faults, up.s5] })
     s.isl.told = [s.s0, s.s1, w32 s.faults, s.s5]) ∧
    (up.isl.told ≠ [up.s0, up.s1, w32 up.faults, up.s5] ∧ up.isl.told = []) ∧
    (let s := isl' (fun x => { x with told := [0], us := 999 })
     s.isl.told ≠ [] ∧ s.isl.us < s.isl.toldAt + 1000 ∧ up.pwr.dev ≠ .sleep) ∧
    up.isl.untaken < 3 ∧
    (up.isl.us = 0 ∧ 16 * up.isl.us < up.isl.bucketAt + 1000 * up.safEff SAF_EN_WINDOW_MS ∧
      (let s := isl' (fun x => { x with us := 1000000 })
       s.isl.bucketAt + 1000 * s.safEff SAF_EN_WINDOW_MS ≤ 16 * s.isl.us)) ∧
    (let c : MsgCopy := { seq := 7, port := .a, w1 := 0, w2 := 1, at_ := 0 }
     let s (n : Nat) (l : Bool) := isl' (fun x => { x with us := n, copies := [{ c with past := l }] }) (saf' [(safKey SAF_MSG_MODE 0, 1)])
     ((s 0 false).isl.copies.find? (fun (c : MsgCopy) => c.seq == 7) = some c ∧ (s 0 false).isl.sLast = none ∧
       ¬ (c.at_ + 1000 * (s 0 false).saf SAF_MSG_SKEW_MS < (s 0 false).isl.us)) ∧
      c.at_ + 1000 * (s 1000000 false).saf SAF_MSG_SKEW_MS < (s 1000000 false).isl.us ∧
      (s 0 true).isl.copies = [{ c with past := true }]) ∧
    (let s := isl' (fun x => { x with untaken := 3, encB := { speed := 2 } })
     3 ≤ s.isl.untaken ∧ s.pwr.good = true ∧ s.pwr.failing = false ∧ s.turning = true ∧ s.isl.fault = false ∧ s.isl.stop < 2) ∧
    (let s := saf' [(safKey SAF_MSG_MODE 0, 1)]
     s.saf SAF_MSG_MODE = 1 ∧ s.pwr.dev = .run ∧ s.isl.us < s.isl.msgAt + 1000 * s.saf SAF_MSG_TIMEOUT_MS ∧
     (0 : Word).toNat = s.saf SAF_MSG_SOURCE_ID ∧ s.isl.sLast = none ∧
      (isl' (fun x => { x with us := 100000 }) s).isl.msgAt + 1000 * s.saf SAF_MSG_TIMEOUT_MS ≤ 100000) ∧
    (let ws : List Word := [7, 0, 1]
     (w32 (crc32c (wordsBytes ws))).toNat = crc32c (wordsBytes ws)) ∧
    up.saf SAF_MSG_MODE = 0 ∧ (enum' (fun x => { x with addr := some 1 })).enum.addr ≠ none := by
  and_intros <;> first | decide +kernel | rfl

theorem witness_FusedBoundsRestrictTheSafetyParameters :
    (SAF_SIN_FUNC ∈ safPars ∧ SAF_SIN_FUNC ≠ SAF_EN_LIMIT_NJ ∧ SAF_SIN_FUNC ≠ SAF_PULSE_LIMIT_NJ ∧ SAF_SIN_FUNC ≠ SAF_EN_GAIN ∧
      SAF_SIN_FUNC ≠ SAF_EN_WINDOW_MS ∧ SAF_SIN_FUNC ≠ SAF_SECTORS ∧ SAF_SIN_FUNC ≠ SAF_STALL_RPS) ∧
    (safFuse SAF_EN_LIMIT_NJ.idx = some 14 ∧ tfind up.fuse.island (fuseKey 14 0) = none) := by
  and_intros <;> decide +kernel

/-! Chapters 11 and 12. -/
def port' (f : EthPort → EthPort) (s : State := up) : State := s.setPort 0 f
def mbx' (f : Mbx → Mbx) (s : State := up) : State := s.setMbx 0 f
def sess' (f : Sess → Sess) (s : State := up) : State := s.setSess 1 f
def dgram0 : Dgram := { queue := 2, chain := 0, bind := { cls := 1, port := 1 }, seq := 0, recs := [[1, 2]], lost := 0 }
/-- A received IPv4 UDP frame to port A's own MAC address. -/
def rx0 : RxFrame :=
  { fcsOk := true, mac := up.macOf 0, vid := none, etype := 0x0800, ip := 4, odd := false, proto := 17, dst := 0, udp := 9, bytes := []
    router := none }

theorem witness_EthernetCommandsComplete :
    let dest := msg 0x0B04 [1023, 2, 0, 0, 0, 0xC0A80001, 0, 0, 0]
    let s5 := p' (fun p => { p with dest := [(5, [2, 0, 0, 0, 0, 0, 0, 0])] })
    let bind := msg 0x0B06 [32766 + 2 * 32768, 1 + 1 * 16 + 5 * 65536, 512 * 512, 9216, 64] s5
    ((msg 0x0B01 [1]).turn 0 0x0B01 ∧ ((msg 0x0B01 [1]).pw 0 0).fld 31 1 = 0) ∧
    (dest.turnP 0 0x0B04 ∧ (dest.pw 0 0).fld 31 10 = 0 ∧ destOk ((span 1 8).map (dest.pw 0)) = true ∧ (dest.pw 0 1).bit 1 = true ∧
      destMulticast ((span 1 8).map (dest.pw 0)) = false) ∧
    ((msg 0x0B05 [1023]).turn 0 0x0B05 ∧ ((msg 0x0B05 [1023]).pw 0 0).fld 31 10 = 0) ∧
    (bind.turnP 0 0x0B06 ∧ (bind.pw 0 0).bit 31 = false ∧ (bind.pw 0 0).fld 14 0 + (bind.pw 0 0).fld 30 15 = 32768 ∧
      bind.bindingOk (fun i => bind.pw 0 (1 + i)) ((bind.pw 0 0).fld 14 0) ((bind.pw 0 0).fld 30 15) = true) ∧
    ((msg 0x0B07 [32767]).turn 0 0x0B07 ∧ ((msg 0x0B07 [32767]).pw 0 0).fld 31 15 = 0) := by
  refine ⟨⟨turn_of ?_, ?_⟩, ⟨turnP_of ?_, ?_⟩, ⟨turn_of ?_, ?_⟩, ⟨turnP_of ?_, ?_⟩, turn_of ?_, ?_⟩ <;> decide +kernel

theorem witness_EthernetEventsRun :
    (up.port Port.a.n).up = false ∧
    (let s := port' (fun e => { e with up := true })
     (s.port Port.a.n).up = true ∧ rx0.fcsOk = true ∧ rx0.mac = s.macOf Port.a.n ∧ rx0.vid = none ∧ rx0.etype ≠ 0x88F7 ∧
      rx0.size ≤ 9216 ∧ rx0.asks = false ∧
      rx0.etype ≠ 0x0806 ∧ rx0.odd = false ∧ rx0.ip = 4 ∧ rx0.proto = 17 ∧ ({ rx0 with fcsOk := false } : RxFrame).fcsOk = false) ∧
    (let ping : RxFrame := { rx0 with proto := 1, asks := true, from_ := 1 }
     let s := port' (fun e => { e with up := true, wire := some (.fw false 0) })
     (s.port Port.a.n).up = true ∧ (s.port Port.a.n).wire ≠ none ∧ ping.fcsOk = true ∧ ping.mac = s.macOf Port.a.n ∧ ping.odd = false ∧
      ping.proto = 1 ∧ ping.asks = true) ∧
    (let s := p' (fun p => { p with dest := [(5, [2, 0, 0, 0, 0xC0A80001, 0, 0, 0])] })
     let t := port' (fun e => { e with up := true }) s
     let v6 := p' (fun p => { p with dest := [(5, [3, 0, 0, 0, 0x20010000, 0, 0, 1])] }) (port' (fun e => { e with up := true }))
     (tfind t.p.dest 5).isSome = true ∧ (wd (t.destOf 5) 0).bit 1 = true ∧ destV6 (t.destOf 5) = false ∧
      destMulticast (t.destOf 5) = false ∧ (t.port 0).up = true ∧ (s.port 0).up = false ∧
      (par' ETH_IPV4_PREFIX 0 t).offPrefix 0 (t.destOf 5) = false ∧
      (par' ETH_IPV4_PREFIX 24 t).offPrefix 0 (t.destOf 5) = true ∧
      (wd (v6.destOf 5) 0).bit 1 = true ∧ (v6.port 0).up = true ∧ (par' ETH_IPV6_PREFIX 64 v6).offPrefix 0 (v6.destOf 5) = true ∧
      destV6 (v6.destOf 5) = true ∧ (defaultRouter (v6.port 0).routers).map (·.toNat) = none ∧
      v6.nextHop 0 (v6.destOf 5) = none ∧ destMulticast (v6.destOf 5) = false) ∧
    (up.queue 32767).cur = [] ∧ ((up.setQueue 2 (fun q => { q with cur := [[1]] })).queue 2).cur ≠ [] ∧
    (up.port Port.a.n).wire = none ∧
    (let e : Dgram := { dgram0 with bind := { cls := 11, port := 3 } }
     let s := port' (fun x => { x with up := true, wire := some (.dgram dgram0), wait := [e] })
     (s.port Port.a.n).wire = some (.dgram dgram0) ∧ (s.port Port.a.n).up = true ∧
      (headsOf (s.port Port.a.n).wait).find? (fun (e : Dgram) => e.prio == 1) = some e) ∧
    (let e : Dgram := { dgram0 with bind := { cls := 10, port := 3 } }
     let s := port' (fun x => { x with up := true, wire := some (.dgram dgram0), wait := [e] })
     (headsOf (s.port Port.a.n).wait).find? (fun (e : Dgram) => e.prio == 1) = none ∧
      (headsOf (s.port Port.a.n).wait).find? (fun (e : Dgram) => e.prio == 2) = some e) ∧
    (up.dom (80 + Port.a.n) = true ∧ up.ethMode Port.a.n ≠ 0) ∧ State.reset.dom (80 + Port.a.n) = false := by
  and_intros <;> decide +kernel

theorem witness_IdentityAndSessionCommandsComplete :
    let withSess (n : Word) (op : Nat) (ws : List Word) (f : Sess → Sess) : State :=
      ((msg op ws).setMw 0 2 (n ||| pack [(0, 16), (ws.length, 10)])).setSess n.toNat f
    let act (x : Sess) : Sess := { x with st := 2, fresh := false }
    let full : State := (List.range 9).foldl (fun (s : State) n => s.setSess n act) (withSess 0 0x0102 [] id)
    let own := withSess 1 0x0103 [0] act
    (msg 0x0101).turn 0 0x0101 ∧ (msg 0x0104).turn 0 0x0104 ∧ (msg 0x0105).turn 0 0x0105 ∧ (msg 0x0106 [7]).turn 0 0x0106 ∧
    (msg 0x010A).turn 0 0x010A ∧
    ((withSess 1 0x0102 [] act).turn 0 0x0102 ∧ (withSess 1 0x0102 [] act).sessOf 0 ≠ 0) ∧
    (full.turn 0 0x0102 ∧ full.sessOf 0 = 0 ∧ (full.pw 0 0).fld 31 1 = 0 ∧ full.freeSession = 0) ∧
    (let s := withSess 0 0x0102 [1] id
     s.turn 0 0x0102 ∧ s.sessOf 0 = 0 ∧ (s.pw 0 0).fld 31 1 = 0 ∧ s.freeSession ≠ 0) ∧
    ((msg 0x0103 [8]).turn 0 0x0103 ∧ ((msg 0x0103 [8]).pw 0 0).fld 31 4 = 0 ∧ ((msg 0x0103 [8]).pw 0 0).fld 3 0 = 8 ∧
      ((msg 0x0103 [8]).mbx 0).service = true) ∧
    (let s := mbx' (fun b => { b with service := false }) (msg 0x0103 [8])
     s.turn 0 0x0103 ∧ (s.pw 0 0).fld 3 0 ≠ s.sessOf 0 ∧ (s.mbx 0).service = false) ∧
    (own.turn 0 0x0103 ∧ own.pw 0 0 = 0 ∧ own.sessOf 0 = 1 ∧ (own.mbx 0).fromChain = none ∧
      ((mbx' (fun b => { b with fromChain := some true }) own).mbx 0).fromChain ≠ none) ∧
    (let s := withSess 0 0x0103 [0] id
     s.turn 0 0x0103 ∧ s.pw 0 0 = 0 ∧ s.sessOf 0 = 0) ∧ (msg 0x0107).turn 0 0x0107 ∧
    (let s := (tb' (fun t => { t with tick := usTicks 1000000 })).setSess 8 (fun x => { x with st := 1 })
     (s.sess (7 + 1)).st = 1 ∧ (s.sess (7 + 1)).since + usTicks 1000000 ≤ s.tb.tick) ∧
    (let s := (tb' (fun t => { t with tick := 10 ^ 18 })).setSess 8 (fun x => { x with st := 2 })
     (s.sess (7 + 1)).st = 2 ∧ s.val SKE_IDLE_S ≠ 0 ∧ (s.sess (7 + 1)).since + usTicks (1000000 * s.val SKE_IDLE_S) ≤ s.tb.tick) ∧
    ((up.sess (7 + 1)).st = 0 ∧ (par' SKE_IDLE_S 0).val SKE_IDLE_S = 0) := by
  refine ⟨turn_of ?_, turn_of ?_, turn_of ?_, turn_of ?_, turn_of ?_, ⟨turn_of ?_, ?_⟩, ⟨turn_of ?_, ?_⟩, ⟨turn_of ?_, ?_⟩,
    ⟨turn_of ?_, ?_⟩, ⟨turn_of ?_, ?_⟩, ⟨turn_of ?_, ?_⟩, ⟨turn_of ?_, ?_⟩, turn_of ?_, ?_⟩ <;> decide +kernel

theorem witness_FirmwareSlotsChange :
    let plain (op : Nat) := mbx' (fun b => { b with service := false }) (msg op)
    let w := msg 0x010C [6291455, 1, 5]
    ((msg 0x010B).turn 0 0x010B ∧ (msg 0x010B).ske.erasing = none) ∧
    ((ske' (fun x => { x with erasing := some 3 })).ske.erasing = some 3 ∧ up.boot.slot ≤ 1) ∧
    (w.turn 0 0x010C ∧ (w.pw 0 0).fld 31 23 = 0 ∧ (w.pw 0 1).fld 31 10 = 0 ∧ (w.pw 0 1).fld 9 0 = 1 ∧
      (w.pw 0 0).fld 22 0 + (w.pw 0 1).fld 9 0 = slotWords ∧
      tfind w.slot (w.standby * slotWords + (w.pw 0 0).fld 22 0 + 0) = none) ∧
    (msg 0x010D).turn 0 0x010D ∧ ((msg 0x010E [2]).turnP 0 0x010E ∧ ((msg 0x010E [2]).pw 0 0).fld 31 2 = 0 ∧
      ((msg 0x010E [2]).pw 0 0).fld 1 0 ≠ 3) ∧
    (cmdOp (.fwErase 0) = some (0, 0x010B) ∧ (plain 0x010B).holds 0 0x010B = true ∧ (plain 0x010B).behind 0 = false ∧
      (plain 0x010B).pwr.safe = false ∧ ((plain 0x010B).mbx 0).service = false) ∧
    (up.spAlive = true ∧ (boot' (fun b => { b with stage := 5 })).boot.stage = 5 ∧ (boot' (fun b => { b with stage := 6 })).boot.stage = 6 ∧
      (boot' (fun b => { b with stage := 6 })).spAlive = true) := by
  refine ⟨⟨turn_of ?_, ?_⟩, ?_, ⟨turn_of ?_, ?_⟩, turn_of ?_, ⟨turnP_of ?_, ?_⟩, ?_, ?_⟩ <;> decide +kernel

theorem witness_ServicePortAccesses :
    up.spAlive = true ∧ (pwr' (fun p => { p with dev := .sleep })).spAlive = false ∧ ((0x1FFC3 : Word).fld 31 17 = 0) ∧ up.boot.stage ≠ 6 ∧
    ((0x0C : BitVec 8).toNat < 128 ∧ (0x0C : BitVec 8).toNat % 128 = 12 ∧ (0x03 : BitVec 8).toNat % 128 = 3 ∧
      (0x07 : BitVec 8).toNat % 128 = 7 ∧ (0x0A : BitVec 8).toNat % 128 = 10 ∧ 128 ≤ (0x80 : BitVec 8).toNat ∧
      128 ≤ (0x8A : BitVec 8).toNat ∧ (0x8A : BitVec 8).toNat % 128 = 10 ∧ [(0 : BitVec 8)].length = 1) ∧
    (∃ t, exec (.spMbxDataAccess false 5) up = .next t) ∧
    (let s := mbx' (fun b => { b with st := 1 })
     (s.mbx s.ske.spMbx).st = 1) ∧
    (let s := boot' (fun b => { b with stage := 6 })
     s.spAlive = true ∧ s.boot.stage = 6 ∧ s.boot.recover < slotWords) ∧
    (let s := mbx' (fun b => { b with st := 1 }) ((up.setMws 0 0 [0x0101, 0, pack [(1, 4), (0, 12), (1023, 10)]]))
     (0 : Word).fld 31 6 = 0 ∧ (s.mbx 0).st = 1 ∧ s.boot.stage = 4 ∧ s.spLocked = false ∧
       4096 < wantedBytes ((List.range 4).map (s.mw 0)) true) ∧
    (let s := mbx' (fun b => { b with st := 1 }) (up.setMws 0 0 [0x0101])
     (s.mbx 0).st = 1 ∧ s.boot.stage = 4 ∧ s.spLocked = false ∧ s.plen 0 ≤ 1016 ∧ s.sessOf 0 = 0 ∧ s.opcode 0 ≠ 0x0A20 ∧
      (s.mw 0 0).fld 24 22 = s.addr ∧ headerOk ((List.range (4 + s.plen 0)).map (s.mw 0)) = true) := by
  and_intros <;> first | decide +kernel | exact ⟨_, rfl⟩

theorem witness_ArrivingMessageIsPlacedOrBusy :
    (up.arrives (gram [0x0101, 1, 0, 0]) ∧ (up.mbx 0).st = 0) ∧
    ((mbx' (fun b => { b with st := 2 })).arrives (gram [0x0101, 1, 0, 0]) ∧ ((mbx' (fun b => { b with st := 2 })).mbx 0).st ≠ 0) ∧
    ((pwr' (fun p => { p with dev := .sleep })).pwr.dev = .sleep ∧ up.pwr.dev ≠ .sleep ∧ up.pwr.dev ≠ .off ∧ up.boot.phase ≠ 2) ∧
    ((mbx' (fun b => { b with st := 2 }) (port' (fun e => { e with up := true }))).port Port.a.n).up = true ∧
    (let s := mbx' (fun b => { b with st := 3, ready := true })
     (s.mbx 0).ready = true ∧ (s.mbx 0).st = 3) ∧
    (up.enum.fault = false ∧ (wd [(0x0101 : Word), 1, 0, 0] 0).bit 25 = false ∧ (wd [(0x0101 : Word), 1, 0, 0] 0).fld 24 22 = up.addr ∧
      up.boot.stage = 4 ∧ headerOk [(0x0101 : Word), 1, 0, 0] = true ∧ (up.mbx ((wd [(0x0101 : Word), 1, 0, 0] 0).fld 21 16)).st = 0 ∧
      leNat ((gram [0x0A20, 0, 0, 0, 1, 2, 3, 4]).bytes.take 2) = 0x0A20) := by
  refine ⟨⟨?_, ?_⟩, ⟨?_, ?_⟩, ?_, ?_, ?_, ?_⟩
  · unfold State.arrives; decide +kernel
  · decide +kernel
  · unfold State.arrives; decide +kernel
  all_goals decide +kernel

theorem witness_SequenceIsAcceptedOnce :
    let x : Sess := { fresh := false, smax := 70, seen := 0b1001 }
    ({} : Sess).fresh = true ∧ x.fresh = false ∧ x.accepts 69 = true ∧ x.accepts 71 = true ∧ (x.smax - 67).toNat < 64 ∧
      x.seen.getLsbD (x.smax - 67).toNat = true ∧ ((x.mark 71).smax - 67).toNat < 64 ∧ (wd [(0 : Word), 1] 2).fld 3 0 = 0 := by
  decide +kernel

theorem witness_ResponseIsWrittenWhole :
    63 < 64 ∧ (up.mbx 63).st = 0 ∧ ((up.setMbx 63 (fun b => { b with st := 2, viaSp := true })).mbx 63).st ≠ 0 ∧
      ((up.setMbx 63 (fun b => { b with st := 2, viaSp := true })).mbx 63).viaSp = true ∧
      ((up.setMbx 63 (fun b => { b with st := 2 })).mbx 63).viaSp = false := by
  decide +kernel

/-! Chapters 13 and 14. -/
/-- A follower with address 1, and its chain changed. -/
def fol (s : State := up) : State := enum' (fun x => { x with addr := some 1, cond := false }) s
def cond (s : State := up) : State := enum' (fun x => { x with addr := some 0, cond := true }) s
def ch' (f : Chain → Chain) (s : State := up) : State := { s with ch := f s.ch }
def therm' (f : Therm → Therm) (s : State := up) : State := { s with therm := f s.therm }
/-- A trigger word of a type with the low 92 bits given. -/
def trig (typ rest : Nat) : BitVec 96 := BitVec.ofNat 96 (typ * 2 ^ 92 + rest)

theorem witness_ChainCommandsEnumerationAndMembersRun :
    let two := ch' (fun x => { x with mems := [(1, { reach := true, aligned := true })] }) (cond)
    let fresh := enum' (fun x => { x with addr := none, cond := false })
    (msg 0x0C01).turn 0 0x0C01 ∧
    ((msg 0x0C04 [] fol).turn 0 0x0C04 ∧ (msg 0x0C04 [] fol).follower = true) ∧
    ((msg 0x0C04 [] (seq' (fun x => { x with run := 1 }))).turn 0 0x0C04 ∧
      (msg 0x0C04 [] (seq' (fun x => { x with run := 1 }))).follower = false ∧
      (msg 0x0C04 [] (seq' (fun x => { x with run := 1 }))).seq.run ≠ 0) ∧
    ((msg 0x0C04 [] cond).turn 0 0x0C04 ∧ (msg 0x0C04 [] cond).follower = false ∧ (msg 0x0C04 [] cond).seq.run = 0 ∧
      (msg 0x0C04 [] cond).allReach = true ∧ (msg 0x0C04 [] cond).lastAddr = 0) ∧
    ((msg 0x0C04 [] two).turn 0 0x0C04 ∧ (msg 0x0C04 [] two).allReach = true ∧ (msg 0x0C04 [] two).lastAddr = 1 ∧
      (msg 0x0C04 [] two).ch.measuring = none ∧ (msg 0x0C04 [] two).ch.words = [] ∧
      (msg 0x0C04 [] two).ch.busFree ≤ (msg 0x0C04 [] two).tb.tick) ∧
    (let s := msg 0x0C04 [] (ch' (fun x => { x with busFree := 5 }) two)
     s.turn 0 0x0C04 ∧ s.follower = false ∧ s.seq.run = 0 ∧ s.allReach = true ∧ s.lastAddr ≠ 0 ∧ s.tb.tick < s.ch.busFree) ∧
    (let s := msg 0x0C04 [] (ch' (fun x => { x with mems := [(1, { reach := false })] }) cond)
     s.turn 0 0x0C04 ∧ s.follower = false ∧ s.seq.run = 0 ∧ s.allReach = false) ∧
    ((msg 0x0C05 [1]).turn 0 0x0C05 ∧ ((msg 0x0C05 [1]).pw 0 0).fld 31 1 = 0) ∧
    (fresh.pwr.good = true ∧ fresh.enum.addr = none ∧ fresh.enum.fault = false ∧ fresh.enum.pulse = false ∧ fresh.enum.clock = false ∧
      fresh.enum.cond = false) ∧
    (let s := enum' (fun x => { x with clock := true }) fresh
     s.enum.pulse = false ∧ s.enum.clock = true) ∧
    (enum' (fun x => { x with addr := some 6 })).enum.addr = some 6 ∧
    (let s := enum' (fun x => { x with last := some 7 }) fresh
     s.enum.fault = false ∧ s.enum.last = some 7 ∧ fresh.enum.last ≠ some 7) ∧
    (let s := boot' (fun b => { b with stage := 3 }) cond
     s.enum.cond = true ∧ s.boot.stage ≠ 4 ∧ s.enum.fault = false) ∧
    (cond.enum.addr ≠ none ∧ cond.boot.stage = 4) ∧ fol.follower = true ∧
    (let s := ch' (fun x => { x with up := { x.up with st := 2 } }) fol
     s.enum.addr ≠ none ∧ (s.link s.enum.cond).st = 2 ∧ s.passesOn = true ∧ s.ch.up.st = 2) ∧
    (two.enum.cond = true ∧ (tget {} two.ch.mems 1).reach = true ∧
      two.tb.tick < (tget {} two.ch.mems 1).at_ + usTicks (two.val CH_MEMBER_TIMEOUT_US) ∧ (tget {} two.ch.mems 7).reach = false ∧
      (let s := tb' (fun t => { t with tick := usTicks (two.val CH_MEMBER_TIMEOUT_US) }) two
       (tget {} s.ch.mems 1).reach = true ∧ (tget {} s.ch.mems 1).at_ + usTicks (s.val CH_MEMBER_TIMEOUT_US) ≤ s.tb.tick)) ∧
    (let s := p' (fun p => { p with dest := [(5, [0, 0, 1, 0, 0, 0, 0, 0])] }) (port' (fun e => { e with up := true }) cond)
     let d : FwdDgram := { chain := 1, queue := 2, cls := 1, port := 1, dest := 5, pcp := 0, dscp := 0, seq := 0, lost := 0, recs := [[1]] }
     s.enum.cond = true ∧ d.chain ≠ s.addr ∧ d.port = 1 ∧ (s.port 0).up = true ∧ (s.destMac 0 d.dest).isSome = true) ∧
    (let s := ch' (fun x => { x with down := { x.down with st := 2 } }) fol
     s.follower = true ∧ s.ch.down.st = 2 ∧ s.passesOn = true) := by
  refine ⟨turn_of ?_, ⟨turn_of ?_, ?_⟩, ⟨turn_of ?_, ?_⟩, ⟨turn_of ?_, ?_⟩, ⟨turn_of ?_, ?_⟩, ⟨turn_of ?_, ?_⟩, ⟨turn_of ?_, ?_⟩,
    ⟨turn_of ?_, ?_⟩, ?_⟩
  all_goals and_intros
  all_goals decide +kernel

theorem witness_TriggerBusAndLinksRun :
    up.ch.words = [] ∧
    (let w : Nat × Nat × Nat := (1, 2, 0)
     let s := ch' (fun x => { x with words := [w] }) cond
     s.enum.cond = true ∧ w ∈ s.ch.words ∧ w.2.2 ≤ s.tb.tick ∧ s.ch.busFree ≤ s.tb.tick ∧ ∀ v ∈ s.ch.words, v ≠ w → w.2.2 < v.2.2) ∧
    ({ fol with pwr := { fol.pwr with dev := .sleep } }.repeats = true ∧ { fol with pwr := { fol.pwr with dev := .off } }.repeats = false) ∧
    (fol.follower = true ∧ fol.enum.fault = false ∧ fol.repeats = true ∧ fol.pwr.dev ≠ .sleep ∧ fol.boot.phase ≠ 2 ∧ triggerCrc (trig 1 0) ≠ triggerCrc (trig 1 0) + 1 ∧ pbits (trig 4 0) 95 92 = 4) ∧
    (let f : Frame := { seq := 0, start := 0, bank := 0 }
     let s := bank1' (seq' (fun q => { q with run := 1, frames := [f] }) fol)
     pbits (trig 1 (5 + 7 * 2 ^ 66)) 95 92 = 1 ∧ s.seq.run ≠ 0 ∧ s.wordFrame (trig 1 (5 + 7 * 2 ^ 66)) = some f ∧
      s.wordImageOk (trig 1 (5 + 7 * 2 ^ 66)) = true ∧ pbits (trig 1 (5 + 7 * 2 ^ 66)) 91 74 < (s.bank f.bank).entries) ∧
    (pbits (trig 2 0) 95 92 = 2 ∧ fol.works 90 = true ∧ (bank1' fol).wordImageOk (trig 2 0) = true ∧ fol.seq.latch = [] ∧
      pbits (trig 2 0) 91 91 = fol.kept.active) ∧
    (pbits (trig 2 (2 ^ 91)) 91 91 ≠ fol.kept.active ∧ fol.kept.armed = false) ∧
    (pbits (trig 3 0) 95 92 = 3 ∧ fol.inFrame = false) ∧
    (let s := seq' (fun q => { q with run := 1, frames := [{ seq := 0, start := 0, bank := 0 }] }) fol
     s.inFrame = true ∧ s.kept.frame = pbits (trig 3 0) 63 32) ∧
    (let s := kept' (fun k => { k with hopUp := some 65536 }) fol
     pbits (trig 5 9) 95 92 = 5 ∧ s.kept.hopUp = some 65536 ∧ s.ch.aligned = false) ∧
    up.ch.alignLeft = 0 ∧ (ch' (fun x => { x with alignLeft := -3 })).ch.alignLeft ≠ 0 ∧
    (let s := ch' (fun x => { x with frameAt := some 0 }) (bank1' (seq' (fun q => { q with run := 1 }) fol))
     let t := tb' (fun t => { t with tick := 104097 }) s
     s.ch.frameAt = some 0 ∧ s.tb.tick ≤ 0 + (s.bank s.kept.active).period + 4096 ∧ t.ch.frameAt = some 0 ∧ t.follower = true ∧
      t.seq.run ≠ 0 ∧ t.inFrame = true ∧ (seq' (fun q => { q with first := some 0 }) t).inFrame = false ∧ t.seq.latch = [] ∧ 0 + (t.bank t.kept.active).period + 4096 < t.tb.tick) ∧ up.follower = false ∧ up.ch.frameAt = none ∧
    (let s := kept' (fun k => { k with bank0 := { image := true } }) fol
     s.works 90 = true ∧ s.wordImageOk (trig 2 0) = false) ∧
    (cond.enum.addr = some (0 : Fin 7).val ∧ cond.ch.measuring = none ∧ fol.enum.addr = some ((0 : Fin 7).val + 1) ∧
      fol.enum.cond = false ∧ fol.ch.measuring = none) ∧
    (let s := ch' (fun x => { x with mems := [(1, { reach := true }), (2, { reach := true })], measuring := some (3, 0) }) cond
     s.ch.measuring = some (3, (0 : Fin 7).val) ∧ (0 : Fin 7).val + 1 < s.lastAddr) ∧
    (let s := ch' (fun x => { x with mems := [(1, { reach := true })], measuring := some (3, 0) }) cond
     s.ch.measuring = some (3, (0 : Fin 7).val) ∧ s.lastAddr ≤ (0 : Fin 7).val + 1) ∧
    (State.reset.dom 83 = false ∧ up.dom 83 = true ∧ up.dom 82 = true ∧ (up.link true).st ≠ 2) ∧
    (let s := ch' (fun x => { x with down := { x.down with st := 2 } })
     (s.link true).st = 2 ∧ (0 : Nat) = (0 : Fin 4).val ∧ (64 : Nat) ≤ 64) ∧
    (let s := ch' (fun x => { x with down := { x.down with st := 1, marks := [(0, 1), (1, 2), (2, 2), (3, 2)] } })
     (s.link true).st = 1 ∧ 1 ≤ tget 0 (s.link true).marks (0 : Fin 4) ∧ ∀ k : Fin 4, k ≠ 0 → 2 ≤ tget 0 (s.link true).marks k) := by
  and_intros <;> decide +kernel

theorem witness_HousekeepingCommandsAndScanRun :
    let slotSet := msg 0x0D04 [62 + 2 * 64, 0x100, 100, 0x100, 100]
    let curve := msg 0x0D06 (7 :: (List.range 32).flatMap (fun k => [BitVec.ofNat 32 k, BitVec.ofNat 32 k]))
    let n2 := par' HK_SLOT_COUNT 2
    (msg 0x0D01).turn 0 0x0D01 ∧ (msg 0x0D08).turn 0 0x0D08 ∧
    (slotSet.turnP 0 0x0D04 ∧ (slotSet.pw 0 0).fld 31 13 = 0 ∧ (slotSet.pw 0 0).fld 12 6 = 2 ∧
      (slotSet.pw 0 0).fld 5 0 + (slotSet.pw 0 0).fld 12 6 = 64 ∧ ∀ i, i < 2 →
        slotOk [slotSet.pw 0 (1 + 2 * i), slotSet.pw 0 (2 + 2 * i)] = true ∧ slotSet.work HK_CA_ENABLE 0 = 0) ∧
    ((msg 0x0D05 [64 * 64]).turn 0 0x0D05 ∧ ((msg 0x0D05 [64 * 64]).pw 0 0).fld 5 0 + ((msg 0x0D05 [64 * 64]).pw 0 0).fld 12 6 ≤ 64) ∧
    (msg 0x0D07 [63 + 1 * 64]).turn 0 0x0D07 ∧
    (curve.turnP 0 0x0D06 ∧ (curve.pw 0 0).fld 31 3 = 0 ∧ (∀ i, i < 32 → -8388608 ≤ sgn 32 (curve.pw 0 (1 + 2 * i)).toNat ∧
        sgn 32 (curve.pw 0 (1 + 2 * i)).toNat ≤ 8388607) ∧
      (∀ i, i < 31 → sgn 32 (curve.pw 0 (1 + 2 * i)).toNat < sgn 32 (curve.pw 0 (1 + 2 * (i + 1))).toNat)) ∧
    (up.dom 89 = true ∧ up.hkCalibrating = false ∧ up.hk.st = 0 ∧ up.work HK_SCAN_MODE 0 = 1 ∧ (up.force .hkCycle).val HK_SLOT_COUNT = 0) ∧
    ((n2.force .hkCycle).val HK_SLOT_COUNT ≠ 0 ∧ (par' HK_SCAN_MODE 2 n2).work HK_SCAN_MODE 0 = 2) ∧
    (let s := par' HK_SCAN_MODE 2 (hk' (fun h => { h with st := 1 }))
     s.hk.st = 1 ∧ s.dom 89 = true ∧ s.val HK_SCAN_MODE = 2 ∧ s.hk.conv = false) ∧
    (let s := hk' (fun h => { h with st := 1, conv := true, burn := 1, table := [[0x100, 100]] })
     s.hk.st = 1 ∧ s.hk.conv = true ∧ s.hk.burn ≠ 0 ∧ (s.hkSlot 0).trip = false ∧ s.hk.table.length ≤ s.hk.slot + 1 ∧
      slotDc (s.hk.table.getD 0 []) = false) ∧
    (let s := (hk' (fun h => { h with st := 1, conv := true, table := [[0x100, 100], [0x100, 100]] })).setHkSlot 0
       (fun x => { x with trip := true, good := some 5 })
     s.hk.burn = 0 ∧ (s.hkSlot 0).trip = true ∧ (s.hkSlot 0).broken = false ∧ (s.hkSlot 0).good = some 5 ∧ s.hk.slot + 1 < s.hk.table.length) ∧
    up.caOn = false ∧ (par' HK_CA_ENABLE 1).caOn = true ∧ up.caMay = true ∧
    (hk' (fun h => { h with caAt := some 1 })).caMay = false := by
  refine ⟨turn_of ?_, turn_of ?_, ⟨turnP_of ?_, ?_⟩, ⟨turn_of ?_, ?_⟩, turn_of ?_, ⟨turnP_of ?_, ?_⟩, ?_⟩
  all_goals and_intros
  all_goals decide +kernel

theorem witness_ThermalStateFollowsTheReadings :
    State.reset.dom 89 = false ∧ up.dom 89 = true ∧ (List.replicate 12 (1936 : Int)).length = 12 ∧ up.cal.run = none ∧
    up.pwr.safe = false ∧ up.pwr.dev = .run ∧ up.therm.st ≠ 3 ∧
    (let s := therm' (fun x => { x with st := 3, th := 2080, parkAt := some 0 })
       (pwr' (fun x => { x with dev := .park }) (tb' (fun t => { t with tick := 30000 * msTicks })))
     s.therm.parkAt = some 0 ∧ s.therm.st = 3 ∧ s.pwr.dev = .park ∧ s.pwr.trans = none ∧ s.pwr.safe = false ∧
      0 + 30000 * msTicks ≤ s.tb.tick ∧ 2080 ≤ s.therm.th) ∧
    (let s := therm' (fun x => { x with parkAt := some 0 })
     s.therm.parkAt = some 0 ∧ s.tb.tick < 0 + 30000 * msTicks) ∧
    (let s := therm' (fun x => { x with st := 3, th := 2016, parkAt := some 0 })
       (pwr' (fun x => { x with dev := .park }) (tb' (fun t => { t with tick := 30000 * msTicks })))
     s.therm.parkAt = some 0 ∧ s.therm.st = 3 ∧ s.pwr.dev = .park ∧ 0 + 30000 * msTicks ≤ s.tb.tick ∧ s.therm.th < 2080) ∧
    up.val HK_THERMAL_REPORT_MS ≠ 0 ∧ (par' HK_THERMAL_REPORT_MS 0).val HK_THERMAL_REPORT_MS = 0 := by
  and_intros <;> decide +kernel

/-! Chapters 15 to 17, and the queue. -/
def cal' (f : Cal → Cal) (s : State := up) : State := { s with cal := f s.cal }
def fuse' (f : Fuses → Fuses) (s : State := up) : State := { s with fuse := f s.fuse }
def obs' (f : Obs → Obs) (s : State := up) : State := { s with obs := f s.obs }
def wear' (f : Wear → Wear) (s : State := up) : State := { s with wear := f s.wear }
/-- A measurement of channel 0 whose scale error is given. -/
def meas (e : Rat) : CalMeas := {
  ch := 0, interval := 1000000 + e, q0 := 100, slope := 5000, skew := 3, theta := 200, walkHi := [], walkLo := []
  satHi := [], satLo := [], intHi := [], intLo := [], ratio := 4000 }

theorem witness_CalibrationAndFusesRun :
    let run : CalRun := { mbx := 3, left := [1], part := some 0 }
    let idle := cal' (fun x => { x with run := some { mbx := 3, left := [0] } })
    let hk := cal' (fun x => { x with run := some { mbx := 3, left := [], part := some 8 } })
    let run2 := cal' (fun x => { x with run := some { run with passA := some [meas 0], passB := some [meas 0] } })
    let prog : Nat → State := fun w => msg 0x0E08 [BitVec.ofNat 32 w, 5]
    let busy := cal' (fun x => { x with run := some run })
    ((msg 0x0E01).turn 0 0x0E01 ∧ (msg 0x0E01).calRegion = false) ∧
    (let s := msg 0x0E01 [] (cal' (fun x => { x with run := some run }))
     s.turn 0 0x0E01 ∧ s.cal.run = some run ∧ 0 < 8 ∧ 0 ∉ run.left ∧
      (s.val CAL_VREF_MV : Rat) < 50 * absR (((1300 : Nat) : Rat) - (s.val CAL_VREF_MV : Rat))) ∧
    ((msg 0x0E06 [510 + 2 * 512]).turn 0 0x0E06 ∧ ((msg 0x0E06 [510 + 2 * 512]).pw 0 0).fld 31 16 = 0 ∧
      ((msg 0x0E06 [510 + 2 * 512]).pw 0 0).fld 8 0 + ((msg 0x0E06 [510 + 2 * 512]).pw 0 0).fld 15 9 = 512) ∧
    ((msg 0x0E04 [0x1FF] busy).turn 0 0x0E04 ∧ ((msg 0x0E04 [0x1FF] busy).pw 0 0).fld 31 9 = 0 ∧ (msg 0x0E04 [0x1FF] busy).cal.run ≠ none) ∧
    (let s := msg 0x0E04 [0x1FF] (pwr' (fun x => { x with dev := .park }))
     s.turn 0 0x0E04 ∧ s.cal.run = none ∧ s.mayCalibrate = false) ∧
    ((msg 0x0E04 [0x101]).turn 0 0x0E04 ∧ (msg 0x0E04 [0x101]).mayCalibrate = true ∧ (List.range 9).filter (fun i => ((msg 0x0E04 [0x101]).pw 0 0).bit i) ≠ []) ∧
    (msg 0x0E05).turn 0 0x0E05 ∧ ((msg 0x0E05 [] busy).turn 0 0x0E05 ∧ (msg 0x0E05 [] busy).cal.run = some run ∧
      (msg 0x0E05 [] busy).calCommitting = false ∧ run.part = some 0 ∧ 0 ∉ run.left) ∧
    (idle.cal.run = some { mbx := 3, left := [0] } ∧ idle.dom 91 = true ∧ idle.pwr.settling.getLsbD 91 = false ∧ (idle.dom (64 + 0) && idle.regionUp 0) = true) ∧
    (pwr' (fun x => { x with on := x.on &&& ~~~(1#96 <<< 64) }) idle).dom (64 + 0) = false ∧
    (busy.cal.run = some run ∧ run.passB = none ∧
      (busy.val CAL_VREF_MV : Rat) < 50 * absR (1300 - (busy.val CAL_VREF_MV : Rat)) ∧
      ¬ (busy.val CAL_VREF_MV : Rat) < 50 * absR (1250 - (busy.val CAL_VREF_MV : Rat))) ∧
    (let a := [meas 0]
     (cal' (fun x => { x with run := some { run with passA := some a } })).cal.run = some { run with passA := some a } ∧
      up.refFails a = false ∧ up.refFails [meas 100000] = true) ∧
    (run2.cal.run = some { run with passA := some [meas 0], passB := some [meas 0] } ∧ run2.jnl.txn = none ∧
      measOf [meas 0] 0 = some (meas 0) ∧ run2.passes (meas 0) (meas 0) = true ∧ run2.passes (meas 0) (meas 100000) = false) ∧
    (hk.cal.run = some { mbx := 3, left := [], part := some 8 } ∧ hk.hk.st = 0 ∧ hk.jnl.txn = none) ∧
    (let s := par' CAL_STALE_H 1 (wear' (fun x => { x with calAt := [(5, 10)] }))
     tfind s.wear.calAt (5 : Fin 512) = some 10 ∧ s.val CAL_STALE_H ≠ 0) ∧
    ((msg 0x0E07 [16 + 7 * 32]).turn 0 0x0E07 ∧ ((msg 0x0E07 [16 + 7 * 32]).pw 0 0).fld 31 10 = 0 ∧
      fuseExists (((msg 0x0E07 [16 + 7 * 32]).pw 0 0).fld 4 0) (((msg 0x0E07 [16 + 7 * 32]).pw 0 0).fld 9 5) = true) ∧
    ((prog 6).turn 0 0x0E08 ∧ leNat (wordsBytes ((span 1 ((fuseBits.getD 6 0 + 31) / 32)).map ((prog 6).pw 0))) < 2 ^ fuseBits.getD 6 0 ∧
      (prog 6).fuse.work = none) ∧
    ((prog 9).turn 0 0x0E08 ∧ leNat (wordsBytes ((span 1 ((fuseBits.getD 9 0 + 31) / 32)).map ((prog 9).pw 0))) < 2 ^ fuseBits.getD 9 0 ∧
      ((prog 9).mbx 0).viaSp = false ∧ ((mbx' (fun b => { b with viaSp := true }) (prog 9)).mbx 0).viaSp = true ∧
      turnB (mbx' (fun b => { b with viaSp := true }) (prog 9)) 0 0x0E08 = true ∧ (prog 9).pwr.dev ≠ .park) ∧
    ((prog 7).turn 0 0x0E08 ∧ leNat (wordsBytes ((span 1 ((fuseBits.getD 7 0 + 31) / 32)).map ((prog 7).pw 0))) < 2 ^ fuseBits.getD 7 0 ∧
      (prog 7).freeGen 7 0 = some 0 ∧
      (fuse' (fun f => { f with gens := (List.range 8).map (fun g => (7 * 64 * 8 + g, { marker := true })) }) (prog 7)).freeGen 7 0 = none) ∧
    (fuse' (fun f => { f with work := some { field := 7, inst := 0, gen := 0, value := 5, mbx := 0 } })).fuse.work =
      some { field := 7, inst := 0, gen := 0, value := 5, mbx := 0 } := by
  refine ⟨⟨turn_of ?_, ?_⟩, ⟨turn_of ?_, ?_⟩, ⟨turn_of ?_, ?_⟩, ⟨turn_of ?_, ?_⟩, ⟨turn_of ?_, ?_⟩, ⟨turn_of ?_, ?_⟩, turn_of ?_,
    ⟨turn_of ?_, ?_⟩, ?_, ?_, ?_, ?_, ?_, ?_, ?_, ⟨turn_of ?_, ?_⟩, ⟨turn_of ?_, ?_⟩, ⟨turn_of ?_, ?_⟩, ⟨turn_of ?_, ?_⟩, ?_⟩
  all_goals and_intros
  all_goals decide +kernel

theorem witness_JournalTransactionsCommitAndCompact :
    let x : Txn := { seq := 1, subj := 2, left := 2, waiter := .none }
    let tx : Txn → State := fun x => jnl' (fun j => { j with txn := some x })
    let c : Compaction := { seq := 1 }
    let co : Compaction → State := fun c => jnl' (fun j => { j with comp := some c })
    let last (c : Compaction) : Bool :=
      let u := (co c).takePage
      (u.nextSnapPage (if c.pages = 0 then { c with beginBlock := some u.jnl.blockNow, opened := u.jnl.opened } else c)).2
    let long : Compaction := { seq := 1, carry := 1000, pages := 1 }
    let erase (f : Journal → Journal) : State := jnl' (fun j => f { j with erasing := some 4, blocks := [(4, { st := 2, seq := 7 })] })
    (msg 0x0F01).turn 0 0x0F01 ∧
    ((msg 0x0F04 [] (co c)).turn 0 0x0F04 ∧ (msg 0x0F04 [] (co c)).jnl.comp ≠ none) ∧
    ((msg 0x0F04).turn 0 0x0F04 ∧ (msg 0x0F04).jnl.comp = none ∧ (msg 0x0F04).jnl.readOnly = false) ∧
    up.jnl.txn = none ∧ ((tx x).jnl.txn = some x ∧ 1 < x.left ∧ x.failed < 3) ∧
    ((tx { x with left := 1 }).jnl.txn = some { x with left := 1 } ∧ (tx x).jnl.readOnly = false ∧ (tx x).jnl.comp = none) ∧
    (tx { x with failed := 3 }).jnl.txn = some { x with failed := 3 } ∧
    up.jnl.log = [] ∧ (tx { x with failed := 3 }).jnl.log = [] ∧
    up.jnl.comp = none ∧ ((co c).jnl.comp = some c ∧ (co c).jnl.txn = none ∧ c.pages = 0 ∧ last c = true ∧ c.failed < 3) ∧
    ((co long).jnl.comp = some long ∧ long.pages ≠ 0 ∧ last long = false) ∧
    (co { c with failed := 3 }).jnl.comp = some { c with failed := 3 } ∧
    up.jnl.erasing = none ∧ ((erase id).jnl.erasing = some 4 ∧ (erase id).jnl.txn = none ∧ (erase id).pwr.failing = false) ∧
    (erase (fun j => { j with txn := some x })).jnl.txn ≠ none ∧
    (jnl' (fun j => { j with readOnly := true })).jnl.readOnly = true ∧ up.jnl.readOnly = false := by
  refine ⟨turn_of ?_, ⟨turn_of ?_, ?_⟩, ⟨turn_of ?_, ?_⟩, ?_⟩
  all_goals and_intros
  all_goals decide +kernel

theorem witness_BoardTableWearScrubAndCountersRun :
    let img : List Word := [0x42544C31, 1, 12, 0, 0x89900, 0, 0, 0, 0, 0, 0, 0]
    let wr := msg 0x0F05 (12 :: img)
    let bad := msg 0x0F05 [1, 7]
    let wear := msg 0x0F07 [2 + 0x8001 * 65536]
    let cfg := msg 0x0F08 [350 + 2 * 512, 0x20, 0]
    let rd : Nat → State := fun b => msg 0x0F09 [BitVec.ofNat 32 (288 + 64 * 512 + b * 65536)]
    (wr.turnP 0 0x0F05 ∧ (wr.pw 0 0).fld 31 10 = 0 ∧ btOk ((span 1 12).map (wr.pw 0)) = true ∧ (wr.pw 0 0).fld 9 0 = 12) ∧
    ((msg 0x0F05 [0]).turnP 0 0x0F05 ∧ ((msg 0x0F05 [0]).pw 0 0).fld 9 0 = 0) ∧
    (bad.turn 0 0x0F05 ∧ (bad.pw 0 0).fld 9 0 ≠ 0 ∧ btOk ((span 1 1).map (bad.pw 0)) = false) ∧
    (msg 0x0F06).turn 0 0x0F06 ∧
    (wear.turn 0 0x0F07 ∧ (wear.pw 0 0).fld 15 3 = 0 ∧ wear.jnl.txn = none ∧ wear.jnl.readOnly = false) ∧
    (let s := msg 0x0F07 [2] (jnl' (fun j => { j with txn := some { seq := 1, subj := 2, left := 2, waiter := .none } }))
     s.turn 0 0x0F07 ∧ s.jnl.txn ≠ none ∧ (msg 0x0F07 [2] (jnl' (fun j => { j with readOnly := true }))).jnl.readOnly = true) ∧
    (cfg.turn 0 0x0F08 ∧ (cfg.pw 0 0).fld 31 18 = 0 ∧ (cfg.pw 0 0).fld 8 0 + (cfg.pw 0 0).fld 17 9 = 352 ∧ (cfg.pw 0 1).fld 31 25 = 0 ∧
      (cfg.pw 0 2).fld 31 16 = 0 ∧ (cfg.pw 0 1).fld 7 0 ≠ 0 ∧ ∀ k ∈ span 350 2, perfEventOk k ((cfg.pw 0 1).fld 7 0) = true ∧ perfLocOk k ((cfg.pw 0 2).fld 15 0) = true) ∧
    ((rd 0).turn 0 0x0F09 ∧ ((rd 0).pw 0 0).fld 31 17 = 0 ∧ ((rd 0).pw 0 0).fld 15 9 = 64 ∧ ((rd 0).pw 0 0).fld 8 0 + 64 = 352 ∧
      ((rd 0).pw 0 0).bit 16 = false) ∧
    ((rd 1).turn 0 0x0F09 ∧ ((rd 1).pw 0 0).bit 16 = true) ∧
    State.reset.dom (72 + (3 : Fin 8)) = false ∧ up.dom (72 + (3 : Fin 8)) = true ∧
    tget 0 up.fuse.chosen (fuseKey (7 : Fin 20) (0 : Fin 64)) = 0 ∧ tget 0 up.fuse.chosen (fuseKey (0 : Fin 20) (0 : Fin 64)) = 0 + 1 := by
  refine ⟨⟨turnP_of ?_, ?_⟩, ⟨turnP_of ?_, ?_⟩, ⟨turn_of ?_, ?_⟩, turn_of ?_, ⟨turn_of ?_, ?_⟩, ⟨turn_of ?_, ?_⟩, ⟨turn_of ?_, ?_⟩,
    ⟨turn_of ?_, ?_⟩, ⟨turn_of ?_, ?_⟩, ?_⟩
  all_goals and_intros
  all_goals decide +kernel

theorem witness_StepTakesTheFrontCommand : State.reset.pending = [] := by decide +kernel

theorem witness_CommandsLeaveTheQueueAlone : exec .wearTransaction up = .next up.startWear ∧ step up = .next up := by
  and_intros <;> rfl

theorem witness_EveryStepKeepsTheInvariant : up.Inv ∧ step up = .next up := by
  refine ⟨⟨?_, ?_, ?_, ?_, ?_, ?_, ?_⟩, rfl⟩
  all_goals first | (unfold Parented; decide +kernel) | decide +kernel | (intro x h; cases h)

/-- A parameter command with payload words w0 and v has its turn, names an existing parameter, and v is (or is not) in its range. -/
def parTurn (op idx w0 v : Nat) (fits : Bool) : Bool :=
  let s := msg op [BitVec.ofNat 32 w0, BitVec.ofNat 32 v]
  turnB s 0 op && s.jnl.txn.isNone && (s.pw 0 0).fld 7 0 == idx &&
    match findPar (op / 256) idx with
    | none => false
    | some p => p.ok v == fits && p.eff != .readOnly

theorem witness_ParameterWritesReachExactlyTheirInstances :
    (parTurn 0x0108 0 0 30 true ∧ parTurn 0x0108 0 0 0xFFFFFFFF false ∧ findPar 1 255 = none ∧ turnB (msg 0x0108 [255, 0]) 0 0x0108 = true) ∧
    parTurn 0x0206 0 0 1 true ∧ (parTurn 0x0305 0 0 1 true ∧ up.work TB_AS_PORTS 0 ≠ 0) ∧
    (∀ p ∈ findPar 4 0, parTurn 0x0402 0 (1 * 2 ^ 17) p.dflt true ∧ (p.insts = 1 ∨ 0 + 1 ≤ p.insts)) ∧
    (∀ p ∈ findPar 5 0, parTurn 0x0502 0 (1 * 2 ^ 17) p.dflt true ∧ (p.insts = 1 ∨ 0 + 1 ≤ p.insts)) ∧
    (∀ p ∈ findPar 6 0, parTurn 0x0602 0 (1 * 2 ^ 11) p.dflt true ∧ up.work SHOT_IOPEN_MV 0 < up.work SHOT_IMAX_MV 0) ∧
    (∀ p ∈ findPar 7 0, parTurn 0x0702 0 0 p.dflt true ∧ up.work CAP_LADDER_LO_PCT 0 < up.work CAP_LADDER_HI_PCT 0) ∧
    (∀ p ∈ findPar 8 0, parTurn 0x0802 0 0 p.dflt true) ∧ (∀ p ∈ findPar 9 0, parTurn 0x0902 0 0 p.dflt true) ∧
    (∀ p ∈ findPar 11 2, parTurn 0x0B02 2 258 p.dflt true) ∧ (∀ p ∈ findPar 12 0, parTurn 0x0C02 0 0 p.dflt true) ∧
    (∀ p ∈ findPar 13 0, parTurn 0x0D02 0 0 p.dflt true) ∧
    (∀ p ∈ findPar 14 0, parTurn 0x0E02 0 (1 * 2 ^ 17) p.dflt true ∧ (p.insts = 1 ∨ 0 + 1 ≤ p.insts)) ∧
    (∀ p ∈ findPar 15 0, parTurn 0x0F02 0 0 p.dflt true) ∧
    (∀ k ∈ [4, 5, 6, 7, 8, 9, 12, 13, 14, 15], (findPar k 0).isSome = true) ∧ (findPar 11 2).isSome = true ∧ (findPar 1 1).any (·.eff == .readOnly) = true := by
  and_intros <;> decide +kernel

theorem witness_ParameterReadsReturnTheWorkingCopy :
    (∀ op ∈ [0x0109, 0x0207, 0x0306, 0x0403, 0x0503, 0x0603, 0x0703, 0x0803, 0x0903, 0x0D03, 0x0E03, 0x0F03, 0x0C03],
      turnB (msg op [0]) 0 op = true ∧ (findPar (op / 256) 0).isSome = true) ∧ findPar 1 255 = none ∧
    (∃ i, i < 256 ∧ (findPar 4 i).any (fun p => p.insts ≠ 1 ∧ 511 < p.insts) = true) ∧
    (turnB (msg 0x0C03 [12]) 0 0x0C03 = true ∧ ((msg 0x0C03 [12]).pw 0 0).fld 31 9 = 0 ∧ ((msg 0x0C03 [12]).pw 0 0).fld 7 0 = 12) ∧
    (∀ i ∈ [0, 1, 5, 12, 13], turnB (msg 0x0B03 [BitVec.ofNat 32 (i + 256)]) 0 0x0B03 = true ∧
      ((msg 0x0B03 [BitVec.ofNat 32 (i + 256)]).pw 0 0).fld 31 9 = 0 ∧ ((msg 0x0B03 [BitVec.ofNat 32 (i + 256)]).pw 0 0).fld 7 0 = i) ∧
    (findPar 11 5).isSome = true := by
  and_intros <;> decide +kernel

/-! An ill-formed operand for each check of WellFormed, and a well-formed one. -/
def gram0 : Arrival := { port := .a, src := {}, udp := 0, vid := 0, bytes := [] }
def fwd0 : FwdDgram := { chain := 1, queue := 2, cls := 1, port := 1, dest := 5, pcp := 0, dscp := 0, seq := 0, lost := 0, recs := [[1]] }
def rep0 : ChainReport := {
  from_ := 1, armed := false, image := 0, sT := 256, sL := 256, aligned := true, dev := 2, warm := true, spin := 3
  lock := true, complete := true }

theorem test_wf_refuses_datagrams : (Instr.skeicMessageArrival gram0).wf = true ∧
    (Instr.skeicMessageArrival { gram0 with udp := 65536 }).wf = false ∧
    (Instr.skeicMessageArrival { gram0 with vid := 4096 }).wf = false ∧
    (Instr.forwardedMessageArrival true [0, 0, 0]).wf = false ∧ (Instr.forwardedMessageArrival true [0, 0, 0, 0]).wf = true ∧
    (Instr.wakeFrame (2 ^ 48) 0 gram0).wf = false ∧ (Instr.wakeFrame 0 65536 gram0).wf = false ∧
    (Instr.ethFrameReceive .a { rx0 with mac := 2 ^ 48 }).wf = false ∧ (Instr.ethFrameReceive .a { rx0 with vid := some 4096 }).wf = false ∧
    (Instr.ethFrameReceive .a { rx0 with ip := 5 }).wf = false ∧ (Instr.ethFrameReceive .a { rx0 with bytes := [0], size := 0 }).wf = false ∧
    (Instr.ethFrameReceive .a rx0).wf = true := by
  and_intros <;> decide +kernel

theorem test_wf_refuses_measurements : (Instr.pwrStateGet 0 65536 0).wf = false ∧ (Instr.pwrStateGet 0 0 65536).wf = false ∧
    (Instr.pwrRailRead 0 [(0, 0)] 0).wf = false ∧ (Instr.pwrRailRead 0 (List.replicate 5 (0, 65536)) 0).wf = false ∧
    (Instr.pwrRailRead 0 (List.replicate 5 (0, 0)) 65535).wf = true ∧ (Instr.tbStatusGet 0 32768).wf = false ∧
    (Instr.tbStatusGet 0 (-32768)).wf = true ∧ (Instr.calStatusGet 0 true 65536 0).wf = false ∧
    (Instr.sampleTick [{ ch := 3, code := 0, clamp := none }, { ch := 3, code := 1, clamp := none }]).wf = false ∧
    (Instr.sampleTick [{ ch := 3, code := 1024, clamp := none }]).wf = false ∧ (Instr.caSample 8388608).wf = false ∧
    (Instr.caSample (-8388608)).wf = true ∧ (Instr.temperatureReading [0]).wf = false ∧
    (Instr.temperatureReading (List.replicate 12 0)).wf = true ∧ (Instr.calPassComplete [meas 0] 0).wf = false := by
  and_intros <;> decide +kernel

theorem test_wf_refuses_chain_words : (Instr.laneMarker true 0 4 0 0 0 false).wf = false ∧ (Instr.laneMarker true 0 0 8 0 0 false).wf = false ∧
    (Instr.stateReportReceive true rep0).wf = true ∧ (Instr.stateReportReceive true { rep0 with sT := 512 }).wf = false ∧
    (Instr.forwardedDatagram fwd0).wf = true ∧ (Instr.forwardedDatagram { fwd0 with dest := 1024 }).wf = false ∧
    (Instr.addressResolution [(2, 1, 1)]).wf = false ∧ (Instr.addressResolution [(1, 1, 2 ^ 48)]).wf = false ∧
    (Instr.mapperCopyReceive (2 ^ 64) 0 0 0 0 0 [0, 0, 0] [0, 0, 0]).wf = false ∧ (Instr.triggerWordReceive 0 0 1).wf = false ∧
    (Instr.triggerWordReceive 0 0 0).wf = true := by
  and_intros <;> decide +kernel

/-! Worked examples of the spec. -/

/-- Chapter 01: domain 21 on brings 95, 69 and 53; then 69 off leaves 95. -/
theorem test_domain_order :
    let s := pwr' (fun x => { x with on := 0 })
    (s.switch 21 true false).pwr.on = 1#96 <<< 21 ||| 1#96 <<< 53 ||| 1#96 <<< 69 ||| 1#96 <<< 95 ∧
      ((s.switch 21 true false).switch 69 false false).pwr.on = 1#96 <<< 95 := by
  and_intros <;> decide +kernel

/-- Chapter 03: the fit of four edges, and the time of a tick. -/
theorem test_pps_fit :
    let f := lsFit [(103000000000, 164800001096), (102000000000, 163200001063), (101000000000, 161600001033), (100000000000, 160000001000)]
    f.a + f.base = 160000001000 + 3 / 10 ∧ f.b = 1600000031 + 8 / 10 ∧ (f.time (165600001513 + 1 / 2)).floor = 103500000251 := by
  and_intros <;> decide +kernel

/-- Chapter 04: the sample formats of a peak and of an undershoot. -/
theorem test_sample_formats :
    (List.range 4).map (fun k => container k { n := 0, code := 712, sat := false, sv := 2563, ex := false, b := 285 }) = [0x02C8, 0x0A03, 0xB200, 0x5018] ∧
      (List.range 4).map (fun k => container k { n := 0, code := 58, sat := false, sv := -53, ex := false, b := 285 }) = [0x003A, 0xFFCB, 0x0E80, 0xFE58] := by
  and_intros <;> decide +kernel

/-- Chapter 05: the fraction of code 157, the walk between entries 33 and 34, the skew 30 °C above calibration. -/
theorem test_fine_time :
    let walk : List Word := (List.range 32).map (fun i => if i = 16 then pack [(0, 16), (96 * 16, 16)] else if i = 17 then pack [(95 * 16, 16)] else 0)
    let s := { p' (fun p => { p with timing := [(417 * 8, walk), (417 * 8 + 6, [pack [(160, 16), (13, 16)], 0])] }) with
      therm := { up.therm with t := [(6, 480)] } }
    fraction 157 (12 * 16, 232 * 16) = (160 * 16, false) ∧ s.walk 417 false 2160 0 = 95 * 16 + 4 ∧
      s.skewOf 417 1 = 160 + 24 := by
  and_intros <;> decide +kernel

/-- Chapter 05: the two relative patterns of block 3, for the returns in cells 4, 5, 9 and 15. -/
theorem test_coincidence_patterns :
    let p0 : List Word := [pack [(0, 15), (1, 1), (0, 1), (1, 1)], 0x300]
    let p1 : List Word := [pack [(0, 15), (1, 1), (0, 1), (1, 1)], 0x180]
    let pair : Nat → Bool := fun k => k == 4 || k == 5
    patternHit p0 4 pair = true ∧ patternHit p1 4 pair = false ∧ patternHit p0 5 pair = false ∧ patternHit p1 5 pair = true ∧
      patternHit p0 9 (· == 9) = false ∧ patternHit p1 9 (· == 9) = false ∧ patternHit p0 15 (· == 15) = true := by
  and_intros <;> decide +kernel

/-- Chapter 10: the energy of a sub-pulse in nJ. -/
theorem test_pulse_energy : pulseEnergy 1600 1024000 = 6400 := by decide +kernel

/-- Chapter 11: the compact point of channel 417. -/
theorem test_compact_point :
    let r : Ret := { ret0 with idx := 4410, frame := 77, ch := 417, range := 405669, inten := 1080, width := 24, conf := 255 }
    (enum' (fun x => { x with addr := none })).pointWords r 0 255 false false 9 0 = [0x044E8D08, 0x18C29400, 0x043818FF, 0x00004D09] := by
  decide +kernel

/-- Chapter 14: the thermal scales at each reading, and a Pt100 of 139.0596 Ω between two steps of 1/1,024 °C. -/
theorem test_thermal_scale :
    [1928, 1952, 1976, 1996, 1997].map (thermalScale 20) = [256, 204, 128, 64, 60] ∧ thermalScale 8 2079 = 72 ∧
      ptSearch 21 (1390596 / 1000000) (-204800) = 103896 := by
  and_intros <;> decide +kernel

/-- Chapter 15: the newest valid generation is in use and the next one written is the lowest free. -/
theorem test_fuse_generations :
    let ok : FuseGen := { value := 5, check := fuseCheck 7 5, marker := true }
    let s := fuse' (fun f => { f with gens := [(3584, ok), (3585, { ok with check := ok.check + 1 }), (3586, ok)] })
    s.newestValid 7 0 = 2 + 1 ∧ s.freeGen 7 0 = some 3 := by
  and_intros <;> decide +kernel

/-- Chapter 16: a transaction of one value record takes 44 bytes, one page. -/
theorem test_one_page : recordBytes 1 + commitBytes = 44 ∧ txnPages (recordBytes 1) = 1 := by
  and_intros <;> decide +kernel

theorem witness_CoincidencePatternsDecide :
    let w : List Word := [pack [(0, 15), (1, 1), (0, 1), (1, 1)], 0x300]
    let veto : List Word := [pack [(0, 15), (1, 1), (1, 1), (1, 1)], 0x300]
    let sh : Shot := { shot0 with rets := [(1, 10)] }
    let s := p' (fun p => { p with coinc := [(0, w)] })
    let v := p' (fun p => { p with coinc := [(0, veto)] })
    s.coincFor sh 0 0 = w ∧ (wd w 0).bit 15 = true ∧ (wd w 0).bit 16 = false ∧ s.coincides sh ret0 = true ∧
      s.coincides shot0 ret0 = false ∧ v.coincFor sh 0 0 = veto ∧ (wd veto 0).bit 16 = true ∧ v.coincides sh ret0 = false := by
  and_intros <;> decide +kernel

theorem witness_ReceiveSetsAndPatternsAreReadAsLaidOut :
    (511 : Nat) < 512 ∧ { shot0 with rset := 0 : Shot }.rset = 0 ∧ (15 : Nat) < 16 := by
  and_intros <;> decide +kernel
end Sys2Proof.Tests
end

section
/-! PROOFS. Parameters: which one an index names, what a write leaves in the working copy and in force, and what the
PARAM_READ and PARAM_WRITE bodies that the subjects share come to (R13, R198, R474). -/
namespace Sys2Proof.Machine

@[simp] theorem need_true (why : String) (r : Res) : need true why r = r := rfl

@[simp] theorem need_false (why : String) (r : Res) : need false why r = .err why := rfl

/-! ### The parameter of an index -/

/-- A parameter that an index names stands in its subject's table under that index. -/
theorem findPar_some {subj i : Nat} {p : Par} (h : findPar subj i = some p) : p ∈ parsOf subj ∧ p.idx = i :=
  ⟨List.mem_of_find?_eq_some h, by simpa using List.find?_some h⟩

/-- The parameters of a subject carry its number. -/
theorem parsOf_subj {subj : Nat} {p : Par} (h : p ∈ parsOf subj) : p.subj = subj := by
  unfold parsOf at h
  split at h
  case h_16 => cases h
  all_goals revert p; decide

/-- Keys of two parameters of one subject differ in their index. -/
theorem parKey_ne {subj i i' j k : Nat} (h : i ≠ i') (hj : j < 2 ^ 16) (hk : k < 2 ^ 16) :
    parKey subj i j ≠ parKey subj i' k := by
  unfold parKey; omega

/-- Keys of two instances of a parameter differ. -/
theorem parKey_inj {subj i j k : Nat} : parKey subj i j = parKey subj i k ↔ j = k := by
  unfold parKey; omega

/-! ### A single write -/

section
variable {s : State} {p q : Par} {v i k : Nat}

theorem work_writePar_self : (s.writePar p v i).work p i = v := by
  simp [State.work, State.writePar]

theorem work_writePar_other (h : parKey q.subj q.idx k ≠ parKey p.subj p.idx i) :
    (s.writePar p v i).work q k = s.work q k := by
  rw [State.work, State.work, tget, tget]
  congr 1
  show tfind (tset p.dflt s.p.par (parKey p.subj p.idx i) v) (parKey q.subj q.idx k) = _
  unfold tset
  split
  · rw [tfind_tdel, if_neg h]
  · rw [tfind_tput, if_neg h]

theorem cur_writePar_other (h : parKey q.subj q.idx k ≠ parKey p.subj p.idx i) :
    (s.writePar p v i).cur q k = s.cur q k := by
  have hlag : tfind (s.writePar p v i).lag (parKey q.subj q.idx k) = tfind s.lag (parKey q.subj q.idx k) := by
    unfold State.writePar
    dsimp only
    split
    · rfl
    · split
      · rw [tfind_tdel, if_neg h]
      · rw [tfind_tput, if_neg h]
  rw [State.cur, State.cur, hlag, work_writePar_other h]

/-- A written value that does not come into force at once leaves the value in force (R13). -/
theorem cur_writePar_self (hn : p.eff ≠ .now) (hr : p.eff ≠ .readOnly) : (s.writePar p v i).cur p i = s.cur p i := by
  have hlag : (s.writePar p v i).lag = if v = s.cur p i then tdel s.lag (parKey p.subj p.idx i)
      else tput s.lag (parKey p.subj p.idx i) (s.cur p i) := by
    simp [State.writePar, hn, hr]
  rw [State.cur, hlag]
  by_cases hv : v = s.cur p i
  · rw [if_pos hv, tfind_tdel, if_pos rfl]
    exact work_writePar_self.trans hv
  · rw [if_neg hv, tfind_tput, if_pos rfl]

end

/-! ### The named instances written -/

/-- t is s with v written into the instances is of p: their working copy holds v, their value in force stays unless the
parameter comes into force at once, and every other parameter and every other of its instances stands as it was. -/
def ParWritten (s t : State) (p : Par) (v : Nat) (is : List Nat) : Prop :=
  t = { s with p := { s.p with par := t.p.par }, lag := t.lag } ∧
  (∀ j ∈ is, t.work p j = v ∧ (p.eff ≠ .now → t.cur p j = s.cur p j)) ∧
  ∀ q k, (∀ j ∈ is, parKey q.subj q.idx k ≠ parKey p.subj p.idx j) → t.work q k = s.work q k ∧ t.cur q k = s.cur q k

theorem parWritten_writePar {p : Par} (hr : p.eff ≠ .readOnly) (s : State) (v i : Nat) :
    ParWritten s (s.writePar p v i) p v [i] := by
  refine ⟨rfl, fun j hj => ?_, fun q k h => ?_⟩
  · rw [List.mem_singleton.1 hj]
    exact ⟨work_writePar_self, fun hn => cur_writePar_self hn hr⟩
  · have h := h i (List.mem_singleton_self i)
    exact ⟨work_writePar_other h, cur_writePar_other h⟩

/-- Writing one of the instances first, then the others, writes all of them. -/
theorem ParWritten.cons {s t u : State} {p : Par} {v i : Nat} {is : List Nat} (h : ParWritten s t p v [i])
    (g : ParWritten t u p v is) : ParWritten s u p v (i :: is) := by
  obtain ⟨h1, hi, ho⟩ := h
  obtain ⟨g1, gi, go⟩ := g
  refine ⟨by rw [h1] at g1; exact g1, fun j hj => ?_, fun q k hk => ?_⟩
  · by_cases hji : j = i
    · subst hji
      obtain ⟨hw, hc⟩ := hi j (List.mem_singleton_self j)
      by_cases hm : j ∈ is
      · exact ⟨(gi j hm).1, fun hn => ((gi j hm).2 hn).trans (hc hn)⟩
      · obtain ⟨gw, gc⟩ := go p j fun l hl hkey => hm (parKey_inj.1 hkey ▸ hl)
        exact ⟨gw.trans hw, fun hn => gc.trans (hc hn)⟩
    · obtain ⟨gw, gc⟩ := gi j ((List.mem_cons.1 hj).resolve_left hji)
      obtain ⟨-, hc⟩ := ho p j fun l hl => by
        rw [List.mem_singleton.1 hl]
        exact fun hkey => hji (parKey_inj.1 hkey)
      exact ⟨gw, fun hn => (gc hn).trans hc⟩
  · obtain ⟨hw, hc⟩ := ho q k fun l hl => hk l (List.mem_singleton.1 hl ▸ List.mem_cons_self)
    obtain ⟨gw, gc⟩ := go q k fun l hl => hk l (List.mem_cons_of_mem i hl)
    exact ⟨gw.trans hw, gc.trans hc⟩

theorem parWritten_writePars {p : Par} (hr : p.eff ≠ .readOnly) (s : State) (v first n : Nat) :
    ParWritten s (s.writePars p v first n) p v (span first n) := by
  unfold State.writePars
  induction span first n generalizing s with
  | nil => exact ⟨rfl, fun j hj => absurd hj List.not_mem_nil, fun _ _ _ => ⟨rfl, rfl⟩⟩
  | cons i is ih => exact (parWritten_writePar hr s v i).cons (ih _)

theorem mem_span {a n j : Nat} : j ∈ span a n ↔ a ≤ j ∧ j < a + n := by
  simp only [span, List.mem_map, List.mem_range]
  constructor
  · rintro ⟨x, hx, rfl⟩; omega
  · rintro ⟨h1, h2⟩; exact ⟨j - a, by omega, by omega⟩

/-- The instances that a range names: the only one of a device-wide parameter, else n from first on (R152). -/
def namedInsts (p : Par) (first n : Nat) : List Nat := if p.insts = 1 then [0] else span first n

theorem zero_mem_namedInsts {p : Par} {first n : Nat} (h : p.insts = 1) : 0 ∈ namedInsts p first n := by
  simp [namedInsts, h]

theorem lt_of_mem_namedInsts {p : Par} {first n j : Nat} (h : p.insts = 1 ∨ first + n ≤ 2 ^ 16)
    (hj : j ∈ namedInsts p first n) : j < 2 ^ 16 := by
  unfold namedInsts at hj
  by_cases h1 : p.insts = 1
  · rw [if_pos h1] at hj
    rw [List.mem_singleton.1 hj]
    decide
  · rw [if_neg h1] at hj
    have hj := mem_span.1 hj
    have h := h.resolve_left h1
    omega

theorem parWritten_namedInsts {p : Par} (hr : p.eff ≠ .readOnly) (s : State) (v first n : Nat) :
    ParWritten s (if p.insts = 1 then s.writePar p v 0 else s.writePars p v first n) p v (namedInsts p first n) := by
  unfold namedInsts
  by_cases h1 : p.insts = 1
  · rw [if_pos h1, if_pos h1]
    exact parWritten_writePar hr s v 0
  · rw [if_neg h1, if_neg h1]
    exact parWritten_writePars hr s v first n

/-- The working copy of a device-wide parameter q after a write of its subject's parameter of index i: the value written
where i names q, else what it was. -/
theorem ParWritten.work_device {s t : State} {p q : Par} {v subj i : Nat} {is : List Nat} (h : ParWritten s t p v is)
    (hp : findPar subj i = some p) (hq : findPar subj q.idx = some q) (h0 : p.insts = 1 → 0 ∈ is) (hq1 : q.insts = 1)
    (hlt : ∀ j ∈ is, j < 2 ^ 16) : t.work q 0 = if i = q.idx then v else s.work q 0 := by
  obtain ⟨-, hin, hout⟩ := h
  obtain ⟨hpm, hpi⟩ := findPar_some hp
  obtain ⟨hqm, -⟩ := findPar_some hq
  by_cases hi : i = q.idx
  · rw [if_pos hi]
    obtain rfl : p = q := Option.some.inj (hp.symm.trans (hi ▸ hq))
    exact (hin 0 (h0 hq1)).1
  · rw [if_neg hi]
    refine (hout q 0 fun j hj => ?_).1
    rw [parsOf_subj hpm, parsOf_subj hqm, hpi]
    exact parKey_ne (Ne.symm hi) (by decide) (hlt j hj)

/-! ### What a PARAM_WRITE body comes to -/

/-- The result r of a body that writes v into the instances is of p, and what `after` adds, under condition C: it commits the
change where C holds, and is a host error where not. -/
def WriteOutcome (s : State) (p : Par) (v : Nat) (is : List Nat) (C : Prop) (after : State → Par → State) (r : Res) : Prop :=
  (¬ C → ∃ why, r = .err why) ∧ (C → ∃ t, r = .commit (after t p) (recordBytes 1) [] ∧ ParWritten s t p v is)

/-- The result r of a PARAM_WRITE body of a subject: an unknown index is a host error, and a known one is written where the
parameter is not read-only, the value in range and the further condition met. -/
def WriteResult (s : State) (m subj : Nat) (is : Par → List Nat) (cond : Par → Prop) (after : State → Par → State)
    (r : Res) : Prop :=
  (findPar subj ((s.pw m 0).fld 7 0) = none → ∃ why, r = .err why) ∧
  ∀ p, findPar subj ((s.pw m 0).fld 7 0) = some p → WriteOutcome s p (s.pw m 1).toNat (is p)
    (p.eff ≠ .readOnly ∧ p.ok (s.pw m 1).toNat = true ∧ cond p) after r

section
variable {s t : State} {m subj : Nat} {p : Par} {v : Nat} {is : List Nat} {C D : Prop} {c : Bool} {why : String}
  {after : State → Par → State} {r : Res}

theorem WriteOutcome.commit (after : State → Par → State) (h : ParWritten s t p v is) :
    WriteOutcome s p v is True after (.commit (after t p) (recordBytes 1) []) :=
  ⟨fun h => absurd trivial h, fun _ => ⟨t, rfl, h⟩⟩

/-- A host error stays one behind a further check. -/
theorem err_need (c : Bool) (why : String) (h : ∃ w, r = .err w) : ∃ w, need c why r = .err w := by
  cases c with
  | false => exact ⟨why, rfl⟩
  | true => exact h

/-- A check in front of a body adds its condition. -/
theorem WriteOutcome.need (hc : c = true ↔ C) (h : C → WriteOutcome s p v is D after r) :
    WriteOutcome s p v is (C ∧ D) after (need c why r) := by
  refine ⟨fun hn => ?_, fun ⟨hC, hD⟩ => ?_⟩
  · by_cases hC : C
    · exact err_need c why ((h hC).1 fun hD => hn ⟨hC, hD⟩)
    · rw [Bool.eq_false_iff.2 (mt hc.1 hC)]
      exact ⟨why, rfl⟩
  · rw [hc.2 hC]
    exact (h hC).2 hD

theorem WriteOutcome.congr (h : WriteOutcome s p v is C after r) (hCD : C ↔ D) : WriteOutcome s p v is D after r :=
  propext hCD ▸ h

/-- A check in front of the whole PARAM_WRITE body, whatever the index, adds its condition. -/
theorem WriteResult.need {is : Par → List Nat} (h : WriteResult s m subj is (fun _ => True) after r) (hc : c = true ↔ C) :
    WriteResult s m subj is (fun _ => C) after (need c why r) := by
  obtain ⟨hnone, hsome⟩ := h
  exact ⟨fun hp => err_need c why (hnone hp), fun p hp =>
    (WriteOutcome.need hc fun _ => hsome p hp).congr
      ⟨fun ⟨hC, hr, hv, _⟩ => ⟨hr, hv, hC⟩, fun ⟨hr, hv, hC⟩ => ⟨hC, hr, hv, trivial⟩⟩⟩

/-- A device-wide PARAM_WRITE. -/
theorem parWrite_result (after : State → Par → State) (h : (s.pw m 0).fld 31 8 = 0) :
    WriteResult s m subj (fun _ => [0]) (fun _ => True) after (s.parWrite subj m after) := by
  unfold WriteResult State.parWrite
  rw [decide_eq_true h, need_true]
  refine ⟨fun hp => ⟨"parameter index", by rw [hp]⟩, fun p hp => ?_⟩
  rw [hp]
  exact .need decide_eq_true_iff fun hr => .need Iff.rfl fun _ => .commit after (parWritten_writePar hr s _ 0)

/-- A PARAM_WRITE with a range of instances (R152). -/
theorem parWriteRange_result (after : State → Par → State) (h : (s.pw m 0).fld 31 27 = 0) :
    WriteResult s m subj (fun p => namedInsts p ((s.pw m 0).fld 16 8) ((s.pw m 0).fld 26 17))
      (fun p => p.insts = 1 ∨ (s.pw m 0).fld 16 8 + (s.pw m 0).fld 26 17 ≤ p.insts) after (s.parWriteRange subj m after) := by
  unfold WriteResult State.parWriteRange
  rw [decide_eq_true h, need_true]
  refine ⟨fun hp => ⟨"parameter index", by rw [hp]⟩, fun p hp => ?_⟩
  rw [hp]
  refine .need decide_eq_true_iff fun hr => .need Iff.rfl fun _ => ?_
  have hw := parWritten_namedInsts hr s (s.pw m 1).toNat ((s.pw m 0).fld 16 8) ((s.pw m 0).fld 26 17)
  by_cases h1 : p.insts = 1
  · rw [if_pos h1] at hw ⊢
    exact (WriteOutcome.commit after hw).congr (iff_of_true trivial (.inl h1))
  · rw [if_neg h1] at hw ⊢
    exact (WriteOutcome.need decide_eq_true_iff fun _ => .commit after hw).congr (by simp [h1])

end

/-! ### What a PARAM_READ body comes to -/

/-- The result r of a PARAM_READ body of a subject: an unknown index is a host error, a known one answers W0 and the working
copy, of the first named one where the parameter has several instances and it is among them. -/
def ReadResult (s : State) (m subj first : Nat) (bound : Prop) (r : Res) : Prop :=
  (findPar subj ((s.pw m 0).fld 7 0) = none → ∃ why, r = .err why) ∧
  ∀ p, findPar subj ((s.pw m 0).fld 7 0) = some p →
    (p.insts = 1 → r = .done s [s.pw m 0, w32 (s.work p 0)]) ∧
    (p.insts ≠ 1 → (bound ∨ first < p.insts) → r = .done s [s.pw m 0, w32 (s.work p first)]) ∧
    (p.insts ≠ 1 → ¬ (bound ∨ first < p.insts) → ∃ why, r = .err why)

section
variable {s : State} {m subj : Nat}

/-- A device-wide PARAM_READ. -/
theorem parRead_result (h : (s.pw m 0).fld 31 8 = 0) : ReadResult s m subj 0 True (s.parRead subj m) := by
  unfold ReadResult State.parRead
  rw [decide_eq_true h, need_true]
  refine ⟨fun hp => ⟨"parameter index", by rw [hp]⟩, fun p hp => ?_⟩
  rw [hp]
  exact ⟨fun _ => rfl, fun _ _ => rfl, fun _ hn => absurd (.inl trivial) hn⟩

/-- A PARAM_READ with a range of instances. -/
theorem parReadRange_result (h : (s.pw m 0).fld 31 27 = 0) :
    ReadResult s m subj ((s.pw m 0).fld 16 8) False (s.parReadRange subj m) := by
  unfold ReadResult State.parReadRange
  rw [decide_eq_true h, need_true]
  refine ⟨fun hp => ⟨"parameter index", by rw [hp]⟩, fun p hp => ?_⟩
  rw [hp]
  refine ⟨fun h1 => by simp [h1], fun h1 hb => ?_, fun h1 hb => ⟨"channel range", ?_⟩⟩
  · simp [h1, hb.resolve_left id]
  · simp [h1, mt Or.inr hb]

end

end Sys2Proof.Machine
end

section
/-! PROOFS. The PARAM_WRITE commands, subject by subject (R13, R72, R109, R152, R197, R247, R288, R327, R362, R449, R486, R526,
R555, R574, R602). -/
namespace Sys2Proof.Machine

/-- What ParameterWritesReachExactlyTheirInstances says of one PARAM_WRITE command i. -/
def WritesParams (s : State) (m : Fin 64) (i : Instr) (op spare : Nat) (is : Par → List Nat) (cond : Par → Prop)
    (after : State → Par → State) : Prop :=
  (s.pw m 0).fld 31 spare = 0 →
    (findPar (op / 256) ((s.pw m 0).fld 7 0) = none → s.turn m op → ∃ why, exec i s = .fault (.hostError why)) ∧
    (∀ p, findPar (op / 256) ((s.pw m 0).fld 7 0) = some p →
      (s.turn m op → (p.eff = .readOnly ∨ p.ok (s.pw m 1).toNat = false ∨ ¬ cond p) →
        ∃ why, exec i s = .fault (.hostError why)) ∧
      (s.turnP m op → p.eff ≠ .readOnly → p.ok (s.pw m 1).toNat = true → cond p → ∃ t,
        exec i s = .next ((after t p).commitAnswer (op / 256) (recordBytes 1) m []) ∧
        ParWritten s t p (s.pw m 1).toNat (is p)))

/-- A command whose body comes to the result of a PARAM_WRITE is one. -/
theorem writesParams_of_result {s : State} {m : Fin 64} {i : Instr} {op spare : Nat} {is : Par → List Nat}
    {cond : Par → Prop} {after : State → Par → State} {body : State → Res} (hi : exec i s = s.skeic op m body)
    (h : (s.pw m 0).fld 31 spare = 0 → WriteResult s m (op / 256) is cond after (body s)) :
    WritesParams s m i op spare is cond after := by
  intro hspare
  obtain ⟨hnone, hsome⟩ := h hspare
  rw [hi]
  refine ⟨fun hp turn => ?_, fun p hp => ⟨fun turn hbad => ?_, fun turn hr hv hc => ?_⟩⟩
  · obtain ⟨why, hb⟩ := hnone hp
    exact ⟨why, skeic_err turn hb⟩
  · obtain ⟨why, hb⟩ := (hsome p hp).1 fun ⟨hr, hv, hc⟩ => by simp [hr, hv, hc] at hbad
    exact ⟨why, skeic_err turn hb⟩
  · obtain ⟨t, hb, hw⟩ := (hsome p hp).2 ⟨hr, hv, hc⟩
    exact ⟨t, skeic_commit turn hb, hw⟩

section
variable (s : State) (m : Fin 64)

/-- What the device-wide parameter q reads once the command in mailbox m has written its subject's parameter. -/
def State.afterWrite (q : Par) : Nat := if (s.pw m 0).fld 7 0 = q.idx then (s.pw m 1).toNat else s.work q 0

variable {s m}

theorem ParWritten.work_afterWrite {t : State} {p q : Par} {subj : Nat} {is : List Nat}
    (h : ParWritten s t p (s.pw m 1).toNat is) (hp : findPar subj ((s.pw m 0).fld 7 0) = some p)
    (hq : findPar subj q.idx = some q) (h0 : p.insts = 1 → 0 ∈ is) (hq1 : q.insts = 1) (hlt : ∀ j ∈ is, j < 2 ^ 16) :
    t.work q 0 = s.afterWrite m q := h.work_device hp hq h0 hq1 hlt

/-- No parameter of the shots is read-only (R247). -/
theorem shotPars_writable {p : Par} (h : p ∈ parsOf 6) : p.eff ≠ .readOnly := by
  revert p; decide

variable (s m)

/-- TB_PARAM_WRITE: 802.1AS as the source needs a port (R109). -/
theorem tbParamWrite_writes : WritesParams s m (.tbParamWrite m) 0x0305 8 (fun _ => [0])
    (fun _ => s.afterWrite m TB_SOURCE = 1 → s.afterWrite m TB_AS_PORTS ≠ 0) (fun t _ => t) := by
  refine writesParams_of_result (by rfl) fun h => ?_
  obtain ⟨hnone, hsome⟩ := parWrite_result (m := m) (subj := 3) (fun t _ => t) h
  refine ⟨fun hp => ?_, fun p hp => ?_⟩
  · obtain ⟨why, hb⟩ := hnone hp
    exact ⟨why, by rw [hb]⟩
  by_cases hC : p.eff ≠ .readOnly ∧ p.ok (s.pw m 1).toNat = true ∧ True
  · obtain ⟨t, hb, hw⟩ := (hsome p hp).2 hC
    obtain ⟨hr, hv, -⟩ := hC
    have hsrc := hw.work_afterWrite (q := TB_SOURCE) hp rfl (by simp) rfl (by simp)
    have hports := hw.work_afterWrite (q := TB_AS_PORTS) hp rfl (by simp) rfl (by simp)
    rw [hb]
    refine (WriteOutcome.need (C := s.afterWrite m TB_SOURCE = 1 → s.afterWrite m TB_AS_PORTS ≠ 0) ?_
      fun _ => .commit (fun t _ => t) hw).congr (by simp [hr, hv])
    rw [hsrc, hports]
    simp [Decidable.imp_iff_not_or]
  · obtain ⟨why, hb⟩ := (hsome p hp).1 hC
    rw [hb]
    exact ⟨fun _ => ⟨why, rfl⟩, fun ⟨hr, hv, _⟩ => absurd ⟨hr, hv, trivial⟩ hC⟩

/-- SHOT_PARAM_WRITE: a range of strings, and SHOT_IMAX_MV above SHOT_IOPEN_MV (R247). -/
theorem shotParamWrite_writes : WritesParams s m (.shotParamWrite m) 0x0602 15
    (fun p => namedInsts p ((s.pw m 0).fld 10 8) ((s.pw m 0).fld 14 11))
    (fun p => (p.insts = 1 ∨ (s.pw m 0).fld 14 11 ≤ 8 ∧ (s.pw m 0).fld 10 8 + (s.pw m 0).fld 14 11 ≤ 8) ∧
      s.afterWrite m SHOT_IOPEN_MV < s.afterWrite m SHOT_IMAX_MV) (fun t _ => t) := by
  refine writesParams_of_result (by rfl) fun h => ?_
  unfold WriteResult
  rw [decide_eq_true h, need_true]
  refine ⟨fun hp => ⟨"parameter index", by rw [hp]⟩, fun p hp => ?_⟩
  rw [hp]
  have hr := shotPars_writable (findPar_some hp).1
  have hw := parWritten_namedInsts hr s (s.pw m 1).toNat ((s.pw m 0).fld 10 8) ((s.pw m 0).fld 14 11)
  refine (WriteOutcome.need Iff.rfl fun _ =>
    WriteOutcome.need (C := p.insts = 1 ∨ (s.pw m 0).fld 14 11 ≤ 8 ∧ (s.pw m 0).fld 10 8 + (s.pw m 0).fld 14 11 ≤ 8)
      (by simp) fun hrange =>
    WriteOutcome.need (C := s.afterWrite m SHOT_IOPEN_MV < s.afterWrite m SHOT_IMAX_MV) ?_ fun _ =>
    .commit (fun t _ => t) hw).congr (by simp [hr])
  have hlt (j : Nat) := lt_of_mem_namedInsts (j := j) (hrange.imp_right fun h => Nat.le_trans h.2 (by decide))
  rw [decide_eq_true_iff, hw.work_afterWrite hp rfl zero_mem_namedInsts rfl hlt,
    hw.work_afterWrite hp rfl zero_mem_namedInsts rfl hlt]

/-- ETH_PARAM_WRITE: the named port (R449). -/
theorem ethParamWrite_writes : WritesParams s m (.ethParamWrite m) 0x0B02 9 (fun _ => [(s.pw m 0).fld 8 8])
    (fun _ => True) (fun t _ => t) := by
  refine writesParams_of_result (by rfl) fun h => ?_
  unfold WriteResult
  rw [decide_eq_true h, need_true]
  refine ⟨fun hp => ⟨"parameter index", by rw [hp]⟩, fun p hp => ?_⟩
  rw [hp]
  exact .need decide_eq_true_iff fun hr => .need Iff.rfl fun _ => .commit (fun t _ => t) (parWritten_writePar hr s _ _)

/-- CAP_PARAM_WRITE: CAP_LADDER_LO_PCT below CAP_LADDER_HI_PCT (R288). -/
theorem capParamWrite_writes : WritesParams s m (.capParamWrite m) 0x0702 8 (fun _ => [0])
    (fun _ => s.afterWrite m CAP_LADDER_LO_PCT < s.afterWrite m CAP_LADDER_HI_PCT) (fun t _ => t) :=
  writesParams_of_result (by rfl) fun h => (parWrite_result _ h).need decide_eq_true_iff

/-- REJ_PARAM_WRITE: bits 0 and 3 of REJ_WX_RETRACT are 0 (R327). -/
theorem rejParamWrite_writes : WritesParams s m (.rejParamWrite m) 0x0802 8 (fun _ => [0])
    (fun _ => (s.pw m 0).fld 7 0 = 10 → (s.pw m 1).toNat &&& 9 = 0) (fun t _ => t) := by
  refine writesParams_of_result (by rfl) fun h => (parWrite_result _ h).need ?_
  simp [Decidable.imp_iff_not_or]

/-- MC_PARAM_WRITE: MC_SPIN_FRAMES_PER_REV is a power of two (R362). -/
theorem mcParamWrite_writes : WritesParams s m (.mcParamWrite m) 0x0902 8 (fun _ => [0])
    (fun _ => (s.pw m 0).fld 7 0 = 13 → (s.pw m 1).toNat ∈ [1, 2, 4, 8, 16]) State.motionWritten := by
  refine writesParams_of_result (by rfl) fun h => (parWrite_result _ h).need ?_
  simp [Decidable.imp_iff_not_or]

/-- HK_PARAM_WRITE: the charge amplifier is enabled only where no slot uses its inputs (R555). -/
theorem hkParamWrite_writes : WritesParams s m (.hkParamWrite m) 0x0D02 8 (fun _ => [0])
    (fun _ => (s.pw m 0).fld 7 0 = 6 → (s.pw m 1).toNat = 1 → ∀ k, k < 64 → slotOnCa (s.slotEntry k) = false)
    (fun t _ => t) := by
  refine writesParams_of_result (by rfl) fun h => (parWrite_result _ h).need ?_
  simp [Decidable.imp_iff_not_or, State.caClear, BitVec.toNat_eq, or_assoc]

end

/-- Settles O55: each command's body comes to the result of a PARAM_WRITE, the shared bodies by `parWrite_result` and
`parWriteRange_result`, with the further condition of its subject. -/
theorem parameterWritesReachExactlyTheirInstances : Obligations.ParameterWritesReachExactlyTheirInstances := by
  intro s m
  exact ⟨writesParams_of_result (by rfl) (parWrite_result _), writesParams_of_result (by rfl) (parWrite_result _),
    tbParamWrite_writes s m, writesParams_of_result (by rfl) (parWriteRange_result _),
    writesParams_of_result (by rfl) (parWriteRange_result _), shotParamWrite_writes s m, capParamWrite_writes s m,
    rejParamWrite_writes s m, mcParamWrite_writes s m, ethParamWrite_writes s m,
    writesParams_of_result (by rfl) (parWrite_result _), hkParamWrite_writes s m,
    writesParams_of_result (by rfl) (parWriteRange_result _), writesParams_of_result (by rfl) (parWrite_result _)⟩

end Sys2Proof.Machine
end

section
/-! PROOFS. The PARAM_READ commands, subject by subject (R13, R72, R109, R152, R247, R288, R327, R362, R449, R486, R513, R526,
R555, R574, R602). -/
namespace Sys2Proof.Machine

/-- What ParameterReadsReturnTheWorkingCopy says of one PARAM_READ command i. -/
def ReadsParams (s : State) (m : Fin 64) (i : Instr) (op spare first : Nat) (bound : Prop) : Prop :=
  s.turn m op → (s.pw m 0).fld 31 spare = 0 →
    (findPar (op / 256) ((s.pw m 0).fld 7 0) = none → ∃ why, exec i s = .fault (.hostError why)) ∧
    (∀ p, findPar (op / 256) ((s.pw m 0).fld 7 0) = some p →
      (p.insts = 1 → exec i s = .next (s.respond m 0 [s.pw m 0, w32 (s.work p 0)])) ∧
      (p.insts ≠ 1 → (bound ∨ first < p.insts) → exec i s = .next (s.respond m 0 [s.pw m 0, w32 (s.work p first)])) ∧
      (p.insts ≠ 1 → ¬ (bound ∨ first < p.insts) → ∃ why, exec i s = .fault (.hostError why)))

/-- A command whose body comes to the result of a PARAM_READ is one. -/
theorem readsParams_of_result {s : State} {m : Fin 64} {i : Instr} {op spare first : Nat} {bound : Prop}
    {body : State → Res} (hi : exec i s = s.skeic op m body)
    (h : (s.pw m 0).fld 31 spare = 0 → ReadResult s m (op / 256) first bound (body s)) :
    ReadsParams s m i op spare first bound := by
  intro turn hspare
  obtain ⟨hnone, hsome⟩ := h hspare
  have herr (hb : ∃ why, body s = .err why) : ∃ why, exec i s = .fault (.hostError why) :=
    hb.imp fun why hb => hi.trans (skeic_err turn hb)
  refine ⟨fun hp => herr (hnone hp), fun p hp => ?_⟩
  obtain ⟨hone, hin, hout⟩ := hsome p hp
  exact ⟨fun h1 => hi.trans (skeic_done turn (hone h1)), fun h1 hb => hi.trans (skeic_done turn (hin h1 hb)),
    fun h1 hb => herr (hout h1 hb)⟩

section
variable (s : State) (m : Fin 64)

/-- Every parameter of the shots has one value, or one for each of the eight strings (R247). -/
theorem shotPars_insts {p : Par} (h : p ∈ parsOf 6) : p.insts = 1 ∨ p.insts = 8 := by
  revert p; decide

/-- SHOT_PARAM_READ: the first named string is always one of the eight (R247). -/
theorem shotParamRead_reads : ReadsParams s m (.shotParamRead m) 0x0603 15 ((s.pw m 0).fld 10 8) False := by
  refine readsParams_of_result (by rfl) fun h => ?_
  unfold ReadResult
  rw [decide_eq_true h, need_true]
  refine ⟨fun hp => ⟨"parameter index", by rw [hp]⟩, fun p hp => ?_⟩
  rw [hp]
  refine ⟨fun h1 => by simp [h1], fun h1 _ => by simp [h1], fun h1 hb => absurd (.inr ?_) hb⟩
  rw [(shotPars_insts (findPar_some hp).1).resolve_left h1]
  exact Nat.mod_lt _ (by decide)

/-- CH_PARAM_READ of a chain parameter (R526). -/
theorem chParamRead_reads (hi : (s.pw m 0).fld 7 0 < 8 ∨ 12 < (s.pw m 0).fld 7 0) :
    ReadsParams s m (.chParamRead m) 0x0C03 8 0 True := by
  refine readsParams_of_result (by rfl) fun h => ?_
  rw [if_neg (by simp; omega)]
  exact parRead_result h

/-- CH_PARAM_READ of a board-table field of one link (R513). -/
theorem chParamRead_link (turn : s.turn m 0x0C03) (h : (s.pw m 0).fld 31 9 = 0) (h8 : 8 ≤ (s.pw m 0).fld 7 0)
    (h12 : (s.pw m 0).fld 7 0 ≤ 12) :
    let b := [(3, 0), (7, 4), (12, 8), (16, 13), (22, 17)].getD ((s.pw m 0).fld 7 0 - 8) (0, 0)
    exec (.chParamRead m) s =
      .next (s.respond m 0 [s.pw m 0, w32 ((w32 (s.linkEq ((s.pw m 0).bit 8))).fld b.1 b.2)]) := by
  refine Eq.trans (by rfl) (skeic_done turn ?_)
  rw [if_pos (by simp [h8, h12]), decide_eq_true h, need_true]
  rfl

/-- ETH_PARAM_READ of a known index (R449). -/
theorem ethParamRead_done (turn : s.turn m 0x0B03) (h : (s.pw m 0).fld 31 9 = 0) (h12 : (s.pw m 0).fld 7 0 ≤ 12) :
    exec (.ethParamRead m) s =
      .next (s.respond m 0 [s.pw m 0, w32 (s.ethPar ((s.pw m 0).fld 7 0) ((s.pw m 0).fld 8 8))]) := by
  refine Eq.trans (by rfl) (skeic_done turn ?_)
  simp [h, h12]

/-- ETH_PARAM_READ of an unknown index (R449). -/
theorem ethParamRead_unknown (turn : s.turn m 0x0B03) (h12 : 12 < (s.pw m 0).fld 7 0) :
    ∃ why, exec (.ethParamRead m) s = .fault (.hostError why) := by
  refine ⟨"reserved bits or index", Eq.trans (by rfl) (skeic_err turn ?_)⟩
  simp [Nat.not_le.2 h12]

end

/-- The port parameters have the indices 0 to 12 (R449). -/
theorem ethPars_idx {p : Par} (h : p ∈ parsOf 11) : p.idx ≤ 12 := by
  revert p; decide

/-- Settles O56: each command's body comes to the result of a PARAM_READ, but for the board-table fields. -/
theorem parameterReadsReturnTheWorkingCopy : Obligations.ParameterReadsReturnTheWorkingCopy := by
  intro s m
  refine ⟨readsParams_of_result (by rfl) parRead_result, readsParams_of_result (by rfl) parRead_result,
    readsParams_of_result (by rfl) parRead_result, readsParams_of_result (by rfl) parReadRange_result,
    readsParams_of_result (by rfl) parReadRange_result, shotParamRead_reads s m,
    readsParams_of_result (by rfl) parRead_result, readsParams_of_result (by rfl) parRead_result,
    readsParams_of_result (by rfl) parRead_result, readsParams_of_result (by rfl) parRead_result,
    readsParams_of_result (by rfl) parReadRange_result, readsParams_of_result (by rfl) parRead_result,
    chParamRead_reads s m, chParamRead_link s m, fun turn h => ⟨ethParamRead_unknown s m turn, fun hi => ?_, fun hi => ?_,
      fun p hp h0 h1 h12 => ?_⟩⟩
  · rw [ethParamRead_done s m turn h (by omega)]
    obtain hi | hi := hi <;> simp [State.ethPar, hi]
  · rw [ethParamRead_done s m turn h (by omega)]
    simp [State.ethPar, hi]
  · obtain ⟨hmem, hidx⟩ := findPar_some hp
    rw [ethParamRead_done s m turn h (hidx ▸ ethPars_idx hmem)]
    simp [State.ethPar, h0, h1, h12, hp]

end Sys2Proof.Machine
end

section
/-! PROOFS. The machine after the power-on reset of a new device (R60, R606, R614; log 6). -/
namespace Sys2Proof.Machine

/-- No domain on has every parent it needs. -/
theorem parented_zero : Parented 0 := by simp [Parented]

/-- Every domain on has every parent on. -/
theorem parented_allOnes : Parented (BitVec.allOnes 96) := by
  have on {d : Nat} (hd : d < 96) : (BitVec.allOnes 96).getLsbD d = true := by
    rw [BitVec.getLsbD_allOnes, decide_eq_true hd]
  exact ⟨fun b hb _ => on (by omega), fun b hb _ => on (by omega), fun _ _ _ => on (by decide),
    fun _ => ⟨0, by decide, on (by decide)⟩⟩

/-- The invariant holds at reset: no domain is on, every one is configured on, the journal is empty and the island has no
fault. -/
theorem reset_inv : State.reset.Inv where
  on := parented_zero
  dom := parented_allOnes
  held := parented_allOnes
  log := fun _ he => absurd he List.not_mem_nil
  txn := fun _ hx => nomatch hx
  comp := fun _ hc => nomatch hc
  island := fun h => nomatch h

/-- Settles O58: the reset state's fields as its defaults give them, and `reset_inv`. -/
theorem resetHoldsTheStatedValues : Obligations.ResetHoldsTheStatedValues := by
  refine ⟨rfl, fun p i => ⟨rfl, rfl⟩, rfl, rfl, rfl, fun d => ?_, rfl, rfl, rfl, rfl, fun m => rfl, fun n => rfl,
    fun q => ⟨rfl, rfl⟩, rfl, rfl, rfl, rfl, rfl, rfl, reset_inv⟩
  exact BitVec.getLsbD_zero

end Sys2Proof.Machine
end
